-- ==== Sys2Proof/Word.lean ====
section
/-! DEFINITION. The word types of the Portolan 2208: bytes, addresses and ring indexes. -/
namespace Sys2Proof

/-- One byte of memory or of the station-processor data bus (section 0.5.1). -/
abbrev Byte := BitVec 8

/-- A 16-bit address on the station-processor bus (section 0.4). -/
abbrev Addr := BitVec 16

/-- A free-running ring index, 0 to 255, wrapping (section 0.5.1). -/
abbrev RingIndex := BitVec 8

end Sys2Proof
end

