-- ==== Sys2Proof/Syntax.lean ====
section
/-! DEFINITION. The commands of the part: one constructor per row of spec/opcode_table.json. -/
namespace Sys2Proof

/-- The three debounced inputs of the housing (R137). -/
inductive Housing where
  | door | case | cord
  deriving DecidableEq, Repr

/-- The steps of the part, one per row of the table. The fifteen orders carry no operand: their
parameters are the bytes the Order Unit has read from the slot (R21). -/
inductive Instr where
  -- station-processor writes
  | stationProcessorWrite (addr : Addr) (value : Byte)
  | orderPosted (slot : Fin 16) (code : Byte)
  | slotFreed (slot : Fin 16)
  | restartByteWrite (value : Byte)
  | eventReadIndexWrite (value : Byte)
  | callRingReadIndexWrite (value : Byte)
  -- the Post Engine
  | postEntryComplete
  | producerAdmitted
  -- start-up
  | restartProperBegins
  | anchorRead
  | profileCheck
  | slotScan
  | eventRingHeaderRead
  | callRingHeaderRead
  | tallyRead
  | tamperAreaRead
  | liveImageRead
  | bankLoadCheck
  -- orders
  | orderTaken
  | unknownOrder
  | dial
  | dialMore
  | returnCoins
  | nextCall
  | answer
  | setClock
  | adjustClock
  | swapTariff
  | openVisit
  | closeVisit
  | clearTamper
  | reportNow
  | clearLane
  | service
  | restart
  -- calendar and battery
  | secondCarry
  | batteryFail
  -- coin path
  | entryEdge
  | entryClear
  | strobe (code : BitVec 3)
  | passageWindowExpiry
  | laneEdge
  | dropEdge
  | dropWindowExpiry
  | flushEnd
  | boxSwitchChange
  -- hook and call timers
  | hookInputChange (offHook : Bool)
  | offHook
  | onHook
  | interDigitExpiry
  | creditHoldExpiry
  | digitSignalEnd
  | answerDetected
  | answerLimitExpiry
  | unitStart
  | warnBurstTimer
  | ringReport
  | ringTimerExpiry
  -- line
  | loopPresent
  | loopTimerExpiry
  | dialToneFound
  | dialToneLimitExpiry
  | lineLoss
  | farEndClear
  | meterPulse (phase : Nat)
  | clearingGuardEnd
  -- tamper
  | housingInputEdge (input : Housing) (isOpen : Bool)
  | housingInputDebounced (input : Housing)
  | shockPulse
  | shockWindowEnd
  | shockQuietExpiry
  | slotBlockExpiry
  | slotClearExpiry
  | linevChange (present : Bool)
  | lineVoltageLossExpiry
  | lineVoltagePresentExpiry
  | forceWindowEnd
  | visitDoorTimerExpiry
  -- report calls
  | attemptDue
  | newRoundDue
  | centreTone
  | centreTimerExpiry
  | ackTone
  | nakTone
  | ackTimerExpiry
  -- supply and reset
  | powerFail
  | supplyDies
  | hresetAssert
  | leaveDark
  -- ticks and input levels
  | tenthTick
  | loopInputChange (present : Bool)
  | revInputChange (reversed : Bool)
  | dialtoneInputChange (present : Bool)
  | boxInputChange (present : Bool)
  | digitSenderPhaseEnd
  deriving DecidableEq, Repr

end Sys2Proof
end

