-- ==== Sys2Proof/Config.lean ====
section
/-! DEFINITION. The free values: what the manual leaves open and nothing in Lean can evaluate. -/
namespace Sys2Proof.Config

/-- FREE VALUE. The choice made where the manual takes things "in either order" within one step
(R12, R29); the n-th choice drawn. Log 14. -/
opaque pick : Nat → Nat

/-- FREE VALUE. The band at answer that the call in progress holds before any answer; the n-th one
drawn (R164 states no value for a call that was never answered). Log 16. -/
opaque freeBand : Nat → BitVec 3

/-- FREE VALUE. The arrival delay of an escrow entry stamped earlier than the entry before it, from
the two times in seconds (section 13.5 states none). Log 17. -/
opaque backwardDelay : Nat → Nat → Byte

end Sys2Proof.Config
end

