-- ==== Sys2Proof/Machine/State.lean ====
section
/-! DEFINITION. The state of the part, its reset value, and why a command could stop. -/
namespace Sys2Proof.Machine

/-- The machine's faults. The manual gives the part none: every error it describes is a record, a
code, a count or a part state, so no command of this model faults (log 34). -/
inductive Fault where
  deriving DecidableEq, Repr

/-- Why a command has no meaning in the model. -/
inductive Refusal where
  /-- A row of the opcode table that has no meaning yet; raised by exec's arm only; safe. -/
  | notModelled (mnemonic : String)
  deriving DecidableEq, Repr

/-- A running timer's milliseconds left, or none while it is stopped (R37, log 6). -/
abbrev Timer := Option Nat

/-! ### Code sets (section 13.1) -/

/-- The five states of the part (section 0.3.2). -/
inductive PartState where
  | dark | starting | unconfigured | running | failing
  deriving DecidableEq, Repr

/-- Reset kinds (R178). -/
inductive ResetKind where
  | cold | restoration | hard | soft
  deriving DecidableEq, Repr

/-- The stages of start-up under way (R179): anchor, profile, headers and records, Live Image,
tariff, status and announcement. -/
inductive Stage where
  | anchor | profile | records | live | tariff | announce
  deriving DecidableEq, Repr

/-- Slot states (section 2.1). -/
inductive SlotState where
  | free | posted | taken | done
  deriving DecidableEq, Repr

/-- The two tariff banks. -/
inductive Bank where
  | a | b
  deriving DecidableEq, Repr

/-- Station states (section 6.1). -/
inductive Station where
  | idle | ready | dialling | creditWait | ringback | talking | ringIn | talkingIn | reporting
  deriving DecidableEq, Repr

/-- Service modes (R92). -/
inductive Mode where
  | full | freeOnly | closed
  deriving DecidableEq, Repr

/-- Purse states (R116); absent is NONE. -/
inductive PurseState where
  | absent | opened | settling | held
  deriving DecidableEq, Repr

/-- Hold causes (R130). -/
inductive HoldCause where
  | nothing | boxAbsent | doorOpen | laneJammed
  deriving DecidableEq, Repr

/-- Lane states (section 5.5). -/
inductive LaneState where
  | clear | toBox | toReturn | jammed | flushing
  deriving DecidableEq, Repr

/-- The LANE GATE output (section 5.5). -/
inductive LaneGate where
  | hold | toBox | toReturn
  deriving DecidableEq, Repr

/-- Standing request and demand (R77, R127); idle is NONE, giveBack is RETURN. -/
inductive Request where
  | idle | collect | giveBack
  deriving DecidableEq, Repr

/-- Call kinds. -/
inductive CallKind where
  | undecided | paid | free | emergency | incoming | report
  deriving DecidableEq, Repr

/-- Call outcomes. -/
inductive CallOutcome where
  | endedByCaller | farEnd | creditCutOff | unitLimit | nextCall | lineLost | cord | notConnected
  | noAnswer | noDialTone | noLine | refused | abandoned | powerLost
  deriving DecidableEq, Repr

/-- Line states (section 6.9). -/
inductive LineState where
  | released | seizing | awaitTone | sending | connected | clearing
  deriving DecidableEq, Repr

/-- The line claim (R106). -/
inductive Claim where
  | free | caller | incoming | report
  deriving DecidableEq, Repr

/-- Tamper channels, codes 1 to 8 (chapter 8). -/
inductive Channel where
  | door | case | cord | shock | slot | lane | line | force
  deriving DecidableEq, Repr

/-- Channel states (R135). -/
inductive ChanState where
  | quiet | active | latched
  deriving DecidableEq, Repr

/-- Report statuses (R145); idle is NONE. -/
inductive RepStatus where
  | idle | queued | sent | failed
  deriving DecidableEq, Repr

/-- Visit states (R173); closed is NONE. -/
inductive VisitState where
  | closed | awaitingDoor | doorOpen | boxOut
  deriving DecidableEq, Repr

/-- Visit kinds (R172). -/
inductive VisitKind where
  | collection | service
  deriving DecidableEq, Repr

/-- Round states of the Report Engine (R152). -/
inductive Round where
  | noRound | inRound | failed
  deriving DecidableEq, Repr

/-- Call phases of the Report Engine (section 9.3). -/
inductive Phase where
  | noCall | seize | awaitTone | dialling | awaitCentre | sending | awaitAck | clearing
  deriving DecidableEq, Repr

/-- Zone kinds (section 4.1). -/
inductive ZoneKind where
  | timed | pulsed | free | barred
  deriving DecidableEq, Repr

/-- The blocks that raise events (R35, R36); startUp is the start-up sequence. -/
inductive Block where
  | coin | metering | call | tamper | report | tariff | calendar | record | order | startUp
  deriving DecidableEq, Repr

/-! ### Times -/

/-- A full calendar time (section 13.1). -/
structure FullTime where
  year : Nat
  month : Nat
  day : Nat
  hour : Nat
  minute : Nat
  second : Nat
  deriving DecidableEq, Repr

/-- A calendar time without its year: a short or packed time (section 13.1). -/
structure ShortTime where
  month : Nat
  day : Nat
  hour : Nat
  minute : Nat
  second : Nat
  deriving DecidableEq, Repr

/-! ### The part and its start-up -/

/-- The bank letter and edition, slot and tag kept for a deferred order (R24, R26). -/
structure Deferred where
  slot : Fin 16
  tag : Byte
  deriving DecidableEq, Repr

/-- Where a call record went: placed at an index, pending, or not kept (R165, R166). -/
inductive Placement where
  | placed (index : RingIndex)
  | pending
  | notKept
  deriving DecidableEq, Repr

/-- What is kept of a POWER LOST record until its CALL ENDED is raised (R185, R180). -/
structure LostCall where
  place : Placement
  kind : CallKind
  charge : Nat
  deriving DecidableEq, Repr

/-- The part state and the progress of start-up (chapter 11). -/
structure Sys where
  /-- The part state (R177). -/
  part : PartState
  /-- The reset kind of the latest start-up (R178). -/
  kind : ResetKind
  /-- The part came to DARK by HRESET (R178). -/
  darkByReset : Bool
  /-- The profile of this start-up is accepted (R5). -/
  accepted : Bool
  stage : Stage
  evDone : Bool
  callDone : Bool
  tallyDone : Bool
  tamperDone : Bool
  /-- The start-up status byte (R179). -/
  status : Byte
  /-- The tally-reset flag of START-UP (R171). -/
  tallyReset : Bool
  /-- The part has taken its state from stage 4 (R183). -/
  imageTaken : Bool
  /-- The Lane Uncertain marker the Tally showed (R86). -/
  tallyMarker : Bool
  /-- The bank a usable Live Image names (R178). -/
  imageBank : Option Bank
  /-- The bank that was active when a RESTART was accepted (R181, R182). -/
  keptBank : Option Bank
  /-- The RESTART slot kept through a soft restart (R26, R181). -/
  restart : Option Deferred
  /-- A RESTART is accepted and the restart proper has not begun (R182). -/
  waitRestart : Bool
  powerLost : Option LostCall
  /-- Refused host writes held until the Tally has been read (R169). -/
  heldRefused : Nat
  /-- What the start-up reads of the Tally Area, the Tamper Area and the Live Image have gathered
  before their last runs (R13). -/
  tallyBuf : List Byte
  tamperBuf : List Byte
  liveBuf : List Byte
  deriving DecidableEq, Repr

/-! ### The Memory Gate -/

/-- The profile copy after clamping, with the area map (R5, R7, section 13.2). -/
structure Profile where
  station : List Nat
  slotsBase : Nat
  eventsBase : Nat
  callsBase : Nat
  clockBase : Nat
  liveBase : Nat
  tallyBase : Nat
  tamperBase : Nat
  bankABase : Nat
  bankBBase : Nat
  /-- Value and accepted flag of classes 1 to 6. -/
  classes : List (Nat × Bool)
  pulse : Bool
  incoming : Bool
  initial : Bank
  threshold : Nat
  /-- Base severities of DOOR, CASE, CORD, SHOCK, SLOT, LANE, LINE. -/
  severities : List Nat
  primary : List Nat
  secondary : List Nat
  /-- The four emergency numbers; an unused one is empty. -/
  emergency : List (List Nat)
  passageMs : Nat
  dropMs : Nat
  slotBlockS : Nat
  dialToneS : Nat
  interDigitS : Nat
  creditHoldS : Nat
  answerS : Nat
  guardS : Nat
  reportBaseS : Nat
  forceS : Nat
  shockCount : Nat
  visitDoorS : Nat
  deriving DecidableEq, Repr

/-- The four images that carry change counts (R14). -/
inductive ImageId where
  | clock | live | tally | tamper
  deriving DecidableEq, Repr

/-- Who asked for a read run; a `last` run completes what its owner is waiting for (R12, R13). -/
inductive Requester where
  | anchor
  | profile (last : Bool)
  | slotState (n : Fin 16)
  | eventHeader
  | callHeader
  | tally (last : Bool)
  | tamper (last : Bool)
  | live (last : Bool)
  | bank (last : Bool)
  | order (n : Fin 16)
  deriving DecidableEq, Repr

/-- What the completion of a write run means to its owner (R9, R23, R33); `imageEnd` marks the last run
of an image's rewrite (R14, R47). -/
inductive WriteTag where
  | plain
  | slotDone (n : Fin 16)
  | eventIndex (w : RingIndex)
  | imageEnd (i : ImageId)
  deriving DecidableEq, Repr

/-- An entry of the Post Queue (R12). -/
inductive PostEntry where
  | write (addr : Nat) (data : List Byte) (tag : WriteTag)
  | read (addr : Nat) (len : Nat) (who : Requester)
  deriving DecidableEq, Repr

/-- The producers of posts (R12). The Record Unit's rings and its two images, which fold their
causes, wait apart from one another (log 11). -/
inductive Producer where
  | gate | orderUnit | record | tamperUnit | tariffUnit | image (i : ImageId)
  deriving DecidableEq, Repr

/-- What a waiting producer still has to offer: an entry as built, the next run of an image's
rewrite, built when it is appended (R47), or an ORDER FINISHED event, raised once the outcome run
ahead of it has been given a place (R24). -/
inductive Offer where
  | entry (e : PostEntry)
  | imageRun (i : ImageId)
  | finished (detail : List Byte)
  deriving DecidableEq, Repr

/-- A producer waiting for a place in the Post Queue (R12). -/
structure Waiter where
  who : Producer
  items : List Offer
  deriving DecidableEq, Repr

/-- How the gate treats a byte (R1, R8, R9, R10). -/
inductive ByteClass where
  | plain | guarded | orderCode (n : Fin 16) | eventRead | callRead | restartByte
  deriving DecidableEq, Repr

/-- A station-processor write held by WAIT; the first in line has been judged (R15, log 9). -/
structure HeldCycle where
  addr : Addr
  value : Byte
  cls : Option ByteClass
  deriving DecidableEq, Repr

/-- The Memory Gate (chapter 1). -/
structure Gate where
  profile : Option Profile
  slotGuard : BitVec 16
  guardA : Bool
  guardB : Bool
  inhibit : Bool
  hreset : Bool
  pwrgood : Bool
  queue : List PostEntry
  /-- Byte cycles of the head entry already made (R13). -/
  done : Nat
  /-- What a read run at the head has gathered (R13). -/
  buf : List Byte
  waiters : List Waiter
  /-- WAIT is asserted while this is not empty (R15). -/
  held : List HeldCycle
  page : Nat
  profileBuf : List Byte
  deriving DecidableEq, Repr

/-! ### Orders and events -/

/-- The Order Unit (chapter 2). -/
structure Orders where
  slots : Vector SlotState 16
  queue : List (Fin 16)
  busy : Option (Fin 16)
  /-- Bytes 0 to 27 of the slot taken, once they have arrived (R21). -/
  data : Option (List Byte)
  deriving DecidableEq, Repr

/-- An event raised and not yet written (R29). -/
structure Event where
  block : Block
  code : Nat
  time : ShortTime
  detail : List Byte
  deriving DecidableEq, Repr

/-- The Record Unit's Event Ring (section 2.5). -/
structure Events where
  w : RingIndex
  r : RingIndex
  dropped : Nat
  seq : Byte
  guardFlag : Bool
  guardIdx : RingIndex
  lastW : RingIndex
  /-- The write index carrying START-UP has been written to memory (R34). -/
  announced : Bool
  attn : Bool
  outbox : List Event
  deriving DecidableEq, Repr

/-! ### Call records, Tally, visits -/

/-- A call record (R164). -/
structure CallRecord where
  seq : Nat
  kind : CallKind
  outcome : CallOutcome
  zone : Option Nat
  digitCount : Nat
  digits : List Nat
  start : FullTime
  wait : Nat
  talk : Nat
  units : Nat
  charge : Nat
  credit : Nat
  edition : Nat
  band : BitVec 3
  clockInvalid : Bool
  gatePassed : Bool
  deriving DecidableEq, Repr

/-- The Record Unit's Call Record Ring (section 10.1). -/
structure CallRing where
  w : RingIndex
  r : RingIndex
  notKept : Nat
  slot : Option CallRecord
  seq : Nat
  deriving DecidableEq, Repr

/-- The four counts of a coin class (R169). -/
structure ClassCount where
  accepted : Nat
  collected : Nat
  returned : Nat
  cleared : Nat
  deriving DecidableEq, Repr

/-- A visit record (R175, section 13.5). -/
structure VisitRecord where
  kind : VisitKind
  left : Bool
  lapsed : Bool
  collector : List Nat
  opened : ShortTime
  closed : ShortTime
  value : Nat
  coins : Nat
  deriving DecidableEq, Repr

/-- The Tally (R169). -/
structure Tally where
  classes : Vector ClassCount 6
  boxValue : Nat
  boxCoins : Nat
  stranded : Nat
  foreign : Nat
  refused : Nat
  unattended : Nat
  fault : Nat
  flushed : Nat
  /-- Call counts of PAID, FREE, EMERGENCY, INCOMING, REPORT. -/
  kinds : Vector Nat 5
  chargeTotal : Nat
  forfeited : Nat
  refusedHost : Nat
  lineLost : Nat
  stray : Nat
  notKept : Nat
  visits : Nat
  bank : Option Bank
  edition : Nat
  history : List VisitRecord
  deriving DecidableEq, Repr

/-- The visit in progress (section 10.3). -/
structure Visit where
  state : VisitState
  kind : VisitKind
  collector : List Nat
  opened : ShortTime
  value : Nat
  coins : Nat
  noted : List Nat
  left : Bool
  timer : Timer
  deriving DecidableEq, Repr

/-! ### Calendar and images -/

/-- The Calendar (chapter 3) and the battery note (R178). -/
structure Calendar where
  time : FullTime
  sub : Nat
  weekday : Nat
  valid : Bool
  band : Nat
  note : Bool
  deriving DecidableEq, Repr

/-- The runs of a rewrite, in the order of R14: the leading count, the fields, the trailing count,
the leading count again. -/
inductive RewriteStep where
  | lead | fields | trail | last
  deriving DecidableEq, Repr

/-- The rewriting of one image (R14, R47). -/
structure Image where
  count : Byte
  /-- The next run of a rewrite not yet wholly in the Post Queue. -/
  pos : Option RewriteStep
  /-- A further rewrite is to begin when it may (R47, log 41). -/
  owed : Bool
  /-- The owner may write the image in this part state. -/
  on : Bool
  /-- The field bytes last given to the Post Queue, from byte 1 on; none where a rewrite in full is
  due. The model's own, to tell the fields that change (R14, log 12). -/
  shown : List Byte
  deriving DecidableEq, Repr

/-- The four images; liveDirty and tallyDirty are the model's own (log 13). -/
structure Images where
  clock : Image
  live : Image
  tally : Image
  tamper : Image
  /-- The final Live Image is being written (R183). -/
  final : Bool
  liveDirty : Bool
  tallyDirty : Bool
  deriving DecidableEq, Repr

/-! ### Tariff -/

/-- A zone record (section 4.1). -/
structure Zone where
  kind : ZoneKind
  s : Nat
  u : Nat
  l : Nat
  f : Nat
  maxLen : Nat
  deriving DecidableEq, Repr

/-- A prefix entry (section 4.1). -/
structure Prefix where
  digits : List Nat
  zone : Nat
  deriving DecidableEq, Repr

/-- A band entry (section 3.9). -/
structure BandEntry where
  days : BitVec 7
  day : Nat
  month : Nat
  start : Nat
  stop : Nat
  band : Nat
  deriving DecidableEq, Repr

/-- A set of tariff tables, checked and clamped (R51, R56). -/
structure Tables where
  edition : Nat
  zones : List Zone
  prefixes : List Prefix
  bands : List BandEntry
  mults : List Nat
  defaultZone : Nat
  q : Nat
  deriving DecidableEq, Repr

/-- The swap state (R51); the effective time is none for "at once". -/
inductive Swap where
  | idle
  | loading (bank : Bank) (eff : Option FullTime) (order : Deferred)
  | pending (bank : Bank) (eff : Option FullTime) (tables : Tables)
  deriving DecidableEq, Repr

/-- The Tariff Unit (chapter 4). -/
structure Tariff where
  active : Option (Bank × Tables)
  swap : Swap
  startLoad : Option Bank
  buf : List Byte
  deriving DecidableEq, Repr

/-! ### Coins and money -/

/-- A passage (section 5.2); its start time is held as the time left of its window. -/
structure Passage where
  cls : Option Nat
  window : Nat
  /-- The purse closed while the passage was under way (R129). -/
  late : Bool
  deriving DecidableEq, Repr

/-- An escrow entry (R76). -/
structure EscrowEntry where
  cls : Nat
  value : Nat
  seq : Nat
  time : FullTime
  deriving DecidableEq, Repr

/-- The Coin Unit (chapter 5). -/
structure Coin where
  reasons : BitVec 10
  passages : List Passage
  escrow : List EscrowEntry
  arrival : Nat
  lane : LaneState
  gatePos : LaneGate
  dropTimer : Timer
  flushTimer : Timer
  request : Request
  uncertain : Bool
  deposited : Nat
  purseFig : PurseState
  /-- CLASS INHIBIT; bit n is class n + 1 (R69). -/
  inhibits : BitVec 6
  box : Bool
  boxTimer : Timer
  started : Bool
  mustFlush : Bool
  deriving DecidableEq, Repr

/-- The purse (R116). -/
structure Purse where
  state : PurseState
  d : Nat
  c : Nat
  k : Nat
  r : Nat
  x : Nat
  hold : HoldCause
  deriving DecidableEq, Repr

/-- The metered call: its zone figures and rounding step (R121). -/
structure Metered where
  timed : Bool
  s : Nat
  u : Nat
  l : Nat
  f : Nat
  q : Nat
  deriving DecidableEq, Repr

/-- The Metering Unit (chapter 7). -/
structure Meter where
  purse : Purse
  metered : Option Metered
  units : Nat
  charge : Nat
  t : Nat
  nextUnit : Nat
  demand : Request
  /-- Bursts and silences of WARN left, the present one counted (R125). -/
  warnLeft : Nat
  warnTimer : Timer
  deriving DecidableEq, Repr

/-! ### Calls and the line -/

/-- The call in progress (R88). -/
structure CallInfo where
  kind : CallKind
  zone : Option Nat
  decided : Bool
  decisive : Nat
  complete : Bool
  gatePassed : Bool
  seized : Bool
  number : List Nat
  maxLen : Nat
  edition : Nat
  start : FullTime
  clockInvalid : Bool
  band : BitVec 3
  answered : Bool
  wait : Nat
  talk : Nat
  required : Nat
  /-- A settlement begins at the end of this call, a paid one (R128). The model's own (log 40). -/
  settleDue : Bool
  deriving DecidableEq, Repr

/-- The Call Controller (chapter 6). -/
structure CallCtl where
  station : Station
  /-- The filtered hook state; true is off-hook (R89). -/
  hook : Bool
  hookTimer : Timer
  mode : Mode
  ordered : Bool
  dialQueue : List Nat
  cur : Option CallInfo
  claim : Claim
  reportClaim : Option Nat
  creditTimer : Timer
  answerTimer : Timer
  interDigit : Timer
  ringTimer : Timer
  deriving DecidableEq, Repr

/-- The phases of one digit's signalling (R112). -/
inductive SendPhase where
  | strobe | gap | brk | make | interDigit | pause
  deriving DecidableEq, Repr

/-- The digit sender while it is busy (R112). -/
structure Sending where
  code : Nat
  phase : SendPhase
  /-- Loop breaks still to come, the present one counted. -/
  left : Nat
  timer : Nat
  deriving DecidableEq, Repr

/-- The Line Interface (section 6.9). -/
structure Line where
  state : LineState
  seize : Bool
  /-- A seizure waits for the clearing guard (R110). -/
  waiting : Bool
  loopTimer : Timer
  toneLimit : Timer
  tonePeriod : Timer
  loss : Timer
  answerP : Timer
  clearP : Timer
  guard : Timer
  revRef : Bool
  sender : Option Sending
  /-- Tenth ticks since the METER pulse last taken (R114). -/
  meterTicks : Option Nat
  /-- Its milliseconds after the tick before it. -/
  meterPhase : Nat
  deriving DecidableEq, Repr

/-! ### Tamper and reports -/

/-- A channel record (chapter 8). -/
structure ChanRec where
  state : ChanState
  severity : Nat
  trips : Nat
  first : ShortTime
  last : ShortTime
  raw : BitVec 16
  status : RepStatus
  deriving DecidableEq, Repr

/-- The eight channel records. -/
structure Channels where
  door : ChanRec
  case : ChanRec
  cord : ChanRec
  shock : ChanRec
  slot : ChanRec
  lane : ChanRec
  line : ChanRec
  force : ChanRec
  deriving DecidableEq, Repr

/-- A debounced input; true is open (R137). -/
structure Debounce where
  isOpen : Bool
  timer : Timer
  deriving DecidableEq, Repr

/-- The Tamper Monitor (chapter 8). -/
structure Tamper where
  chans : Channels
  door : Debounce
  case : Debounce
  cord : Debounce
  shockWindow : Timer
  shockCount : Nat
  quiet : Timer
  slotBlock : Timer
  slotClear : Timer
  lossTimer : Timer
  presentTimer : Timer
  force : Timer
  visitKind : Option VisitKind
  deriving DecidableEq, Repr

/-- An entry of the Report Queue (R150); code 9 is TEST. -/
structure ReportEntry where
  code : Nat
  severity : Nat
  time : ShortTime
  failed : Bool
  snap : Bool
  renew : Bool
  deriving DecidableEq, Repr

/-- A frame of the snapshot (R157). -/
structure Frame where
  code : Nat
  symbols : List Nat
  deriving DecidableEq, Repr

/-- The Report Engine (chapter 9). -/
structure Report where
  queue : List ReportEntry
  round : Round
  attempt : Nat
  due : Bool
  nextDue : Timer
  phase : Phase
  dialled : List Nat
  toDial : List Nat
  frames : List Frame
  pos : Nat
  symbols : List Nat
  seized : Bool
  start : FullTime
  clockInvalid : Bool
  answered : Bool
  wait : Nat
  talk : Nat
  band : BitVec 3
  answerTimer : Timer
  centreTimer : Timer
  ackTimer : Timer
  deriving DecidableEq, Repr

/-- The input lines that are read as levels (section 0.4); true is active, present, off-hook,
reversed or open. -/
structure Pins where
  entry : Bool
  box : Bool
  hook : Bool
  loop : Bool
  rev : Bool
  dialtone : Bool
  linev : Bool
  door : Bool
  case : Bool
  cord : Bool
  deriving DecidableEq, Repr

/-- The whole state. `mem` is the battery-backed memory in canonical form, `fresh` numbers the free
values drawn (the model's own), `pending` is the queue of commands. -/
structure State where
  sys : Sys
  mem : List Host.Cell
  gate : Gate
  orders : Orders
  ev : Events
  ring : CallRing
  tally : Tally
  visit : Visit
  cal : Calendar
  img : Images
  tariff : Tariff
  coin : Coin
  meter : Meter
  call : CallCtl
  line : Line
  tamper : Tamper
  report : Report
  pins : Pins
  fresh : Nat
  pending : List Instr
  deriving DecidableEq, Repr

/-! ### Reset values -/

/-- 2000-01-01 00:00:00, where a cold power-on starts the counters (R41). -/
def epoch : FullTime := ⟨0, 1, 1, 0, 0, 0⟩

/-- A time field of zeros (R147). -/
def zeroTime : ShortTime := ⟨0, 0, 0, 0, 0⟩

/-- A full time field of zeros. -/
def zeroFull : FullTime := ⟨0, 0, 0, 0, 0, 0⟩

/-- A channel as a cold power-on begins it (R149), with base severity `sev`. -/
def ChanRec.fresh (sev : Nat) : ChanRec := ⟨.quiet, sev, 0, zeroTime, zeroTime, 0, .idle⟩

/-- An image that is not being written, its count 0. -/
def Image.off : Image := ⟨0, none, false, false, []⟩

/-- The purse NONE (R116). -/
def Purse.none : Purse := ⟨.absent, 0, 0, 0, 0, 0, .nothing⟩

/-- The Tally zeroed (R171). -/
def Tally.zero : Tally :=
  { classes := Vector.replicate 6 ⟨0, 0, 0, 0⟩, boxValue := 0, boxCoins := 0, stranded := 0,
    foreign := 0, refused := 0, unattended := 0, fault := 0, flushed := 0,
    kinds := Vector.replicate 5 0, chargeTotal := 0, forfeited := 0, refusedHost := 0,
    lineLost := 0, stray := 0, notKept := 0, visits := 0, bank := .none, edition := 0,
    history := [] }

/-- No visit (R176). -/
def Visit.none : Visit :=
  ⟨.closed, .collection, [0, 0, 0, 0], zeroTime, 0, 0, [0, 0, 0, 0, 0, 0], false, .none⟩

/-- The line at every start-up (R115). -/
def Line.reset : Line :=
  ⟨.released, false, false, none, none, none, none, none, none, none, false, none, none, 0⟩

/-- The Metering Unit after a reset (R134). -/
def Meter.reset : Meter := ⟨.none, .none, 0, 0, 0, 0, .idle, 0, .none⟩

/-- The Call Controller after a reset (R88). -/
def CallCtl.reset : CallCtl :=
  ⟨.idle, false, none, .closed, false, [], none, .free, none, none, none, none, none⟩

/-- The Report Engine after a reset (R163). -/
def Report.reset : Report :=
  { queue := [], round := .noRound, attempt := 1, due := false, nextDue := none, phase := .noCall,
    dialled := [], toDial := [], frames := [], pos := 0, symbols := [], seized := false,
    start := zeroFull, clockInvalid := false, answered := false, wait := 0, talk := 0, band := 0,
    answerTimer := none, centreTimer := none, ackTimer := none }

/-- The Tamper Monitor at the start of a reset, its channels begun afresh (R149). -/
def Tamper.reset : Tamper :=
  { chans := ⟨.fresh 0, .fresh 0, .fresh 0, .fresh 0, .fresh 0, .fresh 0, .fresh 0, .fresh 3⟩,
    door := ⟨false, none⟩, case := ⟨false, none⟩, cord := ⟨false, none⟩, shockWindow := none,
    shockCount := 0, quiet := none, slotBlock := none, slotClear := none, lossTimer := none,
    presentTimer := none, force := none, visitKind := none }

/-- The Coin Unit at the start of a reset (R85). The closing reasons are those R67 gives then:
on-hook, not paid service, not talking or ready, power. -/
def Coin.reset : Coin :=
  { reasons := 0b1100000011, passages := [], escrow := [], arrival := 1, lane := .clear,
    gatePos := .hold, dropTimer := none, flushTimer := none, request := .idle, uncertain := false,
    deposited := 0, purseFig := .absent, inhibits := 0b111111, box := true, boxTimer := none,
    started := false, mustFlush := true }

/-- The part on entry to STARTING as a cold power-on, with the anchor's read run given
(R2, R18, R177, R178; log 1). -/
def State.reset : State :=
  { sys :=
      { part := .starting, kind := .cold, darkByReset := false, accepted := false,
        stage := .anchor, evDone := false, callDone := false, tallyDone := false,
        tamperDone := false, status := 0, tallyReset := true, imageTaken := false,
        tallyMarker := false, imageBank := none, keptBank := none, restart := none,
        waitRestart := false, powerLost := none, heldRefused := 0,
        tallyBuf := [], tamperBuf := [], liveBuf := [] },
    mem := [],
    gate :=
      { profile := none, slotGuard := 0, guardA := false, guardB := false, inhibit := false,
        hreset := false, pwrgood := true, queue := [.read 0xFFF0 2 .anchor], done := 0, buf := [],
        waiters := [], held := [], page := 0, profileBuf := [] },
    orders := { slots := Vector.replicate 16 .free, queue := [], busy := none, data := none },
    ev :=
      { w := 0, r := 0, dropped := 0, seq := 0, guardFlag := false, guardIdx := 0, lastW := 0,
        announced := false, attn := false, outbox := [] },
    ring := { w := 0, r := 0, notKept := 0, slot := none, seq := 0 },
    tally := .zero,
    visit := .none,
    cal := { time := epoch, sub := 0, weekday := 6, valid := false, band := 0, note := true },
    img :=
      { clock := .off, live := .off, tally := .off, tamper := .off, final := false,
        liveDirty := false, tallyDirty := false },
    tariff := { active := none, swap := .idle, startLoad := none, buf := [] },
    coin := .reset,
    meter := .reset,
    call := .reset,
    line := .reset,
    tamper := .reset,
    report := .reset,
    pins :=
      { entry := false, box := true, hook := false, loop := false, rev := false,
        dialtone := false, linev := true, door := false, case := false, cord := false },
    fresh := 0,
    pending := [] }

end Sys2Proof.Machine
end

