-- ==== Sys2Proof/Machine/Bytes.lean ====
section
/-! DEFINITION. Bytes, fields and the code sets of section 13.1, written and read. -/
namespace Sys2Proof.Machine

/-- A number as one byte. -/
def b8 (n : Nat) : Byte := BitVec.ofNat 8 n

/-- A flag as a byte (R186). -/
def bBool (b : Bool) : Byte := if b then 1 else 0

/-- A flag as a number. -/
def nBool (b : Bool) : Nat := if b then 1 else 0

/-- `k` bytes of a number, the least significant first (section 0.5.1). -/
def leBytes : Nat → Nat → List Byte
  | 0, _ => []
  | k + 1, n => b8 n :: leBytes k (n / 256)

/-- The number held little-endian in a list of bytes. -/
def leNat : List Byte → Nat
  | [] => 0
  | b :: bs => b.toNat + 256 * leNat bs

/-- The byte at an offset of a record, 0 beyond its end. -/
def byteAt (bs : List Byte) (i : Nat) : Byte := bs.getD i 0

/-- The byte at an offset as a number. -/
def natAt (bs : List Byte) (i : Nat) : Nat := (byteAt bs i).toNat

/-- The `k`-byte little-endian field at an offset. -/
def fieldAt (bs : List Byte) (i k : Nat) : Nat := leNat ((bs.drop i).take k)

/-- Bits `lo` to `lo + len - 1` of a number. -/
def bitsOf (n lo len : Nat) : Nat := n / 2 ^ lo % 2 ^ len

/-- Whether bit `i` of a number is set. -/
def bitSet (n i : Nat) : Bool := n / 2 ^ i % 2 == 1

/-- Exactly `k` bytes: cut or padded with `pad`. -/
def padTo (k : Nat) (pad : Byte) (bs : List Byte) : List Byte :=
  (bs ++ List.replicate k pad).take k

/-- A sum that stops at `top` (section 0.5.1). -/
def satAdd (top n m : Nat) : Nat := min top (n + m)

/-- One more, saturating at 65535. -/
def inc16 (n : Nat) : Nat := satAdd 65535 n 1

/-- The largest money quantity of a saturating money count (section 0.5.2). -/
def moneyTop : Nat := 9999999

/-! ### Digits (section 0.5.4) -/

/-- Two digit codes in a byte, the first in the low half. -/
def packPair (lo hi : Nat) : Byte := b8 (lo % 16 + 16 * (hi % 16))

/-- `k` bytes of packed digit codes, filler after the last. -/
def packDigits : Nat → List Nat → List Byte
  | 0, _ => []
  | k + 1, [] => packPair 15 15 :: packDigits k []
  | k + 1, [a] => packPair a 15 :: packDigits k []
  | k + 1, a :: b :: ds => packPair a b :: packDigits k ds

/-- The digit codes of packed bytes, two for each byte. -/
def unpackDigits : List Byte → List Nat
  | [] => []
  | b :: bs => b.toNat % 16 :: b.toNat / 16 :: unpackDigits bs

/-- `k` decimal digits of a number, leading zeros included. -/
def decimal : Nat → Nat → List Nat
  | 0, _ => []
  | k + 1, n => decimal k (n / 10) ++ [n % 10]

/-! ### Times (section 13.1) -/

/-- A full time without its year. -/
def FullTime.short (t : FullTime) : ShortTime := ⟨t.month, t.day, t.hour, t.minute, t.second⟩

/-- The six bytes of a full time. -/
def fullBytes (t : FullTime) : List Byte :=
  [b8 t.year, b8 t.month, b8 t.day, b8 t.hour, b8 t.minute, b8 t.second]

/-- The five bytes of a short time. -/
def shortBytes (t : ShortTime) : List Byte :=
  [b8 t.month, b8 t.day, b8 t.hour, b8 t.minute, b8 t.second]

/-- The four bytes of a packed time with bits 26 to 31 as `extra`. -/
def packTime (t : ShortTime) (extra : Nat) : List Byte :=
  leBytes 4 (t.second % 64 + t.minute % 64 * 2 ^ 6 + t.hour % 32 * 2 ^ 12 + t.day % 32 * 2 ^ 17
    + t.month % 16 * 2 ^ 22 + extra % 64 * 2 ^ 26)

/-- The time of a packed word. -/
def unpackTime (n : Nat) : ShortTime :=
  ⟨bitsOf n 22 4, bitsOf n 17 5, bitsOf n 12 5, bitsOf n 6 6, bitsOf n 0 6⟩

/-- A full time read from six bytes. -/
def readFull (bs : List Byte) (i : Nat) : FullTime :=
  ⟨natAt bs i, natAt bs (i + 1), natAt bs (i + 2), natAt bs (i + 3), natAt bs (i + 4),
    natAt bs (i + 5)⟩

/-! ### Code sets (section 13.1) -/

def bankCode : Option Bank → Nat
  | none => 0
  | some .a => 1
  | some .b => 2

def bankOf : Nat → Option Bank
  | 1 => some .a
  | 2 => some .b
  | _ => none

def kindCode : ResetKind → Nat
  | .cold => 1
  | .restoration => 2
  | .hard => 3
  | .soft => 4

def stationCode : Station → Nat
  | .idle => 0
  | .ready => 1
  | .dialling => 2
  | .creditWait => 3
  | .ringback => 4
  | .talking => 5
  | .ringIn => 6
  | .talkingIn => 7
  | .reporting => 8

def modeCode : Mode → Nat
  | .full => 0
  | .freeOnly => 1
  | .closed => 2

def purseCode : PurseState → Nat
  | .absent => 0
  | .opened => 1
  | .settling => 2
  | .held => 3

def purseOf : Nat → PurseState
  | 1 => .opened
  | 2 => .settling
  | 3 => .held
  | _ => .absent

def holdCode : HoldCause → Nat
  | .nothing => 0
  | .boxAbsent => 1
  | .doorOpen => 2
  | .laneJammed => 3

def laneCode : LaneState → Nat
  | .clear => 0
  | .toBox => 1
  | .toReturn => 2
  | .jammed => 3
  | .flushing => 4

def callKindCode : CallKind → Nat
  | .undecided => 0
  | .paid => 1
  | .free => 2
  | .emergency => 3
  | .incoming => 4
  | .report => 5

def callKindOf : Nat → CallKind
  | 1 => .paid
  | 2 => .free
  | 3 => .emergency
  | 4 => .incoming
  | 5 => .report
  | _ => .undecided

def outcomeCode : CallOutcome → Nat
  | .endedByCaller => 1
  | .farEnd => 2
  | .creditCutOff => 3
  | .unitLimit => 4
  | .nextCall => 5
  | .lineLost => 6
  | .cord => 7
  | .notConnected => 8
  | .noAnswer => 9
  | .noDialTone => 10
  | .noLine => 11
  | .refused => 12
  | .abandoned => 13
  | .powerLost => 14

def outcomeOf : Nat → CallOutcome
  | 1 => .endedByCaller
  | 2 => .farEnd
  | 3 => .creditCutOff
  | 4 => .unitLimit
  | 5 => .nextCall
  | 6 => .lineLost
  | 7 => .cord
  | 8 => .notConnected
  | 9 => .noAnswer
  | 10 => .noDialTone
  | 11 => .noLine
  | 12 => .refused
  | 13 => .abandoned
  | _ => .powerLost

/-- A zone as a byte: 0xFF for none. -/
def zoneByte : Option Nat → Byte
  | none => 0xFF
  | some z => b8 z

def channelCode : Channel → Nat
  | .door => 1
  | .case => 2
  | .cord => 3
  | .shock => 4
  | .slot => 5
  | .lane => 6
  | .line => 7
  | .force => 8

def channelOf : Nat → Option Channel
  | 1 => some .door
  | 2 => some .case
  | 3 => some .cord
  | 4 => some .shock
  | 5 => some .slot
  | 6 => some .lane
  | 7 => some .line
  | 8 => some .force
  | _ => none

def chanStateCode : ChanState → Nat
  | .quiet => 0
  | .active => 1
  | .latched => 2

def chanStateOf : Nat → ChanState
  | 1 => .active
  | 2 => .latched
  | _ => .quiet

def repStatusCode : RepStatus → Nat
  | .idle => 0
  | .queued => 1
  | .sent => 2
  | .failed => 3

def repStatusOf : Nat → RepStatus
  | 1 => .queued
  | 2 => .sent
  | 3 => .failed
  | _ => .idle

def visitStateCode : VisitState → Nat
  | .closed => 0
  | .awaitingDoor => 1
  | .doorOpen => 2
  | .boxOut => 3

def visitStateOf : Nat → VisitState
  | 1 => .awaitingDoor
  | 2 => .doorOpen
  | 3 => .boxOut
  | _ => .closed

def visitKindCode : VisitKind → Nat
  | .collection => 1
  | .service => 2

def visitKindOf : Nat → VisitKind
  | 2 => .service
  | _ => .collection

def slotStateCode : SlotState → Nat
  | .free => 0
  | .posted => 1
  | .taken => 2
  | .done => 3

/-- Outcomes of an order (section 13.3). -/
inductive OrderOutcome where
  | done | unchanged | unknownOrder | badParameter | notNow | busy | invalidBank | aborted
  deriving DecidableEq, Repr

def orderOutcomeCode : OrderOutcome → Nat
  | .done => 1
  | .unchanged => 2
  | .unknownOrder => 3
  | .badParameter => 4
  | .notNow => 5
  | .busy => 6
  | .invalidBank => 7
  | .aborted => 8

/-! ### Timers -/

/-- Seconds as a running timer. -/
def seconds (n : Nat) : Timer := some (n * 1000)

/-- One tenth tick of a timer (R37). -/
def tickTimer (t : Timer) : Timer := t.map (· - 100)

/-- A running timer may run out before the next tenth tick (log 6). -/
def timerDue : Timer → Bool
  | none => false
  | some n => decide (n < 100)

end Sys2Proof.Machine
end

