-- ==== Sys2Proof/Machine/Time.lean ====
section
/-! DEFINITION. Calendar arithmetic, the weekday and the choice of the time band (chapter 3). -/
namespace Sys2Proof.Machine

/-- A leap year of the part's range (R38). -/
def isLeap (year : Nat) : Bool := year % 4 == 0

/-- The length of a month (R38). -/
def monthLength (year month : Nat) : Nat :=
  if month = 2 then (if isLeap year then 29 else 28)
  else if month = 4 ∨ month = 6 ∨ month = 9 ∨ month = 11 then 30
  else 31

/-- Days of year `year` before month `month` (R39 step 2). -/
def daysBeforeMonth (year : Nat) : Nat → Nat
  | 0 => 0
  | m + 1 => if m = 0 then 0 else daysBeforeMonth year m + monthLength year m

/-- Days from 2000-01-01 to a date (R39 steps 1 to 3). -/
def dayCount (t : FullTime) : Nat :=
  365 * t.year + (t.year + 3) / 4 + daysBeforeMonth t.year t.month + (t.day - 1)

/-- The weekday of a date (R39 step 4). -/
def weekdayOf (t : FullTime) : Nat := (6 + dayCount t) % 7

/-- Seconds from 2000-01-01 00:00:00. -/
def secondsOf (t : FullTime) : Nat :=
  dayCount t * 86400 + t.hour * 3600 + t.minute * 60 + t.second

/-- Day, month and year after a day carry, and whether the year wrapped (R38). -/
def nextDay (t : FullTime) : FullTime × Bool :=
  if t.day < monthLength t.year t.month then ({ t with day := t.day + 1 }, false)
  else if t.month < 12 then ({ t with day := 1, month := t.month + 1 }, false)
  else if t.year < 99 then ({ t with day := 1, month := 1, year := t.year + 1 }, false)
  else ({ t with day := 1, month := 1, year := 0 }, true)

/-- The counters after a carry into the minute (R38). -/
def carryMinute (c : Calendar) : Calendar :=
  if c.time.minute < 59 then { c with time := { c.time with minute := c.time.minute + 1 } }
  else if c.time.hour < 23 then
    { c with time := { c.time with minute := 0, hour := c.time.hour + 1 } }
  else
    let (t, wrapped) := nextDay { c.time with minute := 0, hour := 0 }
    if wrapped then { c with time := t, weekday := weekdayOf t, valid := false }
    else { c with time := t, weekday := if c.weekday < 6 then c.weekday + 1 else 0 }

/-- A second carry (R37, R38) and whether it was a minute carry. -/
def carrySecond (c : Calendar) : Calendar × Bool :=
  if c.time.second < 59 then
    ({ c with sub := 0, time := { c.time with second := c.time.second + 1 } }, false)
  else (carryMinute { c with sub := 0, time := { c.time with second := 0 } }, true)

/-- The calendar time one hour on, for the new round's time of REPORT FAILED (R152). -/
def hourLater (t : FullTime) : FullTime :=
  if t.hour < 23 then { t with hour := t.hour + 1 } else (nextDay { t with hour := 0 }).1

/-- The calendar time `n` seconds on (R188, arrival times). -/
def secondsLater : Nat → Calendar → Calendar
  | 0, c => c
  | n + 1, c => secondsLater n (carrySecond c).1

/-- `t` is earlier than or equal to `u`, compared year first (R57). -/
def FullTime.le (t u : FullTime) : Bool :=
  if t.year ≠ u.year then t.year < u.year
  else if t.month ≠ u.month then t.month < u.month
  else if t.day ≠ u.day then t.day < u.day
  else if t.hour ≠ u.hour then t.hour < u.hour
  else if t.minute ≠ u.minute then t.minute < u.minute
  else t.second ≤ u.second

/-- `t` is strictly earlier than `u`, compared month first (R150). -/
def ShortTime.lt (t u : ShortTime) : Bool :=
  if t.month ≠ u.month then t.month < u.month
  else if t.day ≠ u.day then t.day < u.day
  else if t.hour ≠ u.hour then t.hour < u.hour
  else if t.minute ≠ u.minute then t.minute < u.minute
  else t.second < u.second

/-- The index 0 to 5 of the first field of a time out of range, year first (R43). -/
def timeFault (t : FullTime) : Option Nat :=
  if 99 < t.year then some 0
  else if t.month < 1 ∨ 12 < t.month then some 1
  else if t.day < 1 ∨ monthLength t.year t.month < t.day then some 2
  else if 23 < t.hour then some 3
  else if 59 < t.minute then some 4
  else if 59 < t.second then some 5
  else none

/-- Minute `m` of the day lies in an entry's span (R48). -/
def inSpan (e : BandEntry) (m : Nat) : Bool :=
  if e.start < e.stop then decide (e.start ≤ m ∧ m < e.stop)
  else if e.start = e.stop then true
  else decide (e.start ≤ m ∨ m < e.stop)

/-- A band entry matches the Calendar's time (R48). -/
def bandMatches (e : BandEntry) (c : Calendar) : Bool :=
  e.days.getLsbD c.weekday && (e.day == 0 || e.day == c.time.day)
    && (e.month == 0 || e.month == c.time.month)
    && inSpan e (c.time.hour * 60 + c.time.minute)

/-- The current band by the present counters (R49). -/
def chooseBand (active : Option (Bank × Tables)) (c : Calendar) : Nat :=
  match active with
  | none => 0
  | some (_, t) =>
    if c.valid then
      match t.bands.find? (bandMatches · c) with
      | some e => e.band
      | none => 0
    else 0

/-- The year of a start time carried without one (R188). -/
def rebuildYear (now : FullTime) (t : ShortTime) : FullTime :=
  let later := now.month < t.month ∨ (now.month = t.month ∧ now.day < t.day)
  let year := if later then (if now.year = 0 then 99 else now.year - 1) else now.year
  ⟨year, t.month, t.day, t.hour, t.minute, t.second⟩

end Sys2Proof.Machine
end

