-- ==== Sys2Proof/Machine/Operands.lean ====
section
/-! DEFINITION. What the part reads: the profile, a tariff bank, an order's parameters, a dialled
number (section 13.2, 13.3, 13.6; chapter 4). -/
namespace Sys2Proof.Machine

/-! ### The profile (R4, R6, section 13.2) -/

/-- The sum of bytes. -/
def sumBytes (bs : List Byte) : Nat := bs.foldl (fun n b => n + b.toNat) 0

/-- The sizes of the nine areas in the profile's order (R7). -/
def areaSizes : List Nat := [512, 528, 2576, 16, 96, 192, 144, 2048, 2048]

/-- The nine areas a profile names, each a base and a size. -/
def areasOf (bs : List Byte) : List (Nat × Nat) :=
  areaSizes.zipIdx.map (fun x => (fieldAt bs (5 + 2 * x.2) 2, x.1))

/-- Two regions share no byte. -/
def apart (x y : Nat × Nat) : Bool := decide (x.1 + x.2 ≤ y.1) || decide (y.1 + y.2 ≤ x.1)

/-- No two of a list of regions share a byte. -/
def allApart : List (Nat × Nat) → Bool
  | [] => true
  | x :: l => l.all (apart x) && allApart l

/-- Every area lies within 0x0000 to 0xFFEF and none shares a byte with another or with the profile
page (R4 check 4, R7). -/
def areasPlaced (page : Nat) (bs : List Byte) : Bool :=
  (areasOf bs).all (fun x => decide (x.1 + x.2 ≤ 0xFFF0)) &&
    allApart ((page * 256, 256) :: areasOf bs)

/-- Value and accepted flag of the six classes, as written. -/
def classesOf (bs : List Byte) : List (Nat × Bool) :=
  (List.range 6).map (fun i => (fieldAt bs (23 + 3 * i) 2, natAt bs (25 + 3 * i) != 0))

/-- The digit codes of a field of packed digits. -/
def codesAt (bs : List Byte) (i k : Nat) : List Nat := unpackDigits ((bs.drop i).take k)

/-- The station number (R4 check 6). -/
def stationOf (bs : List Byte) : List Nat := codesAt bs 1 4

/-- Emergency number `i`: its count and its codes. -/
def emergencyAt (bs : List Byte) (i : Nat) : Nat × List Nat :=
  (natAt bs (70 + 4 * i), codesAt bs (71 + 4 * i) 3)

/-- An emergency number is unused or of 2 to 6 digits 0 to 9 (R4 check 7). -/
def emergencyGood (x : Nat × List Nat) : Bool :=
  x.1 == 0 || (decide (2 ≤ x.1 ∧ x.1 ≤ 6) && (x.2.take x.1).all (fun d => decide (d ≤ 9)))

/-- The first structural check, 2 to 7, that a profile fails, as its status code (R4). -/
def profileFault (page : Nat) (bs : List Byte) : Option Byte :=
  if sumBytes bs % 256 ≠ 0 then some 0x82
  else if byteAt bs 0 ≠ 1 then some 0x83
  else if !areasPlaced page bs then some 0x84
  else if !(classesOf bs).all (fun c => !c.2 || decide (1 ≤ c.1 ∧ c.1 ≤ 5000)) then some 0x85
  else if !(stationOf bs).all (fun d => decide (d ≤ 9)) then some 0x86
  else if !(List.range 4).all (fun i => emergencyGood (emergencyAt bs i)) then some 0x87
  else none

/-- The ranges of the twelve timing parameters (R6). -/
def timingRanges : List (Nat × Nat) :=
  [(100, 1500), (200, 2000), (1, 10), (1, 10), (4, 30), (10, 120), (30, 180), (1, 5), (30, 600),
    (10, 120), (1, 50), (30, 300)]

/-- A value replaced by the nearer bound of its range. -/
def clamp (r : Nat × Nat) (n : Nat) : Nat := max r.1 (min r.2 n)

/-- Timing parameter `i` as written. -/
def timingRaw (bs : List Byte) (i : Nat) : Nat := fieldAt bs (86 + 2 * i) 2

/-- Timing parameter `i` after clamping (R6). -/
def timing (bs : List Byte) (i : Nat) : Nat :=
  clamp (timingRanges.getD i (0, 0)) (timingRaw bs i)

/-- A report number's counted codes as written, the count cut at 16 (R6). -/
def reportRaw (bs : List Byte) (i : Nat) : List Nat :=
  (codesAt bs (i + 1) 8).take (min 16 (natAt bs i))

/-- A report number after clamping: codes 13, 14 and 15 are taken as a pause (R6). -/
def reportNumber (bs : List Byte) (i : Nat) : List Nat :=
  (reportRaw bs i).map (fun d => if 12 < d then 12 else d)

/-- Some field of an accepted profile is out of its range (R6). -/
def profileClamped (bs : List Byte) : Bool :=
  (List.range 12).any (fun i => timing bs i != timingRaw bs i)
    || decide (3 < natAt bs 44)
    || (List.range 7).any (fun i => decide (3 < natAt bs (45 + i)))
    || decide (16 < natAt bs 52) || decide (16 < natAt bs 61)
    || (reportRaw bs 52).any (fun d => decide (12 < d))
    || (reportRaw bs 61).any (fun d => decide (12 < d))
    || !(natAt bs 41 == 1 || natAt bs 41 == 2)
    || !(natAt bs 43 == 1 || natAt bs 43 == 2)

/-- The profile copy: every field of an accepted profile after clamping (R5, R6). -/
def readProfile (bs : List Byte) : Profile :=
  let base := fun i => fieldAt bs (5 + 2 * i) 2
  { station := stationOf bs
    slotsBase := base 0, eventsBase := base 1, callsBase := base 2, clockBase := base 3,
    liveBase := base 4, tallyBase := base 5, tamperBase := base 6, bankABase := base 7,
    bankBBase := base 8,
    classes := classesOf bs,
    pulse := natAt bs 41 == 2,
    incoming := natAt bs 42 != 0,
    initial := if natAt bs 43 = 2 then .b else .a,
    threshold := min 3 (natAt bs 44),
    severities := (List.range 7).map (fun i => min 3 (natAt bs (45 + i))),
    primary := reportNumber bs 52,
    secondary := reportNumber bs 61,
    emergency := (List.range 4).map (fun i =>
      (emergencyAt bs i).2.take (emergencyAt bs i).1),
    passageMs := timing bs 0, dropMs := timing bs 1, slotBlockS := timing bs 2,
    dialToneS := timing bs 3, interDigitS := timing bs 4, creditHoldS := timing bs 5,
    answerS := timing bs 6, guardS := timing bs 7, reportBaseS := timing bs 8,
    forceS := timing bs 9, shockCount := timing bs 10, visitDoorS := timing bs 11 }

/-- Base severity of a channel; FORCE has 3 (R144). -/
def baseSeverity (p : Profile) : Channel → Nat
  | .door => p.severities.getD 0 0
  | .case => p.severities.getD 1 0
  | .cord => p.severities.getD 2 0
  | .shock => p.severities.getD 3 0
  | .slot => p.severities.getD 4 0
  | .lane => p.severities.getD 5 0
  | .line => p.severities.getD 6 0
  | .force => 3

/-- The base of a tariff bank (R7). -/
def bankBase (p : Profile) : Bank → Nat
  | .a => p.bankABase
  | .b => p.bankBBase

/-! ### Tariff banks (R55, R56, section 13.6) -/

def zoneKindOf : Nat → Option ZoneKind
  | 1 => some .timed
  | 2 => some .pulsed
  | 3 => some .free
  | 4 => some .barred
  | _ => none

/-- The sum of a bank with the two sum bytes taken as 0 (R55 section 1). -/
def bankSum (bs : List Byte) : Nat :=
  (sumBytes (bs.take 8) + sumBytes (bs.drop 10)) % 65536

/-- The number of the first failing header field (R55 section 2). -/
def headerFault (bs : List Byte) : Option Nat :=
  if natAt bs 2 < 1 ∨ 16 < natAt bs 2 then some 1
  else if 128 < natAt bs 3 then some 2
  else if 16 < natAt bs 4 then some 3
  else if natAt bs 6 < 1 ∨ 250 < natAt bs 6 then some 4
  else if natAt bs 2 ≤ natAt bs 5 then some 5
  else none

/-- Zone record `i` passes its checks (R55 section 3). -/
def zoneGood (bs : List Byte) (i : Nat) : Bool :=
  let o := 16 + 12 * i
  (zoneKindOf (natAt bs o)).isSome && decide (fieldAt bs (o + 1) 2 ≤ 9999)
    && decide (fieldAt bs (o + 3) 2 ≤ 9999)
    && decide (1 ≤ fieldAt bs (o + 5) 2 ∧ fieldAt bs (o + 5) 2 ≤ 6000)
    && decide (fieldAt bs (o + 7) 2 ≤ 600)
    && decide (3 ≤ natAt bs (o + 9) ∧ natAt bs (o + 9) ≤ 20)

/-- The counted digits of prefix entry `i`. -/
def prefixDigits (bs : List Byte) (i : Nat) : List Nat :=
  (codesAt bs (209 + 6 * i) 4).take (natAt bs (208 + 6 * i))

/-- Prefix entry `i` passes its checks (R55 section 4). -/
def prefixGood (bs : List Byte) (i : Nat) : Bool :=
  decide (1 ≤ natAt bs (208 + 6 * i) ∧ natAt bs (208 + 6 * i) ≤ 8)
    && (prefixDigits bs i).all (fun d => decide (d ≤ 9))
    && decide (natAt bs (213 + 6 * i) < natAt bs 2)

/-- Prefix entry `i` equals no earlier entry (R55 section 5). -/
def prefixNew (bs : List Byte) (i : Nat) : Bool :=
  !(List.range i).any (fun j => decide (prefixDigits bs j = prefixDigits bs i))

/-- Band entry `i` passes its checks (R55 section 6). -/
def bandGood (bs : List Byte) (i : Nat) : Bool :=
  let o := 976 + 8 * i
  decide (natAt bs o < 128) && decide (natAt bs (o + 1) ≤ 31) && decide (natAt bs (o + 2) ≤ 12)
    && decide (fieldAt bs (o + 3) 2 ≤ 1439) && decide (fieldAt bs (o + 5) 2 ≤ 1440)
    && decide (natAt bs (o + 7) ≤ 7)

/-- The first index below `n` that fails a check. -/
def firstBad (good : Nat → Bool) (n : Nat) : Option Nat := (List.range n).find? (fun i => !good i)

/-- The section code and entry index of a bank's first fault (R55). -/
def bankFault (bs : List Byte) : Option (Nat × Nat) :=
  if bankSum bs ≠ fieldAt bs 8 2 then some (1, 0)
  else match headerFault bs with
  | some i => some (2, i)
  | none => match firstBad (zoneGood bs) (natAt bs 2) with
    | some i => some (3, i)
    | none => match firstBad (prefixGood bs) (natAt bs 3) with
      | some i => some (4, i)
      | none => match firstBad (prefixNew bs) (natAt bs 3) with
        | some i => some (5, i)
        | none => match firstBad (bandGood bs) (natAt bs 4) with
          | some i => some (6, i)
          | none => none

/-- A band multiplier after clamping (R56). -/
def clampMult (n : Nat) : Nat := clamp (25, 400) n

/-- Multiplier `i` as written. -/
def multRaw (bs : List Byte) (i : Nat) : Nat := fieldAt bs (1104 + 2 * i) 2

/-- How many multipliers a bank's clamping changes (R56). -/
def multsClamped (bs : List Byte) : Nat :=
  (List.range 8).countP (fun i => clampMult (multRaw bs i) != multRaw bs i)

/-- The tables of a bank that has passed its checks, clamped (R51, R56). -/
def readTables (bs : List Byte) : Tables :=
  { edition := fieldAt bs 0 2,
    zones := (List.range (natAt bs 2)).map (fun i =>
      let o := 16 + 12 * i
      { kind := (zoneKindOf (natAt bs o)).getD .barred, s := fieldAt bs (o + 1) 2,
        u := fieldAt bs (o + 3) 2, l := fieldAt bs (o + 5) 2, f := fieldAt bs (o + 7) 2,
        maxLen := natAt bs (o + 9) }),
    prefixes := (List.range (natAt bs 3)).map (fun i =>
      ⟨prefixDigits bs i, natAt bs (213 + 6 * i)⟩),
    bands := (List.range (natAt bs 4)).map (fun i =>
      let o := 976 + 8 * i
      { days := BitVec.ofNat 7 (natAt bs o), day := natAt bs (o + 1), month := natAt bs (o + 2),
        start := fieldAt bs (o + 3) 2, stop := fieldAt bs (o + 5) 2, band := natAt bs (o + 7) }),
    mults := (List.range 8).map (fun i => clampMult (multRaw bs i)),
    defaultZone := natAt bs 5,
    q := natAt bs 6 }

/-! ### Number analysis (R63 to R66) -/

/-- The result of number analysis (R64, R66). -/
inductive Decision where
  | emergency
  | zone (n : Nat)
  | noTariff
  deriving DecidableEq, Repr

/-- The analysed string: the number with every pause left out (R63). -/
def analysed (number : List Nat) : List Nat := number.filter (fun d => d != 12)

/-- A proper prefix of another string (R64 test 2). -/
def properPrefix (xs ys : List Nat) : Bool := xs.isPrefixOf ys && decide (xs.length < ys.length)

/-- The zone of the longest prefix entry that is a prefix of the string, or the default zone (R64
test 4). -/
def longestZone (t : Tables) (str : List Nat) : Nat :=
  (t.prefixes.foldl (fun (best : Nat × Nat) e =>
    if e.digits.isPrefixOf str && decide (best.1 < e.digits.length) then (e.digits.length, e.zone)
    else best) (0, t.defaultZone)).2

/-- The emergency numbers in use. -/
def usedEmergency (p : Profile) : List (List Nat) := p.emergency.filter (fun e => !e.isEmpty)

/-- The four tests on the analysed string (R64; tests 1 and 2 alone with no active tariff, R66). -/
def analyse (p : Profile) (t : Option Tables) (str : List Nat) : Option Decision :=
  if (usedEmergency p).any (fun e => decide (e = str)) then some .emergency
  else if (usedEmergency p).any (properPrefix str) then none
  else match t with
  | none => some .noTariff
  | some t =>
    if t.prefixes.any (fun e => properPrefix str e.digits) then none
    else some (.zone (longestZone t str))

/-- The decision that a digit just accepted brings, the number ending in it (R63). -/
def analyseDigit (p : Profile) (t : Option Tables) (number : List Nat) (digit : Nat) :
    Option Decision :=
  if digit = 12 then none
  else if digit = 10 ∨ digit = 11 then
    match t with
    | none => some .noTariff
    | some t => some (.zone t.defaultZone)
  else analyse p t (analysed number)

/-- The decision of a number complete with its zone undecided (R65, R66). -/
def analyseComplete (t : Option Tables) (number : List Nat) : Decision :=
  match t with
  | none => .noTariff
  | some t => .zone (longestZone t (analysed number))

/-! ### Order parameters (R187, section 13.3) -/

/-- The digit codes of a DIAL or DIAL MORE. -/
def dialDigits (d : List Byte) : List Nat := (codesAt d 4 12).take (natAt d 2)

/-- The offset of the byte of the first counted digit that fails a check. -/
def badDigit (good : Nat → Bool) (d : List Byte) : Option Nat :=
  ((dialDigits d).findIdx? (fun x => !good x)).map (fun i => 4 + i / 2)

/-- The first fault of a DIAL or DIAL MORE; `pulse` says whether step 3 is made (R95, R96). -/
def dialFault (pulse : Bool) (d : List Byte) : Option Nat :=
  if 24 < natAt d 2 then some 2
  else match badDigit (fun x => decide (x ≤ 12)) d with
  | some o => some o
  | none => if pulse then badDigit (fun x => !(x == 10 || x == 11)) d else none

/-- The complete flag of a DIAL or DIAL MORE. -/
def dialComplete (d : List Byte) : Bool := natAt d 3 != 0

/-- The effective time of a SWAP TARIFF; none is "at once" (section 4.2). -/
def swapTime (d : List Byte) : Option FullTime :=
  let t := readFull d 3
  if t = zeroFull then none else some t

/-- The first digit of a collector id above 9, as its offset (R172, R187). -/
def collectorFault (d : List Byte) : Option Nat :=
  ((codesAt d 3 2).findIdx? (fun x => decide (9 < x))).map (fun i => 3 + i / 2)

end Sys2Proof.Machine
end

