-- ==== Sys2Proof/Machine/Flags.lean ====
section
/-! DEFINITION. Conditions and flags computed from the state: ring levels, closing reasons,
service-mode inputs, call boundary. -/
namespace Sys2Proof.Machine

/-- Flags as a number, the first as bit 0. -/
def flagsNat : List Bool → Nat
  | [] => 0
  | b :: bs => nBool b + 2 * flagsNat bs

/-- Unread records between a read and a write index (section 0.5.1). -/
def unread (w r : RingIndex) : Nat := (w - r).toNat

/-- Index `i` lies between read index `r` and write index `w` (R32). -/
def between (r w i : RingIndex) : Bool := decide ((i - r).toNat < (w - r).toNat)

/-- The read index taken for a value written by the station processor (R31, R167). -/
def takenIndex (w r value : RingIndex) : RingIndex :=
  if (value - r).toNat ≤ unread w r then value else w

/-- Credit is D less C (chapter 7), and 0 in a purse restored with C above D (DESIGN CHOICE, log 59). -/
def credit (p : Purse) : Nat := p.d - p.c

/-- The escrow list holds a coin entry (R127). -/
def hasCoin (l : List EscrowEntry) : Bool := l.any (fun e => e.cls != 0)

/-- The head of the lane is a coin. -/
def headCoin : List EscrowEntry → Bool
  | [] => false
  | e :: _ => e.cls != 0

/-- The value lying in the lane (R116). -/
def escrowValue : List EscrowEntry → Nat
  | [] => 0
  | e :: l => e.value + escrowValue l

/-- A lane action is in flight (R78). -/
def inFlight (l : LaneState) : Bool := l == .toBox || l == .toReturn

/-- The action in flight was started on the standing request (R78 steps 2 and 3): its head is a
coin, since a foreign head is returned under step 1. -/
def requestInFlight (c : Coin) : Bool := inFlight c.lane && headCoin c.escrow

/-- Value of a coin class in the profile copy; classes count from 1. -/
def classValue (p : Profile) (cls : Nat) : Nat := (p.classes.getD (cls - 1) (0, false)).1

/-- A class is accepted by the profile copy (R71). -/
def classAccepted (p : Profile) (cls : Nat) : Bool :=
  decide (1 ≤ cls) && (p.classes.getD (cls - 1) (0, false)).2

/-- The largest value among the accepted classes, 0 when there is none (R67). -/
def largestAccepted (p : Profile) : Nat :=
  p.classes.foldl (fun m c => if c.2 then max m c.1 else m) 0

/-- The deposit cap reason (R67). -/
def depositCap (p : Profile) (c : Coin) : Bool :=
  p.classes.any (·.2) &&
    decide (moneyTop < (if c.purseFig = .absent then 0 else c.deposited) + largestAccepted p)

/-- CLASS INHIBIT for a profile copy: asserted for each class not accepted (R69). -/
def inhibitsOf (p : Profile) : BitVec 6 :=
  BitVec.ofNat 6 (flagsNat ((List.range 6).map (fun i => !classAccepted p (i + 1))))

/-- The station takes coins: the "not talking or ready" reason is absent (R67). -/
def takesCoins : Station → Bool
  | .ready | .dialling | .creditWait | .ringback | .talking => true
  | .idle | .ringIn | .talkingIn | .reporting => false

/-- The set of closing reasons, in the order of R67's table. -/
def closingReasons (s : State) : BitVec 10 :=
  BitVec.ofNat 10 (flagsNat
    [ !s.call.hook,
      s.call.mode != .full,
      s.coin.purseFig == .settling || s.coin.purseFig == .held,
      decide (10 ≤ s.coin.escrow.length + s.coin.passages.length),
      decide (2 ≤ s.coin.passages.length),
      match s.gate.profile with
      | some p => depositCap p s.coin
      | none => false,
      s.tamper.chans.slot.state == .active,
      s.coin.lane == .jammed,
      !takesCoins s.call.station,
      !s.coin.started || s.sys.part == .failing ])

/-- ENTRY GATE is driven open (R67). -/
def gateOpen (s : State) : Bool := s.coin.reasons == 0

/-- A SERVICE visit is open (R92). -/
def serviceVisit (s : State) : Bool := s.visit.state != .closed && s.visit.kind == .service

/-- The inputs that make the mode CLOSED (R92), bits 0 to 4 of SERVICE MODE. -/
def closedInputs (s : State) : List Bool :=
  [ s.tamper.chans.cord.state != .quiet,
    s.tamper.chans.line.state == .active,
    serviceVisit s,
    s.call.ordered,
    s.tariff.active.isNone ]

/-- The inputs that make the mode FREE ONLY (R92), bits 5 to 8 of SERVICE MODE. -/
def freeOnlyInputs (s : State) : List Bool :=
  [ s.tamper.chans.slot.state != .quiet,
    s.tamper.chans.lane.state != .quiet,
    !s.coin.box,
    s.ring.slot.isSome ]

/-- The service mode judged afresh (R92). -/
def modeOf (s : State) : Mode :=
  if (closedInputs s).any id then .closed
  else if (freeOnlyInputs s).any id then .freeOnly
  else .full

/-- The set of inputs SERVICE MODE carries (R93, section 13.4). -/
def modeInputs (s : State) : Nat := flagsNat (closedInputs s ++ freeOnlyInputs s)

/-- The station stands at a call boundary (R58). READY is entered afresh after every call, so no
digit has been accepted since. -/
def atBoundary (s : State) : Bool :=
  (s.call.station == .idle || s.call.station == .ready) && s.ring.slot.isNone

/-- A purse is open: its state is not NONE (R22). -/
def purseOpen (s : State) : Bool := s.meter.purse.state != .absent

/-- The station state after a call that leaves the line (R104, R108). -/
def restStation (s : State) : Station := if s.call.hook then .ready else .idle

/-- The calendar time a record is stamped with (R42). -/
def now (s : State) : ShortTime := s.cal.time.short

/-- The edition of the active tables, 0 when there are none (R61, R162). -/
def activeEdition (s : State) : Nat :=
  match s.tariff.active with
  | some (_, t) => t.edition
  | none => 0

/-- The DIGIT strobe output (R112). -/
def digitStrobe (l : Line) : Bool :=
  match l.sender with
  | some d => d.phase == .strobe
  | none => false

/-- The PULSE relay is open (R112). -/
def pulseOpen (l : Line) : Bool :=
  match l.sender with
  | some d => d.phase == .brk
  | none => false

/-- WARN sounds: the bursts are the even steps of the six (R125). -/
def warnOn (m : Meter) : Bool := m.warnLeft != 0 && m.warnLeft % 2 == 0

/-- WAIT holds a station-processor cycle (R15). -/
def waitAsserted (s : State) : Bool := !s.gate.held.isEmpty

end Sys2Proof.Machine
end

