-- ==== Sys2Proof/Machine/Images.lean ====
section
/-! DEFINITION. The bytes of the rings' records and of the four images (section 13.4, 13.5). -/
namespace Sys2Proof.Machine

/-- A money field in memory, three bytes (chapter 13). -/
def money3 (n : Nat) : List Byte := leBytes 3 (min n 16777215)

/-- A two-byte count. -/
def count2 (n : Nat) : List Byte := leBytes 2 (min n 65535)

/-- An event record (section 13.4). -/
def eventBytes (seq : Byte) (e : Event) : List Byte :=
  [seq, b8 e.code] ++ shortBytes e.time ++ padTo 9 0 e.detail

/-- A call record (section 13.4). -/
def callBytes (c : CallRecord) : List Byte :=
  leBytes 2 c.seq ++ [b8 (callKindCode c.kind), b8 (outcomeCode c.outcome), zoneByte c.zone,
    b8 c.digitCount] ++ packDigits 10 c.digits ++ fullBytes c.start ++ count2 c.wait
    ++ leBytes 4 (min c.talk 4294967295) ++ count2 c.units ++ money3 c.charge ++ money3 c.credit
    ++ leBytes 2 c.edition
    ++ [b8 (c.band.toNat + 8 * nBool c.clockInvalid + 16 * nBool (decide (20 < c.digitCount))
        + 32 * nBool c.gatePassed), 0]

/-- The fields of the Clock Image, bytes 1 to 14. -/
def clockFields (s : State) : List Byte :=
  fullBytes s.cal.time ++ [b8 s.cal.weekday, bBool s.cal.valid, b8 s.cal.band, 0, 0, 0, 0, 0]

/-- The arrival delay of an entry after the entry before it (section 13.5, log 17). -/
def arrivalDelay (before after : FullTime) : Byte :=
  if secondsOf before ≤ secondsOf after then b8 (min 255 (secondsOf after - secondsOf before))
  else Config.backwardDelay (secondsOf before) (secondsOf after)

/-- The arrival delays of the entries after the head. -/
def arrivalDelays : List EscrowEntry → List Byte
  | e :: f :: l => arrivalDelay e.time f.time :: arrivalDelays (f :: l)
  | _ => []

/-- A start time packed with the digit count and the clock-invalid flag. -/
def packStart (start : FullTime) (digits : Nat) (invalid : Bool) : List Byte :=
  packTime start.short (digits % 32 + 32 * nBool invalid)

/-- The call in progress in the Live Image, bytes 57 to 72; its wait to answer is 0 until the answer
(R164, log 38), and the zone bits are 0 where the zone is none (DESIGN CHOICE, log 63). -/
def liveCall (m : Meter) : Option CallInfo → List Byte
  | none => List.replicate 16 0
  | some c =>
    [b8 (callKindCode c.kind + 8 * nBool c.seized + 16 * nBool c.gatePassed + 32 * c.band.toNat),
      b8 (c.zone.getD 0 % 16 + 16 * nBool c.zone.isNone + 32 * nBool (c.edition == 0))]
      ++ packStart c.start c.number.length c.clockInvalid
      ++ count2 (if c.answered then c.wait else 0)
      ++ leBytes 3 (min c.talk 16777215) ++ count2 m.units ++ money3 m.charge

/-- The pending record in the Live Image, bytes 73 to 94; its zone bits are 0 where the zone is none (DESIGN
CHOICE, log 63). -/
def livePending : Option CallRecord → List Byte
  | none => List.replicate 22 0
  | some c =>
    leBytes 2 c.seq
      ++ [b8 (callKindCode c.kind + 8 * outcomeCode c.outcome + 128),
        b8 (c.zone.getD 0 % 16 + 16 * nBool c.zone.isNone + 32 * nBool (decide (20 < c.digitCount))
          + 64 * nBool c.gatePassed + 128 * nBool (c.edition == 0))]
      ++ packStart c.start c.digitCount c.clockInvalid ++ count2 c.wait
      ++ leBytes 3 (min c.talk 16777215) ++ count2 c.units ++ money3 c.charge ++ money3 c.credit
      ++ [b8 c.band.toNat]

/-- The fields of the Live Image, bytes 1 to 94 (section 13.5). -/
def liveFields (s : State) : List Byte :=
  let p := s.meter.purse
  let l := s.coin.escrow
  [b8 (stationCode s.call.station + 16 * modeCode s.call.mode + 64 * nBool s.call.ordered
      + 128 * nBool s.img.final),
    b8 (purseCode p.state + 4 * holdCode p.hold + 16 * laneCode s.coin.lane
      + 128 * nBool s.coin.uncertain),
    b8 s.coin.arrival,
    b8 ((l.head?.map (·.seq)).getD 0)]
    ++ leBytes 2 (s.coin.reasons.toNat + 1024 * (l.length % 16) + 16384 * bankCode s.tally.bank)
    ++ leBytes 2 s.tally.edition
    ++ money3 p.d ++ money3 p.c ++ money3 p.k ++ money3 p.r ++ money3 p.x
    ++ (match l with
        | [] => [0, 0, 0, 0]
        | e :: _ => packTime e.time.short 0)
    ++ padTo 20 0 (l.flatMap (fun e => leBytes 2 (e.value % 8192 + 8192 * (e.cls % 8))))
    ++ padTo 9 0 (arrivalDelays l)
    ++ liveCall s.meter s.call.cur
    ++ livePending s.ring.slot

/-- A visit record (section 13.5); a sum past its field is written as the field's largest value
(DESIGN CHOICE, log 47). -/
def visitBytes (v : VisitRecord) : List Byte :=
  [b8 (visitKindCode v.kind + 64 * nBool v.left + 128 * nBool v.lapsed)]
    ++ packDigits 2 v.collector ++ packTime v.opened 0 ++ packTime v.closed 0
    ++ money3 v.value ++ count2 v.coins

/-- The visit in progress in the Tally Area, bytes 98 to 122, its sums saturated like those of a visit
record (DESIGN CHOICE, log 47). -/
def tallyVisit (v : Visit) : List Byte :=
  [b8 (visitStateCode v.state),
    b8 ((if v.state = .closed then 0 else visitKindCode v.kind) + 128 * nBool v.left)]
    ++ packDigits 2 v.collector ++ packTime v.opened 0 ++ money3 v.value ++ count2 v.coins
    ++ padTo 12 0 (v.noted.flatMap count2)

/-- The fields of the Tally Area, bytes 1 to 190 (section 13.5). -/
def tallyFields (s : State) : List Byte :=
  let t := s.tally
  t.classes.toList.flatMap
      (fun c => count2 c.accepted ++ count2 c.collected ++ count2 c.returned ++ count2 c.cleared)
    ++ money3 t.boxValue ++ count2 t.boxCoins ++ count2 t.stranded ++ count2 t.foreign
    ++ count2 t.refused ++ count2 t.unattended ++ count2 t.fault ++ count2 t.flushed
    ++ [bBool s.coin.uncertain] ++ t.kinds.toList.flatMap count2
    ++ money3 t.chargeTotal ++ money3 t.forfeited
    ++ count2 t.refusedHost ++ count2 t.lineLost ++ count2 t.stray ++ count2 t.notKept
    ++ count2 t.visits ++ [b8 (bankCode t.bank)] ++ leBytes 2 t.edition ++ leBytes 2 s.ring.seq
    ++ tallyVisit s.visit ++ padTo 64 0 (t.history.flatMap visitBytes) ++ [0, 0, 0, 0]

/-- A channel record, 16 bytes (section 13.5). -/
def chanBytes (c : ChanRec) : List Byte :=
  [b8 (chanStateCode c.state), b8 c.severity] ++ count2 c.trips ++ packTime c.first 0
    ++ packTime c.last 0 ++ leBytes 2 c.raw.toNat ++ [b8 (repStatusCode c.status), 0]

/-- The eight channel records in channel order. -/
def Channels.toList (c : Channels) : List ChanRec :=
  [c.door, c.case, c.cord, c.shock, c.slot, c.lane, c.line, c.force]

/-- The fields of the Tamper Area, bytes 1 to 142 (section 13.5). -/
def tamperFields (s : State) : List Byte :=
  let cs := s.tamper.chans.toList
  [b8 (min s.tamper.shockCount 255), bBool s.tamper.force.isSome,
    b8 (cs.countP (fun c => c.state != .quiet))] ++ List.replicate 12 0
    ++ (cs.flatMap chanBytes).take 127

/-- The fields of an image, the bytes between its two change counts. -/
def imageFields (i : ImageId) (s : State) : List Byte :=
  match i with
  | .clock => clockFields s
  | .live => liveFields s
  | .tally => tallyFields s
  | .tamper => tamperFields s

/-- The number of bytes between an image's change counts (R7). -/
def imageLen : ImageId → Nat
  | .clock => 14
  | .live => 94
  | .tally => 190
  | .tamper => 142

/-- The lengths of an image's fields from byte 1 on (section 13.5). The Clock Image's fields are one
(R46), a channel record and a visit record count as one field (R148, log 12). -/
def fieldLens : ImageId → List Nat
  | .clock => [14]
  | .live =>
    [1, 1, 1, 1, 2, 2, 3, 3, 3, 3, 3, 4] ++ List.replicate 10 2 ++ List.replicate 9 1
      ++ [1, 1, 4, 2, 3, 2, 3] ++ [2, 1, 1, 4, 2, 3, 2, 3, 3, 1]
  | .tally =>
    List.replicate 24 2 ++ [3, 2, 2, 2, 2, 2, 2, 2, 1] ++ List.replicate 5 2
      ++ [3, 3, 2, 2, 2, 2, 2, 1, 2, 2] ++ [1, 1, 2, 4, 3, 2] ++ List.replicate 6 2
      ++ List.replicate 4 16 ++ [4]
  | .tamper => [1, 1, 1, 12] ++ List.replicate 7 16 ++ [15]

/-- A span of an image's field bytes: its offset from byte 1 and its length. -/
abbrev Span := Nat × Nat

/-- The spans of consecutive fields of the given lengths, the first at an offset. -/
def spansFrom : Nat → List Nat → List Span
  | _, [] => []
  | o, n :: l => (o, n) :: spansFrom (o + n) l

/-- The bytes of a span. -/
def spanOf (bs : List Byte) (x : Span) : List Byte := (bs.drop x.1).take x.2

/-- The length of a run begun with `n` bytes, once the changed fields that follow at once and leave it
within 40 bytes have joined it. -/
def runLength (changed : Span → Bool) (n : Nat) : List Span → Nat
  | [] => n
  | x :: l => if changed x && decide (n + x.2 ≤ 40) then runLength changed (n + x.2) l else n

/-- The first run of changed fields. -/
def firstRun (changed : Span → Bool) : List Span → Option Span
  | [] => none
  | x :: l => if changed x then some (x.1, runLength changed x.2 l) else firstRun changed l

/-- The first run of the fields that differ from the bytes last given to the Post Queue (R14). -/
def changedRun (i : ImageId) (shown fields : List Byte) : Option Span :=
  firstRun (fun x => spanOf shown x != spanOf fields x) (spansFrom 0 (fieldLens i))

/-- The fields run that a rewrite gives next; one that no longer changes a field writes its first
(log 12). -/
def fieldsRun (i : ImageId) (shown fields : List Byte) : Span :=
  (changedRun i shown fields).getD (0, (fieldLens i).headD 0)

/-- The bytes last given, once a span of the fields has been given. -/
def showSpan (shown fields : List Byte) (x : Span) : List Byte :=
  shown.take x.1 ++ spanOf fields x ++ shown.drop (x.1 + x.2)

/-- The base of an image in the area map (R7). -/
def imageBase (p : Profile) : ImageId → Nat
  | .clock => p.clockBase
  | .live => p.liveBase
  | .tally => p.tallyBase
  | .tamper => p.tamperBase

/-- The run of a rewrite at a step, built from the state as it stands (R14, R46). -/
def imageRun (i : ImageId) (p : Profile) (x : Image) (k : RewriteStep) (s : State) : PostEntry :=
  let base := imageBase p i
  match k with
  | .lead => .write base [x.count + 1] .plain
  | .fields =>
    let run := fieldsRun i x.shown (imageFields i s)
    .write (base + 1 + run.1) (spanOf (imageFields i s) run) .plain
  | .trail => .write (base + 1 + imageLen i) [x.count + 2] .plain
  | .last => .write base [x.count + 2] (.imageEnd i)

/-- The image's owner once that run is appended: another fields run follows while a field differs from
what has been given; after the last the owner takes n + 2 as its count (R14, R47). -/
def afterRun (i : ImageId) (x : Image) (k : RewriteStep) (s : State) : Image :=
  match k with
  | .lead => { x with pos := some .fields }
  | .fields =>
    let fields := imageFields i s
    let shown := showSpan x.shown fields (fieldsRun i x.shown fields)
    { x with shown := shown,
             pos := some (if (changedRun i shown fields).isNone then .trail else .fields) }
  | .trail => { x with pos := some .last }
  | .last =>
    { x with count := x.count + 2, pos := none }

end Sys2Proof.Machine
end

