-- ==== Sys2Proof/Machine/Memory.lean ====
section
/-! DEFINITION. The battery-backed memory: 65,536 bytes in canonical form (section 0.5.1). -/
namespace Sys2Proof.Machine

/-- What a byte that nothing has written reads as (log 2). -/
def Memory.blank : Byte := 0

/-- The byte at a cell key of a listed memory. -/
def Memory.find : List Host.Cell → Nat → Byte
  | [], _ => Memory.blank
  | (k, b) :: m, a => if k = a then b else if a < k then Memory.blank else Memory.find m a

/-- A cell put in its place; a blank byte is not listed. -/
def Memory.put : List Host.Cell → Nat → Byte → List Host.Cell
  | [], a, v => if v = Memory.blank then [] else [(a, v)]
  | (k, b) :: m, a, v =>
    if k = a then (if v = Memory.blank then m else (a, v) :: m)
    else if a < k then (if v = Memory.blank then (k, b) :: m else (a, v) :: (k, b) :: m)
    else (k, b) :: Memory.put m a v

/-- Addresses strictly rising from `lo`, below 65,536, no entry blank. -/
def Memory.wfFrom : Nat → List Host.Cell → Bool
  | _, [] => true
  | lo, (k, b) :: m => decide (lo ≤ k) && decide (k < 65536) && decide (b ≠ Memory.blank)
      && Memory.wfFrom (k + 1) m

/-- The canonical form of memory. -/
def Memory.wf (m : List Host.Cell) : Bool := Memory.wfFrom 0 m

/-- The byte read at an address; the bus has 16 address lines (section 0.4, log 32). -/
def Memory.read (m : List Host.Cell) (a : Nat) : Byte := Memory.find m (a % 65536)

/-- One byte written at an address. -/
def Memory.write (m : List Host.Cell) (a : Nat) (v : Byte) : List Host.Cell :=
  Memory.put m (a % 65536) v

/-- `n` bytes read in ascending order of address (R13). -/
def Memory.readRun (m : List Host.Cell) (a : Nat) : Nat → List Byte
  | 0 => []
  | n + 1 => Memory.read m a :: Memory.readRun m (a + 1) n

/-- A run of bytes written in ascending order of address (R13). -/
def Memory.writeRun (m : List Host.Cell) (a : Nat) : List Byte → List Host.Cell
  | [] => m
  | v :: vs => Memory.writeRun (Memory.write m a v) (a + 1) vs

end Sys2Proof.Machine
end

