-- ==== Sys2Proof/Machine/Ops.lean ====
section
/-! DEFINITION. The shared operations of the memory path and the Record Unit: posts, byte cycles,
image rewrites, events, counts. -/
namespace Sys2Proof.Machine

/-! ### Raising events (R29) -/

/-- A block raises an event: the Record Unit is given it with the present time. Nothing is raised in
FAILING, DARK or UNCONFIGURED (R29). -/
def raise (b : Block) (code : Nat) (detail : List Byte) (s : State) : State :=
  if s.sys.part = .running ∨ s.sys.part = .starting then
    { s with ev := { s.ev with outbox := s.ev.outbox ++ [⟨b, code, now s, detail⟩] } }
  else s

/-! ### The Post Queue (R12, R13) -/

/-- The places of the Post Queue (R12). -/
def postPlaces : Nat := 16

/-- A producer that must wait joins the line, or has more to offer in its place there
(R12, log 11). -/
def joinLine (p : Producer) (items : List Offer) (s : State) : State :=
  if s.gate.waiters.any (fun w => w.who == p) then
    { s with gate := { s.gate with waiters := s.gate.waiters.map (fun w =>
        if w.who == p then { w with items := w.items ++ items } else w) } }
  else { s with gate := { s.gate with waiters := s.gate.waiters ++ [⟨p, items⟩] } }

/-- An entry may be appended at once: nobody waits and there is a place (R12). -/
def placeFree (s : State) : Bool :=
  s.gate.waiters.isEmpty && decide (s.gate.queue.length < postPlaces)

/-- An entry appended at the tail of the Post Queue. -/
def append (e : PostEntry) (s : State) : State :=
  { s with gate := { s.gate with queue := s.gate.queue ++ [e] } }

/-- One byte cycle of the head entry, short of its last (R13, log 7). -/
def byteCycle (s : State) : State :=
  match s.gate.queue with
  | [] => s
  | .write a d _ :: _ =>
    if s.gate.done + 1 < d.length then
      { s with
        mem := Memory.write s.mem (a + s.gate.done) (byteAt d s.gate.done),
        gate := { s.gate with done := s.gate.done + 1 } }
    else s
  | .read a n _ :: _ =>
    if s.gate.done + 1 < n then
      { s with
        gate := { s.gate with
          done := s.gate.done + 1,
          buf := s.gate.buf ++ [Memory.read s.mem (a + s.gate.done)] } }
    else s

/-- The head entry's byte cycles that are left are made and it leaves the queue; a read run's bytes
are handed over (R13). -/
def finishHead (s : State) : State × List Byte :=
  match s.gate.queue with
  | [] => (s, [])
  | .write a d _ :: q =>
    ({ s with
        mem := Memory.writeRun s.mem (a + s.gate.done) (d.drop s.gate.done),
        gate := { s.gate with queue := q, done := 0, buf := [] } }, [])
  | .read a n _ :: q =>
    ({ s with gate := { s.gate with queue := q, done := 0, buf := [] } },
      s.gate.buf ++ Memory.readRun s.mem (a + s.gate.done) (n - s.gate.done))

/-- Entries that are a read run, in pieces of at most 64 bytes, the last piece marked (R4, R54). -/
def readRuns (who : Bool → Requester) (a : Nat) : List Nat → List PostEntry
  | [] => []
  | [n] => [.read a n (who true)]
  | n :: ns => .read a n (who false) :: readRuns who (a + n) ns

/-! ### Image rewrites (R14, R46, R47, R148, R169) -/

def getImage (i : ImageId) (s : State) : Image :=
  match i with
  | .clock => s.img.clock
  | .live => s.img.live
  | .tally => s.img.tally
  | .tamper => s.img.tamper

def setImage (i : ImageId) (x : Image) (s : State) : State :=
  match i with
  | .clock => { s with img := { s.img with clock := x } }
  | .live => { s with img := { s.img with live := x } }
  | .tally => { s with img := { s.img with tally := x } }
  | .tamper => { s with img := { s.img with tamper := x } }

/-- The rewrites of an image that the Post Queue holds whole, the oldest perhaps partly written. -/
def standing (i : ImageId) (s : State) : Nat :=
  s.gate.queue.countP (fun e =>
    match e with
    | .write _ _ (.imageEnd j) => j == i
    | _ => false)

/-- The most rewrites of one image that the Post Queue holds (R14, R47). -/
def rewriteTop : Nat := 2

/-- A rewrite owed begins once no rewrite before it awaits a place and fewer than two stand in the Post
Queue (R47; log 41). -/
def startOwed (i : ImageId) (s : State) : State :=
  let x := getImage i s
  if x.pos = none ∧ x.owed = true ∧ standing i s < rewriteTop then
    setImage i { x with pos := some .lead, owed := false } s
  else s

/-- The next run of an image's rewrite is appended, built from the state at this moment; behind the last
a rewrite owed begins (R14, R47). -/
def appendRun (i : ImageId) (s : State) : State :=
  let x := getImage i s
  match s.gate.profile, x.pos with
  | some p, some k => startOwed i (setImage i (afterRun i x k s) (append (imageRun i p x k s) s))
  | _, _ => setImage i { x with pos := none, owed := false } s

/-- An image's runs are offered one after another until the rewrite is wholly in the queue, or the
queue is full or others wait, and the owner waits (R12, R47). `n` exceeds the places of the queue. -/
def pumpImage (i : ImageId) : Nat → State → State
  | 0, s => s
  | n + 1, s =>
    if (getImage i s).pos = none then s
    else if placeFree s then pumpImage i n (appendRun i s)
    else joinLine (.image i) [.imageRun i] s

/-- An image's owner goes on with its rewrite. -/
def goOnImage (i : ImageId) (s : State) : State := pumpImage i 20 s

/-- A rewrite of the image is to be given for a cause: the Clock Image's at every cause (R46), another
image's where a field differs from what was last given (R14, log 12). -/
def rewriteDue (i : ImageId) (x : Image) (s : State) : Bool :=
  i == .clock || (changedRun i x.shown (imageFields i s)).isSome

/-- A cause of a rewrite is heard. While a rewrite is not yet wholly in the queue the cause is folded
into it if its field runs are not all appended. Otherwise it makes one rewrite owed, if one is due,
which begins at once where no rewrite awaits a place and fewer than two stand in the queue (R47, R148,
R169; logs 12 and 41). -/
def giveRewrite (i : ImageId) (s : State) : State :=
  let x := getImage i s
  if x.on && rewriteDue i x s then
    match x.pos with
    | none => goOnImage i (startOwed i (setImage i { x with owed := true } s))
    | some .lead | some .fields => s
    | some .trail | some .last => setImage i { x with owed := true } s
  else s

/-- An image whose rewrite is forgotten: its count is kept, and what stands in memory is not known. -/
def Image.dropped (x : Image) : Image := { x with pos := none, owed := false, shown := [] }

/-- An image that its owner writes no more: a rewrite already given is finished. -/
def Image.closed (x : Image) : Image := { x with on := false, owed := false }

/-- The rewrites of every image are forgotten (R16, R17). -/
def dropRewrites (s : State) : State :=
  { s with img := { s.img with
      clock := s.img.clock.dropped, live := s.img.live.dropped, tally := s.img.tally.dropped,
      tamper := s.img.tamper.dropped } }

/-- No owner writes its image from here on. -/
def closeImages (s : State) : State :=
  { s with img := { s.img with
      clock := s.img.clock.closed, live := s.img.live.closed, tally := s.img.tally.closed,
      tamper := s.img.tamper.closed, liveDirty := false, tallyDirty := false } }

/-- An image begins to be written in full from change count 0 (R41, R149, R171, R179). -/
def beginImage (i : ImageId) (s : State) : State :=
  giveRewrite i (setImage i ⟨0, none, false, true, []⟩ s)

/-- A change is handed to the Record Unit for the Live Image (R76, R88, R116). -/
def touchLive (s : State) : State := { s with img := { s.img with liveDirty := true } }

/-- The Tally changes (R169). -/
def updTally (f : Tally → Tally) (s : State) : State :=
  { s with tally := f s.tally, img := { s.img with tallyDirty := true } }

/-- The rewrites the step's changes call for (R169; log 13). -/
def postImages (s : State) : State :=
  let s1 := if s.img.tallyDirty then
      giveRewrite .tally { s with img := { s.img with tallyDirty := false } } else s
  if s1.img.liveDirty then
    giveRewrite .live { s1 with img := { s1.img with liveDirty := false } } else s1

/-! ### Offering (R12, R24, R47) -/

/-- A producer offers what it has, one thing after another: an entry is appended at once while a place
is free and nobody waits, otherwise the producer waits with the rest, behind its own earlier offers if
it waits already (R12, log 11). -/
def offerItems (p : Producer) : List Offer → State → State
  | [], s => s
  | .entry e :: l, s =>
    if placeFree s then offerItems p l (append e s) else joinLine p (.entry e :: l) s
  | .imageRun i :: l, s => offerItems p l (goOnImage i s)
  | .finished d :: l, s => offerItems p l (raise .order 27 d s)

/-- A producer gives entries. -/
def offer (p : Producer) (es : List PostEntry) (s : State) : State :=
  offerItems p (es.map .entry) s

/-! ### Free choices of order (log 14) -/

/-- A list whose items of equal key keep their order and whose keys are taken in an order drawn from
`Config.pick`; with it the number of the next choice. -/
def interleave {α κ : Type} [DecidableEq κ] (key : α → κ) : Nat → Nat → List α → List α × Nat
  | 0, n, l => (l, n)
  | k + 1, n, l =>
    match (l.map key).eraseDups with
    | [] => (l, n)
    | [_] => (l, n)
    | c :: cs =>
      let b := (c :: cs).getD (Config.pick n % (cs.length + 1)) c
      match l.find? (fun x => decide (key x = b)) with
      | none => (l, n)
      | some x =>
        let (rest, n') := interleave key k (n + 1) (l.eraseP (fun x => decide (key x = b)))
        (x :: rest, n')

/-- Producers that begin to wait together wait in either order (R12): the first `n` waiters keep
their places. -/
def shuffleWaiters (n : Nat) (s : State) : State :=
  let (l, m) := interleave Waiter.who (s.gate.waiters.length - n) s.fresh (s.gate.waiters.drop n)
  { s with gate := { s.gate with waiters := s.gate.waiters.take n ++ l }, fresh := m }

/-! ### Events (R28 to R34) -/

/-- The event code of GUARD (section 13.4). -/
def guardCode : Nat := 26

/-- The Record Unit writes an event, body first and write index after, or drops and counts it
(R29, R30, R32). -/
def writeEvent (e : Event) (s : State) : State :=
  match s.gate.profile with
  | none => s
  | some p =>
    let ev := s.ev
    if unread ev.w ev.r < 32 then
      offer .record
        [.write (p.eventsBase + 16 + 16 * (ev.w.toNat % 32)) (eventBytes ev.seq e) .plain,
          .write p.eventsBase [ev.w + 1] (.eventIndex (ev.w + 1))]
        { s with ev := { ev with
            w := ev.w + 1, seq := ev.seq + 1,
            guardFlag := ev.guardFlag || e.code == guardCode,
            guardIdx := if e.code = guardCode then ev.w else ev.guardIdx } }
    else if ev.dropped < 255 then
      offer .record [.write (p.eventsBase + 2) [b8 (ev.dropped + 1)] .plain]
        { s with ev := { ev with dropped := ev.dropped + 1, seq := ev.seq + 1 } }
    else { s with ev := { ev with seq := ev.seq + 1 } }

/-- The events of the step are written, those of different blocks in either order (R29, log 14). -/
def flushEvents (s : State) : State :=
  if s.sys.part = .running then
    let (l, n) := interleave Event.block s.ev.outbox.length s.fresh s.ev.outbox
    l.foldl (fun s e => writeEvent e s) { s with ev := { s.ev with outbox := [] }, fresh := n }
  else s

/-- START-UP has been given: the part is RUNNING, or STARTING in the last stage (R179). -/
def startUpGiven (s : State) : Bool :=
  s.sys.part == .running || (s.sys.part == .starting && s.sys.stage == .announce)

/-- The write index `w` has been written to the header in memory; the first so written once START-UP has
been given carries it, and from it on ATTN is a level (R33, R34). -/
def indexWritten (w : RingIndex) (s : State) : State :=
  if startUpGiven s then
    { s with ev := { s.ev with lastW := w, announced := true, attn := decide (w ≠ s.ev.r) } }
  else { s with ev := { s.ev with lastW := w } }

/-! ### Orders (R23) -/

/-- The address of a byte of a slot (section 2.1). -/
def slotAddr (p : Profile) (n : Fin 16) (off : Nat) : Nat := p.slotsBase + 32 * n.val + off

/-- The run of an outcome: outcome, detail and the state DONE (R23). -/
def outcomeEntry (p : Profile) (n : Fin 16) (o : OrderOutcome) (detail : Nat) : PostEntry :=
  .write (slotAddr p n 28) (b8 (orderOutcomeCode o) :: leBytes 2 detail ++ [3]) (.slotDone n)

/-- A slot is finished with an outcome (R23). -/
def giveOutcome (n : Fin 16) (o : OrderOutcome) (detail : Nat) (s : State) : State :=
  match s.gate.profile with
  | none => s
  | some p => offer .orderUnit [outcomeEntry p n o detail] s

/-- A deferred order of a code is finished, and ORDER FINISHED is raised once its outcome run has been
given a place in the Post Queue, so that the event record stands behind it (R24). -/
def finishDeferred (d : Deferred) (code : Nat) (o : OrderOutcome) (detail : Nat) (s : State) : State :=
  match s.gate.profile with
  | none => s
  | some p =>
    offerItems .orderUnit
      [.entry (outcomeEntry p d.slot o detail),
        .finished [b8 d.slot.val, d.tag, b8 code, b8 (orderOutcomeCode o)]] s

def setSlot (n : Fin 16) (x : SlotState) (s : State) : State :=
  { s with orders := { s.orders with slots := s.orders.slots.set n x } }

/-- A slot guard flag set or cleared (R9). -/
def setGuard (n : Fin 16) (on : Bool) (s : State) : State :=
  { s with gate := { s.gate with slotGuard :=
      if on then s.gate.slotGuard ||| (BitVec.twoPow 16 n.val)
      else s.gate.slotGuard &&& ~~~ (BitVec.twoPow 16 n.val) } }

/-- A slot's outcome run has completed: the slot is DONE, its guard clear, the Order Unit idle if it
was busy with it (R23). -/
def slotWritten (n : Fin 16) (s : State) : State :=
  let s1 := setGuard n false (setSlot n .done s)
  if s1.orders.busy = some n then
    { s1 with orders := { s1.orders with busy := none, data := none } }
  else s1

/-! ### Counts -/

/-- The coin class counts changed at a class 1 to 6; class 0 is a foreign object and has no count
(R169). -/
def updClass (cls : Nat) (f : ClassCount → ClassCount) (t : Tally) : Tally :=
  match cls with
  | 0 => t
  | i + 1 =>
    match t.classes[i]? with
    | some c => { t with classes := t.classes.setIfInBounds i (f c) }
    | none => t

/-- The accepted count of a class (R170). -/
def acceptedOf (cls : Nat) (t : Tally) : Nat := (t.classes[cls - 1]?.map (·.accepted)).getD 0

/-- One more call of a record's kind (R164). -/
def countKind (k : CallKind) (t : Tally) : Tally :=
  match callKindCode k with
  | 0 => t
  | i + 1 => { t with kinds := t.kinds.setIfInBounds i (inc16 (t.kinds[i]?.getD 0)) }

end Sys2Proof.Machine
end

