-- ==== Sys2Proof/Machine/LineOps.lean ====
section
/-! DEFINITION. The Line Interface's shared operations: line states, seizing, releasing, digits
(section 6.9). -/
namespace Sys2Proof.Machine

/-- A figure of the profile copy, 0 while there is none. -/
def param (f : Profile → Nat) (s : State) : Nat :=
  match s.gate.profile with
  | some p => f p
  | none => 0

/-- The line takes a state, and the Tamper Monitor's line voltage loss timer follows it (R142): it
starts when the line comes to RELEASED with LINEV absent and is stopped when the line leaves
RELEASED. -/
def setLine (x : LineState) (s : State) : State :=
  let loss :=
    if x ≠ .released then none
    else if s.line.state ≠ .released ∧ s.pins.linev = false then some 2000
    else s.tamper.lossTimer
  { s with line := { s.line with state := x }, tamper := { s.tamper with lossTimer := loss } }

/-- SEIZE is closed and the loop timer starts; the call in progress is seized from this moment (R110,
R88, R154). A report call keeps its start time and its clock-invalid flag in the Report Engine: the
Live Image holds neither, its clock-invalid bit clear with its times 0 (R185; DESIGN CHOICE, log 50).
-/
def closeSeize (s : State) : State :=
  let s1 := setLine .seizing
    { s with line := { s.line with seize := true, waiting := false, loopTimer := some 500 } }
  if s.call.claim = .report then
    touchLive { s1 with
      call := { s1.call with cur := s1.call.cur.map (fun c => { c with seized := true }) },
      report := { s1.report with seized := true, start := s.cal.time,
                                 clockInvalid := !s.cal.valid, wait := 0 } }
  else
    touchLive { s1 with
      call := { s1.call with cur := s1.call.cur.map (fun c =>
        { c with seized := true, start := s.cal.time, clockInvalid := !s.cal.valid }) } }

/-- The holder of the line claim asks for a seizure: acted on at once in RELEASED, when the guard
ends in CLEARING (R110). -/
def askSeize (s : State) : State :=
  if s.line.state = .released then closeSeize s
  else { s with line := { s.line with waiting := true } }

/-- A release (R115): SEIZE opens, the timers stop, a digit is cut off, the clearing guard starts.
In CLEARING and RELEASED nothing changes. -/
def releaseLine (s : State) : State :=
  if s.line.state = .released ∨ s.line.state = .clearing then s
  else setLine .clearing
    { s with line := { s.line with
        seize := false, loopTimer := none, toneLimit := none, tonePeriod := none, loss := none,
        answerP := none, clearP := none, sender := none,
        guard := seconds (param (·.guardS) s) } }

/-- The loop breaks of a pulse digit: as many as the digit, 10 for 0 (R112). -/
def pulseBreaks (code : Nat) : Nat := if code = 0 then 10 else code

/-- The digit sender takes a digit, in tones or in pulses (R112). The loss timer is held while the
PULSE relay is open (R111). -/
def startDigit (pulse : Bool) (code : Nat) (s : State) : State :=
  if code = 12 then
    { s with line := { s.line with sender := some ⟨code, .pause, 0, 2000⟩ } }
  else if pulse then
    { s with line := { s.line with sender := some ⟨code, .brk, pulseBreaks code, 60⟩,
                                   loss := none } }
  else { s with line := { s.line with sender := some ⟨code, .strobe, 0, 80⟩ } }

/-- The line is past SEIZING with SEIZE closed (R111). -/
def pastSeizing (l : Line) : Bool :=
  l.seize && (l.state == .awaitTone || l.state == .sending || l.state == .connected)

/-- A timed phase within a digit ends (R112); when the relay closes on an absent loop the loss timer
starts afresh (R111). -/
def nextPhase (s : State) (d : Sending) : State :=
  match d.phase with
  | .strobe => { s with line := { s.line with sender := some { d with phase := .gap, timer := 80 } } }
  | .brk =>
    { s with line := { s.line with
        sender := some { d with phase := .make, left := d.left - 1, timer := 40 },
        loss := if pastSeizing s.line && !s.pins.loop then some 400 else none } }
  | .make =>
    if d.left = 0 then
      { s with line := { s.line with sender := some { d with phase := .interDigit, timer := 700 } } }
    else
      { s with line := { s.line with sender := some { d with phase := .brk, timer := 60 },
                                     loss := none } }
  | .gap | .interDigit | .pause => s

/-- The line enters CONNECTED on the way to ringback or to the centre: an answer period starts at
once if REV is already reversed (R100, R113, log 26). -/
def connectOut (s : State) : State :=
  setLine .connected
    { s with line := { s.line with answerP := if s.pins.rev then some 100 else none } }

end Sys2Proof.Machine
end

