-- ==== Sys2Proof/Machine/Records.lean ====
section
/-! DEFINITION. Call records and the pending record slot (section 10.1). -/
namespace Sys2Proof.Machine

/-- A record of a paid call that passed the credit gate (R164). -/
def gated (c : CallRecord) : Bool := c.kind == .paid && c.gatePassed

/-- A record is placed in the ring, body first and write index after (R165). -/
def placeRecord (c : CallRecord) (s : State) : State :=
  match s.gate.profile with
  | none => s
  | some p =>
    offer .record
      [.write (p.callsBase + 16 + 40 * (s.ring.w.toNat % 64)) (callBytes c) .plain,
        .write p.callsBase [s.ring.w + 1] .plain]
      { s with ring := { s.ring with w := s.ring.w + 1 } }

/-- A record is dropped and counted in the header and in the Tally; a header count that stands at 255 is
not given again (R166; DESIGN CHOICE, log 48). -/
def dropRecord (s : State) : State :=
  let s1 := updTally (fun t => { t with notKept := inc16 t.notKept }) s
  match s.gate.profile with
  | none => s1
  | some p =>
    if s.ring.notKept < 255 then
      offer .record [.write (p.callsBase + 2) [b8 (s.ring.notKept + 1)] .plain]
        { s1 with ring := { s1.ring with notKept := s.ring.notKept + 1 } }
    else s1

/-- A record enters the pending record slot (R166). -/
def fillSlot (c : CallRecord) (s : State) : State :=
  touchLive { s with ring := { s.ring with slot := some c } }

/-- The pending record is placed once the ring has room, and the slot empties (R167, R168). -/
def placePending (s : State) : State :=
  match s.ring.slot with
  | none => s
  | some c =>
    if unread s.ring.w s.ring.r < 64 then
      touchLive (placeRecord c { s with ring := { s.ring with slot := none } })
    else s

/-- A finished record is handed to the Record Unit: it takes the next call sequence number, is
counted by kind, and is placed, kept pending or dropped (R164 to R166). A record pending from before
has the first free place (R165, R167). Where both records are gated, which R166 rules out and only a Live
Image altered from outside brings about, the pending one stays and the new one is dropped (DESIGN CHOICE,
log 62). -/
def handRecord (c0 : CallRecord) (s0 : State) : State × Placement :=
  let s := placePending s0
  let c := { c0 with seq := s.ring.seq }
  let s1 := updTally (countKind c.kind)
    { s with ring := { s.ring with seq := (s.ring.seq + 1) % 65536 } }
  match s.ring.slot with
  | none =>
    if unread s.ring.w s.ring.r < 64 then (placeRecord c s1, .placed s.ring.w)
    else (fillSlot c s1, .pending)
  | some old =>
    if !gated old && gated c then (fillSlot c (dropRecord s1), .pending)
    else (dropRecord s1, .notKept)

/-- The detail of CALL ENDED; the index byte of a record not placed is written 0 (log 30). -/
def endedDetail (at_ : Placement) (kind : CallKind) (o : CallOutcome) (charge : Nat) : List Byte :=
  (match at_ with
    | .placed i => [0, i]
    | .pending => [1, 0]
    | .notKept => [2, 0])
    ++ [b8 (callKindCode kind), b8 (outcomeCode o)] ++ money3 charge

/-- The Record Unit holds the indexes of the ring: in a start-up, once their header has been read or
posted with zeros (R168). -/
def callRingKnown (s : State) : Bool := s.sys.part != .starting || s.sys.callDone

/-- A station-processor write of the Call Record Ring's read index. A pending record waits for the
header while a soft restart has not read it, and is placed then (R167, R168; log 31). -/
def takeCallIndex (value : Byte) (s : State) : State :=
  match s.gate.profile with
  | none => s
  | some p =>
    let r := takenIndex s.ring.w s.ring.r value
    let s1 := offer .record [.write (p.callsBase + 1) [r] .plain]
      { s with ring := { s.ring with r := r } }
    if callRingKnown s then placePending s1 else s1

/-- A station-processor write of the Event Ring's read index (R31, R32). Once the write index carrying
START-UP is in memory, ATTN is asserted while the index taken differs from the one last written there
(R33, R34). -/
def takeEventIndex (value : Byte) (s : State) : State :=
  match s.gate.profile with
  | none => s
  | some p =>
    let r := takenIndex s.ev.w s.ev.r value
    offer .record [.write (p.eventsBase + 1) [r] .plain]
      { s with ev := { s.ev with
          r := r,
          guardFlag := s.ev.guardFlag && between r s.ev.w s.ev.guardIdx,
          attn := s.ev.announced && decide (r ≠ s.ev.lastW) } }

end Sys2Proof.Machine
end

