-- ==== Sys2Proof/Machine/ReportOps.lean ====
section
/-! DEFINITION. The Report Queue, rounds, frames and the end of a report call (chapter 9). -/
namespace Sys2Proof.Machine

/-! ### Channel records -/

def Channels.get (c : Channels) : Channel → ChanRec
  | .door => c.door
  | .case => c.case
  | .cord => c.cord
  | .shock => c.shock
  | .slot => c.slot
  | .lane => c.lane
  | .line => c.line
  | .force => c.force

def Channels.set (c : Channels) (ch : Channel) (x : ChanRec) : Channels :=
  match ch with
  | .door => { c with door := x }
  | .case => { c with case := x }
  | .cord => { c with cord := x }
  | .shock => { c with shock := x }
  | .slot => { c with slot := x }
  | .lane => { c with lane := x }
  | .line => { c with line := x }
  | .force => { c with force := x }

def getChan (ch : Channel) (s : State) : ChanRec := s.tamper.chans.get ch

def setChan (ch : Channel) (x : ChanRec) (s : State) : State :=
  { s with tamper := { s.tamper with chans := s.tamper.chans.set ch x } }

/-- A report status handed back to the Tamper Monitor; TEST, code 9, has no channel
(R145, R152). -/
def handStatus (code : Nat) (x : RepStatus) (s : State) : State :=
  match channelOf code with
  | none => s
  | some ch => giveRewrite .tamper (setChan ch { getChan ch s with status := x } s)

/-- A status handed back for each of a list of codes. -/
def handStatuses (x : RepStatus) (codes : List Nat) (s : State) : State :=
  codes.foldl (fun s c => handStatus c x s) s

/-! ### The queue and the round (R150, R152) -/

/-- Queue order: higher severity, then older time, then lower code (R150). -/
def ReportEntry.before (a b : ReportEntry) : Bool :=
  if a.severity ≠ b.severity then decide (b.severity < a.severity)
  else if a.time ≠ b.time then a.time.lt b.time
  else decide (a.code < b.code)

/-- An entry put in its place. -/
def insertEntry (e : ReportEntry) : List ReportEntry → List ReportEntry
  | [] => [e]
  | f :: l => if e.before f then e :: f :: l else f :: insertEntry e l

/-- The primary report number is not empty, so attempts fall due (R153). -/
def canReport (s : State) : Bool :=
  match s.gate.profile with
  | some p => !p.primary.isEmpty
  | none => false

/-- Every FAILED entry becomes QUEUED, and its channel is told (R152). -/
def requeueFailed (s : State) : State :=
  let codes := (s.report.queue.filter (·.failed)).map (·.code)
  handStatuses .queued codes
    { s with report := { s.report with
        queue := s.report.queue.map (fun e => { e with failed := false }) } }

/-- An entry joined or was renewed: a round begins unless one is under way (R152). -/
def startRound (s : State) : State :=
  if s.report.round = .inRound then s
  else
    let s1 := requeueFailed s
    { s1 with report := { s1.report with
        round := .inRound, attempt := 1, due := canReport s, nextDue := none } }

/-- The queue has become empty: no round (R152). -/
def endRound (s : State) : State :=
  { s with report := { s.report with
      round := .noRound, attempt := 1, due := false, nextDue := none } }

/-- A report joins the queue, or renews its entry with new figures (R145, R150). -/
def joinReport (code sev : Nat) (time : ShortTime) (s : State) : State :=
  let e : ReportEntry :=
    match s.report.queue.find? (fun e => e.code == code) with
    | some old => { old with severity := sev, time := time, failed := false,
                             renew := old.renew || old.snap }
    | none => ⟨code, sev, time, false, false, false⟩
  startRound { s with report := { s.report with
    queue := insertEntry e (s.report.queue.filter (fun f => f.code != code)) } }

/-! ### The end of a report call (R159 to R162) -/

/-- The call record of a report call (R162). -/
def reportRecord (o : CallOutcome) (s : State) : CallRecord :=
  { seq := 0, kind := .report, outcome := o, zone := none,
    digitCount := s.report.dialled.length, digits := s.report.dialled, start := s.report.start,
    wait := if s.report.answered then s.report.wait else 0, talk := s.report.talk,
    units := 0, charge := 0, credit := 0,
    edition := activeEdition s, band := s.report.band, clockInvalid := s.report.clockInvalid,
    gatePassed := false }

/-- The record of a report call that closed SEIZE is handed over and CALL ENDED raised (R162). -/
def recordReport (o : CallOutcome) (s : State) : State :=
  if s.report.seized then
    let (s1, place) := handRecord (reportRecord o s) s
    raise .report 10 (endedDetail place .report o 0) s1
  else s

/-- A report call ends: the line is released, the engine enters CLEARING with its timers stopped,
the claim returns to NONE and the station to rest, the record is handed over (R159 to R162). -/
def endReport (o : CallOutcome) (s : State) : State :=
  let s1 := releaseLine { s with line := { s.line with waiting := false } }
  let s2 := touchLive { s1 with
    call := { s1.call with claim := .free, station := restStation s1, cur := none },
    report := { s1.report with
      phase := if s1.line.state = .clearing then .clearing else .noCall,
      answerTimer := none, centreTimer := none, ackTimer := none } }
  let s3 := recordReport o s2
  { s3 with report := { s3.report with
      seized := false, toDial := [], frames := [], pos := 0, symbols := [], answered := false } }

/-- The snapshot marks are cleared (R160, R161), and the renewal marks, which mean something for a
marked entry only, with them (DEDUCED, log 46). -/
def clearSnaps (s : State) : State :=
  { s with report := { s.report with
      queue := s.report.queue.map (fun e => { e with snap := false, renew := false }) } }

/-- A report call ends without a counted attempt: the same attempt is due again at once where
reports remain (R161). -/
def abortReport (s : State) : State :=
  let s1 := clearSnaps (endReport .abandoned s)
  if s1.report.queue.isEmpty then s1
  else { s1 with report := { s1.report with due := canReport s1 } }

/-- A failed attempt is counted: the next is scheduled, or the round has failed (R152, R160). A call that a
withdrawal behind its snapshot left without a round is counted, if a new entry has begun one meanwhile, as
attempt 1 of that round (DESIGN CHOICE, log 61). -/
def countFailure (s : State) : State :=
  if s.report.round ≠ .inRound then s
  else if s.report.attempt < 4 then
    { s with report := { s.report with
        attempt := s.report.attempt + 1, due := false,
        nextDue := seconds (param (·.reportBaseS) s * 2 ^ (s.report.attempt - 1)) } }
  else
    let codes := s.report.queue.map (·.code)
    let s1 := handStatuses .failed codes
      { s with report := { s.report with
          queue := s.report.queue.map (fun e => { e with failed := true }),
          round := .failed, attempt := 1, due := false, nextDue := seconds 3600 } }
    raise .report 19 (b8 codes.length :: shortBytes (hourLater s.cal.time).short) s1

/-- An attempt fails (R160). -/
def failReport (o : CallOutcome) (s : State) : State := countFailure (clearSnaps (endReport o s))

/-- The codes of a frame snapshot as the bits of REPORT SENT (section 13.4). -/
def codeBits (frames : List Frame) : Nat := frames.foldl (fun n f => n ||| 2 ^ (f.code - 1)) 0

/-- The last frame is acknowledged: the attempt succeeds (R159). The attempt number raised is the one held,
1 where a withdrawal behind the snapshot ended the round (R152; DESIGN CHOICE, log 61). -/
def succeedReport (s : State) : State :=
  let frames := s.report.frames
  let attempt := s.report.attempt
  let s1 := endReport .endedByCaller s
  let sent := (s1.report.queue.filter (fun e => e.snap && !e.renew)).map (·.code)
  let s2 := handStatuses .sent sent
    { s1 with report := { s1.report with
        queue := (s1.report.queue.filter (fun e => !(e.snap && !e.renew))).map
          (fun e => { e with failed := if e.snap then false else e.failed,
                             snap := false, renew := false }) } }
  let s3 := raise .report 18
    ([b8 frames.length, b8 attempt] ++ leBytes 2 (codeBits frames)) s2
  if s3.report.queue.isEmpty then endRound s3
  else { s3 with report := { s3.report with
      round := .inRound, attempt := 1, due := canReport s3, nextDue := none } }

/-- The phases of a report call before its snapshot (R161). -/
def beforeSnapshot : Phase → Bool
  | .seize | .awaitTone | .dialling | .awaitCentre => true
  | .noCall | .sending | .awaitAck | .clearing => false

/-- A channel's report is withdrawn; a queue left empty ends the round, and the call if no snapshot
is taken (R150, R152, R161). -/
def withdrawReport (code : Nat) (s : State) : State :=
  let s1 := { s with report := { s.report with
    queue := s.report.queue.filter (fun e => e.code != code) } }
  if s1.report.queue.isEmpty then
    let s2 := endRound s1
    if beforeSnapshot s2.report.phase then endRound (abortReport s2) else s2
  else s1

/-! ### Frames (R157) -/

/-- The 28 digits of a frame between the star and the check digit (R157). A cash box value above 9,999,999,
which only a Tally Area altered from outside gives, is sent by its seven low digits, modulo 10,000,000
(DESIGN CHOICE, log 65). -/
def frameDigits (station : List Nat) (boxValue trips : Nat) (e : ReportEntry) : List Nat :=
  station ++ [e.code, e.severity] ++ decimal 3 (if e.code = 9 then 0 else min 999 trips)
    ++ decimal 2 e.time.month ++ decimal 2 e.time.day ++ decimal 2 e.time.hour
    ++ decimal 2 e.time.minute
    ++ decimal 7 (if e.code = 1 ∨ e.code = 8 then boxValue else 0)

/-- The check digit: the digits' sum modulo 10 (R157). -/
def checkDigit (ds : List Nat) : Nat := ds.sum % 10

/-- The 31 tone symbols of a frame: star, digits, check digit, square (R157, section 13.6). -/
def frameSymbols (ds : List Nat) : List Nat := [10] ++ ds ++ [checkDigit ds, 11]

/-- The frame of an entry, from the entry and its channel record as it stands (R157). The trip count and
the time are those of the channel's latest trip; for TEST the time is the entry's. Where a trip that
called no report has come since the entry was made, R157's table names the entry's time and its text the
latest trip's: the text is followed (DEDUCED, log 44). -/
def buildFrame (s : State) (e : ReportEntry) : Frame :=
  let station := match s.gate.profile with
    | some p => p.station
    | none => []
  let (trips, time) := match channelOf e.code with
    | some ch => ((getChan ch s).trips, (getChan ch s).last)
    | none => (0, e.time)
  ⟨e.code, frameSymbols (frameDigits station s.tally.boxValue trips { e with time := time })⟩

/-- The frame snapshot is taken and the first frame begins (R157, R158). -/
def takeSnapshot (s : State) : State :=
  let frames := s.report.queue.map (buildFrame s)
  { s with report := { s.report with
      queue := s.report.queue.map (fun e => { e with snap := true, renew := false }),
      frames := frames, pos := 0,
      symbols := (frames.head?.map (·.symbols)).getD [],
      phase := .sending, centreTimer := none } }

end Sys2Proof.Machine
end

