-- ==== Sys2Proof/Machine/CallOps.lean ====
section
/-! DEFINITION. The purse and its charges, the life of a call, the decision and the credit gate
(chapters 6 and 7). -/
namespace Sys2Proof.Machine

/-! ### The purse (R116, R119) -/

/-- The purse changes and the new figures are handed on: to the Live Image, and to the Coin Unit as
its purse state and deposited figures (R116). -/
def setPurse (p : Purse) (s : State) : State :=
  touchLive { s with
    meter := { s.meter with purse := p },
    coin := { s.coin with deposited := p.d, purseFig := p.state } }

/-- E0: U × M ÷ 100, rounded up (R119 step 1). -/
def rawCharge (u m : Nat) : Nat := (u * m + 99) / 100

/-- E: the smallest multiple of Q not below E0 (R119 step 2). -/
def unitCharge (u m q : Nat) : Nat :=
  if q = 0 then rawCharge u m else (rawCharge u m + (q - 1)) / q * q

/-- The clamped multiplier of a band in the active tables (R61). -/
def bandMult (s : State) (band : Nat) : Nat :=
  match s.tariff.active with
  | some (_, t) => t.mults.getD band 100
  | none => 100

/-- The charge of the metered call's next unit, computed now (R119, R122, R123, R125). -/
def nextCharge (m : Metered) (s : State) : Nat :=
  unitCharge m.u (if m.timed then bandMult s s.cal.band else 100) m.q

/-- A charge of the metered call: to C, to the call charge and to the Tally's charge total
(R121, R124). A charge total read above its range comes down to 9,999,999 (log 65). -/
def chargeCall (amount : Nat) (s : State) : State :=
  let p := s.meter.purse
  let s1 := setPurse { p with c := p.c + amount } s
  updTally (fun t => { t with chargeTotal := satAdd moneyTop t.chargeTotal amount })
    { s1 with meter := { s1.meter with charge := s1.meter.charge + amount } }

/-- The low-credit judgment after a charge: three bursts of WARN and CREDIT LOW (R125). -/
def judgeWarn (m : Metered) (s : State) : State :=
  let next := nextCharge m s
  let c := credit s.meter.purse
  if c < next then
    raise .metering 6 (money3 c ++ money3 next)
      { s with meter := { s.meter with warnLeft := 6, warnTimer := some 200 } }
  else s

/-- An OPEN purse begins to settle (R128). -/
def beginSettlement (s : State) : State :=
  if s.meter.purse.state = .opened then setPurse { s.meter.purse with state := .settling } s else s

/-- The metered call ends: no more charging, WARN stops (R126). -/
def endMetering (s : State) : State :=
  { s with meter := { s.meter with
      metered := none, units := 0, charge := 0, t := 0, nextUnit := 0, warnLeft := 0,
      warnTimer := none } }

/-! ### The call in progress (R88, R102) -/

/-- A call in progress as it begins; its band at answer is free until it is answered (log 16). Its edition
is 0 until the first accepted digit (R88), and so stays 0 for a report call (DESIGN CHOICE, log 50). -/
def newCall (kind : CallKind) (band : BitVec 3) : CallInfo :=
  { kind := kind, zone := none, decided := false, decisive := 0, complete := false,
    gatePassed := false, seized := false, number := [], maxLen := 0, edition := 0,
    start := zeroFull, clockInvalid := false, band := band, answered := false, wait := 0,
    talk := 0, required := 0, settleDue := false }

/-- A call in progress of a kind is set up. -/
def setCall (kind : CallKind) (s : State) : State :=
  touchLive { s with
    call := { s.call with cur := some (newCall kind (Config.freeBand s.fresh)) },
    fresh := s.fresh + 1 }

/-- The call in progress changes. -/
def updCall (f : CallInfo → CallInfo) (s : State) : State :=
  touchLive { s with call := { s.call with cur := s.call.cur.map f } }

/-- The call in progress has been decided PAID (R98): it waits for credit, or its gate has passed. -/
def paidCall (s : State) : Bool := s.call.cur.any (fun c => c.kind == .paid)

/-- A settlement that can come due while a paid call is in progress: it begins, or waits for the end of that
call, so that none is metered on a purse SETTLING or HELD (R128; log 40). -/
def settleAfterCall (s : State) : State :=
  if paidCall s then updCall (fun c => { c with settleDue := true }) s else beginSettlement s

/-- The Metering Unit takes the end of a call, and a settlement due at its end begins (R126, R128). -/
def takeEnd (c : CallInfo) (s : State) : State :=
  if c.settleDue then beginSettlement (endMetering s) else endMetering s

/-- The station takes a state, handed to the Live Image (R88). -/
def setStation (x : Station) (s : State) : State :=
  touchLive { s with call := { s.call with station := x } }

/-- The kind recorded for a call: PAID when it was never decided (R98). -/
def recordedKind : CallKind → CallKind
  | .undecided => .paid
  | .paid => .paid
  | .free => .free
  | .emergency => .emergency
  | .incoming => .incoming
  | .report => .report

/-- The record of a caller's or an incoming call (R102 step 4). -/
def callRecord (o : CallOutcome) (c : CallInfo) (units charge credit : Nat) : CallRecord :=
  { seq := 0, kind := recordedKind c.kind, outcome := o, zone := c.zone,
    digitCount := c.number.length, digits := c.number.take 20, start := c.start,
    wait := if c.answered then c.wait else 0,
    talk := c.talk, units := units, charge := charge, credit := credit, edition := c.edition,
    band := c.band, clockInvalid := c.clockInvalid, gatePassed := c.gatePassed }

/-- A call of the caller or an incoming call ends with an outcome, leaving the station in a state:
the steps of R102 in order. -/
def endCall (o : CallOutcome) (station : Station) (s : State) : State :=
  match s.call.cur with
  | none => s
  | some c =>
    -- step 1
    let s1 := { s with
      call := { s.call with dialQueue := [], creditTimer := none, answerTimer := none,
                            interDigit := none },
      line := { s.line with sender := none } }
    -- step 2
    let units := s.meter.units
    let charge := s.meter.charge
    let cr := credit s.meter.purse
    let s2 := takeEnd c s1
    -- step 3
    let s3 := releaseLine { s2 with line := { s2.line with waiting := false } }
    let s4 := { s3 with call := { s3.call with claim := .free, cur := none } }
    -- step 4
    let s5 :=
      if c.seized then
        let (s', place) := handRecord (callRecord o c units charge cr) s4
        raise .call 10 (endedDetail place (recordedKind c.kind) o charge) s'
      else s4
    -- step 5
    setStation station s5

/-- The station is in a call of the caller or an incoming call that a CORD trip, a line loss or
the like ends (R102). -/
def inCall : Station → Bool
  | .dialling | .creditWait | .ringback | .talking | .talkingIn => true
  | .idle | .ready | .ringIn | .reporting => false

/-! ### The service mode (R92, R93) -/

/-- The service mode is judged afresh while RUNNING; a change raises SERVICE MODE (R93). -/
def judgeMode (s : State) : State :=
  let m := modeOf s
  if m = s.call.mode then s
  else
    raise .call 23 ([b8 (modeCode m), b8 (modeCode s.call.mode)] ++ leBytes 2 (modeInputs s))
      (touchLive { s with call := { s.call with mode := m } })

/-! ### The decision and the credit gate (R97 to R99) -/

def activeTables (s : State) : Option Tables := s.tariff.active.map (·.2)

/-- A zone of the active tables (R61). -/
def zoneAt (s : State) (n : Nat) : Option Zone :=
  match s.tariff.active with
  | some (_, t) => t.zones[n]?
  | none => none

def roundingStep (s : State) : Nat :=
  match s.tariff.active with
  | some (_, t) => t.q
  | none => 1

/-- The required credit of a paid zone, S + E1 (R99, R120). -/
def requiredCredit (z : Zone) (s : State) : Nat :=
  z.s + unitCharge z.u (if z.kind = .timed then bandMult s s.cal.band else 100) (roundingStep s)

/-- Reasons of CALL REFUSED (section 13.4). -/
inductive RefuseReason where
  | barred | paidSuspended | settling | lineBusy | noLine
  deriving DecidableEq, Repr

def refuseCode : RefuseReason → Nat
  | .barred => 1
  | .paidSuspended => 2
  | .settling => 3
  | .lineBusy => 4
  | .noLine => 5

/-- CALL REFUSED is raised with the reason, the zone or none and the digit count (R98). -/
def raiseRefused (why : RefuseReason) (zone : Option Nat) (digits : Nat) (s : State) : State :=
  raise .call 7 [b8 (refuseCode why), zoneByte zone, b8 digits] s

/-- The call in progress is refused at its decision: CALL REFUSED, then the end of the call (R98). -/
def refuseCall (why : RefuseReason) (s : State) : State :=
  match s.call.cur with
  | none => s
  | some c => endCall .refused .ready (raiseRefused why c.zone c.number.length s)

/-- The credit gate of a paid call (R99): passed, or CREDIT WAIT with CREDIT NEEDED. -/
def creditGate (z : Zone) (s : State) : State :=
  let need := requiredCredit z s
  let have_ := credit s.meter.purse
  let s1 := updCall (fun c => { c with required := need }) s
  if need ≤ have_ then updCall (fun c => { c with gatePassed := true }) s1
  else
    let s2 := setStation .creditWait
      { s1 with call := { s1.call with creditTimer := seconds (param (·.creditHoldS) s) } }
    raise .metering 5 (money3 need ++ money3 have_) s2

/-- The number is settled or being settled: new paid and free numbers are refused (R98). -/
def purseSettling (s : State) : Bool :=
  s.meter.purse.state == .settling || s.meter.purse.state == .held

/-- A kind of zone may be dialled in the present mode (R92). -/
def modeAllows (m : Mode) (k : ZoneKind) : Bool :=
  match m, k with
  | .full, .timed | .full, .pulsed | .full, .free | .freeOnly, .free => true
  | _, _ => false

/-- After a decision: a number at or beyond the zone's maximum length is cut and complete (R97). -/
def limitNumber (s : State) : State :=
  match s.call.cur with
  | none => s
  | some c =>
    if c.decided && decide (c.maxLen ≤ c.number.length) then
      let keep := max c.maxLen c.decisive
      let gone := c.number.length - keep
      let s1 := updCall (fun c => { c with number := c.number.take keep, complete := true }) s
      { s1 with call := { s1.call with
          dialQueue := s1.call.dialQueue.take (s1.call.dialQueue.length - gone) } }
    else s

/-- The call in progress records its decision: kind, zone, decisive point, maximum length (R98). -/
def recordDecision (kind : CallKind) (zone : Option Nat) (maxLen : Nat) (s : State) : State :=
  updCall (fun c => { c with
    kind := kind, zone := zone, decided := true, decisive := c.number.length, maxLen := maxLen }) s

/-- A decision of the Tariff Unit is taken: the first case of R98 that applies. -/
def takeDecision (d : Decision) (s : State) : State :=
  match d with
  | .emergency =>
    let n := match s.call.cur with
      | some c => c.number.length
      | none => 0
    limitNumber (updCall (fun c => { c with gatePassed := true })
      (recordDecision .emergency none n s))
  | .noTariff => refuseCall .barred (recordDecision .paid none 0 s)
  | .zone n =>
    match zoneAt s n with
    | none => refuseCall .barred (recordDecision .paid none 0 s)
    | some z =>
      let kind : CallKind := if z.kind = .free then .free else .paid
      let s1 := recordDecision kind (some n) z.maxLen s
      if z.kind = .barred then refuseCall .barred s1
      else if purseSettling s1 then refuseCall .settling s1
      else if !modeAllows s1.call.mode z.kind then refuseCall .paidSuspended s1
      else if z.kind = .free then
        limitNumber (updCall (fun c => { c with gatePassed := true }) s1)
      else limitNumber (creditGate z s1)

/-- The number becomes complete; an undecided one is decided then (R97, R65). -/
def completeNumber (s : State) : State :=
  match s.call.cur with
  | none => s
  | some c =>
    if c.complete then s
    else
      let s1 := updCall (fun c => { c with complete := true }) s
      if c.decided then s1 else takeDecision (analyseComplete (activeTables s) c.number) s1

/-! ### Accepting digits (R96) -/

/-- A digit of the number can be accepted: the station is DIALLING or CREDIT WAIT, the Dial Queue
and the number have room, the number is not complete and not at its zone's length
(R96; R88 for the number's 24 codes, log 21). -/
def canAccept (s : State) : Bool :=
  match s.call.cur with
  | none => false
  | some c =>
    (s.call.station == .dialling || s.call.station == .creditWait)
      && decide (s.call.dialQueue.length < 24) && decide (c.number.length < 24) && !c.complete
      && (!c.decided || decide (c.number.length < c.maxLen))

/-- One digit is accepted: it joins the Dial Queue and the number, takes the edition if it is the
first, and is analysed while the zone is undecided (R96, R63). -/
def acceptDigit (d : Nat) (s : State) : State :=
  match s.call.cur, s.gate.profile with
  | some c, some p =>
    let number := c.number ++ [d]
    let edition := if c.number.isEmpty then activeEdition s else c.edition
    let s1 := updCall (fun c => { c with number := number, edition := edition })
      { s with call := { s.call with dialQueue := s.call.dialQueue ++ [d], interDigit := none } }
    if c.decided then limitNumber s1
    else match analyseDigit p (activeTables s) number d with
      | none => s1
      | some dec => takeDecision dec s1
  | _, _ => s

/-- The digits of an order are accepted one at a time until one is not; with them the count accepted
(R96). -/
def acceptDigits : List Nat → State → State × Nat
  | [], s => (s, 0)
  | d :: ds, s =>
    if canAccept s then
      let (s', n) := acceptDigits ds (acceptDigit d s)
      (s', n + 1)
    else (s, 0)

/-- The in-call digits that find room in the Dial Queue (R96). -/
def queueTones (ds : List Nat) (s : State) : State × Nat :=
  let room := 24 - s.call.dialQueue.length
  ({ s with call := { s.call with dialQueue := s.call.dialQueue ++ ds.take room } },
    (ds.take room).length)

/-! ### Answer and metering (R101, R121, R124) -/

/-- The unit count's largest value (R124). -/
def unitTop : Nat := 65535

/-- A unit of the metered call: the test of R124 in order. The next unit start is timed for a TIMED call
alone (R121). -/
def unitTest (m : Metered) (s : State) : State :=
  let e := nextCharge m s
  if s.meter.units = unitTop then endCall .unitLimit .ready s
  else if e ≤ credit s.meter.purse then
    let s1 := chargeCall e s
    judgeWarn m { s1 with meter := { s1.meter with
      units := s1.meter.units + 1,
      nextUnit := if m.timed then s1.meter.nextUnit + m.l else s1.meter.nextUnit } }
  else endCall .creditCutOff .ready s

/-- The Metering Unit takes an answered paid call as the metered call and tests the credit against S; a
PULSED call uses neither L nor F (R121). -/
def meterAnswer (z : Zone) (s : State) : State :=
  let m : Metered := ⟨z.kind == .timed, z.s, z.u, z.l, z.f, roundingStep s⟩
  if credit s.meter.purse < z.s then endCall .notConnected .ready s
  else
    let s1 := { s with meter := { s.meter with
      metered := some m, units := 0, charge := 0, t := 0,
      nextUnit := if m.timed then z.f else 0 } }
    let s2 := judgeWarn m (chargeCall z.s s1)
    if m.timed && z.f == 0 then unitTest m s2 else s2

/-- An answer of the caller's call: the station is TALKING, CALL ANSWERED is raised and a paid call
is metered (R101). -/
def answerCall (s : State) : State :=
  match s.call.cur with
  | none => s
  | some c =>
    let s1 := setStation .talking
      (updCall (fun c => { c with answered := true, talk := 0, band := BitVec.ofNat 3 s.cal.band })
        { s with
          call := { s.call with answerTimer := none },
          line := { s.line with answerP := none } })
    let s2 := raise .call 9 [b8 (callKindCode c.kind), zoneByte c.zone, b8 s.cal.band] s1
    match c.kind, c.zone.bind (zoneAt s) with
    | .paid, some z => if z.kind = .timed ∨ z.kind = .pulsed then meterAnswer z s2 else s2
    | _, _ => s2

/-- The station becomes RINGBACK: the line is CONNECTED, the answer limit starts and the wait to
answer is 0 (R100). -/
def enterRingback (s : State) : State :=
  let s1 := connectOut s
  setStation .ringback
    (updCall (fun c => { c with wait := 0 })
      { s1 with call := { s1.call with
          answerTimer := seconds (param (·.answerS) s), interDigit := none } })

end Sys2Proof.Machine
end

