-- ==== Sys2Proof/Machine/MoneyOps.lean ====
section
/-! DEFINITION. The collection demand, the settlement and the lane actions (sections 5.5, 7.4,
7.5). -/
namespace Sys2Proof.Machine

/-- A collection can start: the box is present and the door closed (R78 step 2). -/
def canCollect (s : State) : Bool := s.coin.box && !s.tamper.door.isOpen

/-- A lane action starts: the gate is driven, the lane state set and the drop window started
(R78). -/
def startAction (lane : LaneState) (pos : LaneGate) (s : State) : State :=
  touchLive { s with coin := { s.coin with
    lane := lane, gatePos := pos, dropTimer := some (param (·.dropMs) s) } }

/-- The Metering Unit gives, replaces or withdraws its standing request (R77, R127). -/
def setDemand (r : Request) (s : State) : State :=
  { s with coin := { s.coin with request := r }, meter := { s.meter with demand := r } }

/-- The Coin Unit judges whether a lane action can start (R78). -/
def startLane (s : State) : State :=
  if s.coin.lane = .clear then
    match s.coin.escrow with
    | [] => s
    | e :: _ =>
      if e.cls = 0 then startAction .toReturn .toReturn s
      else match s.coin.request with
        | .collect =>
          if canCollect s then startAction .toBox .toBox (setDemand .idle s) else s
        | .giveBack => startAction .toReturn .toReturn (setDemand .idle s)
        | .idle => s
  else s

/-- The passages under way are noted as those whose coins R129 settles at once. -/
def markLate (s : State) : State :=
  { s with coin := { s.coin with
      passages := s.coin.passages.map (fun p => { p with late := true }) } }

/-- The purse closes (R131). A forfeited total read above its range comes down to 9,999,999 (log 65). -/
def closePurse (s : State) : State :=
  let p := s.meter.purse
  let forfeit := p.k - p.c
  let s1 := updTally (fun t => { t with forfeited := satAdd moneyTop t.forfeited forfeit }) s
  let s2 := raise .metering 14 (money3 p.k ++ money3 p.r ++ money3 forfeit) s1
  setDemand .idle (setPurse .none (markLate s2))

/-- The demand of an OPEN purse (R127). -/
def openDemand (s : State) : Request :=
  if s.meter.purse.k < s.meter.purse.c ∧ hasCoin s.coin.escrow = true then .collect else .idle

/-- The demand of a SETTLING or HELD purse with entries in the lane (R129 cases 1 and 2). -/
def settleDemand (s : State) : Request :=
  if s.meter.purse.k < s.meter.purse.c ∧ hasCoin s.coin.escrow = true then .collect else .giveBack

/-- Why the action a settlement needs cannot start: the first cause that holds (R130). -/
def holdCauseOf (want : Request) (s : State) : HoldCause :=
  if s.coin.lane = .jammed then .laneJammed
  else if want = .collect ∧ headCoin s.coin.escrow = true then
    if !s.coin.box then .boxAbsent
    else if s.tamper.door.isOpen then .doorOpen
    else .nothing
  else .nothing

/-- A settlement becomes HELD, changes its cause, or goes on (R130). -/
def setHold (cause : HoldCause) (s : State) : State :=
  let p := s.meter.purse
  if cause = .nothing then
    if p.state = .held then setPurse { p with state := .settling, hold := .nothing } s else s
  else if p.state = .held then
    if p.hold = cause then s else setPurse { p with hold := cause } s
  else
    raise .metering 15 (b8 (holdCode cause) :: money3 (p.c - p.k))
      (setPurse { p with state := .held, hold := cause } s)

/-- Settlement begins of itself: the purse is OPEN, the hook on-hook and no call is metered
(R117, R128). -/
def settleOnHook (s : State) : State :=
  if !s.call.hook && s.meter.metered.isNone then beginSettlement s else s

/-- The Coin Unit's start-up is complete, and a purse found open is settled (R85, R134, R180). -/
def coinStarted (s : State) : State :=
  let s1 := { s with coin := { s.coin with started := true } }
  if s1.meter.purse.state = .absent then s1
  else setPurse { s1.meter.purse with state := .settling, hold := .nothing } s1

/-- The demand is judged: that of an open purse (R127), or a settlement's (R129, R130, R131). No new
request is given while an action started on one is in flight. -/
def judgeDemand (s : State) : State :=
  match s.meter.purse.state with
  | .absent => setDemand .idle s
  | .opened => if requestInFlight s.coin then s else setDemand (openDemand s) s
  | .settling | .held =>
    if requestInFlight s.coin then s
    else if s.coin.escrow.isEmpty && !inFlight s.coin.lane then closePurse s
    else
      let want := settleDemand s
      setHold (holdCauseOf want s) (setDemand want s)

/-- What the Metering Unit and the Coin Unit judge after a step, once the Coin Unit's start-up is
complete (R78, R127 to R134). -/
def judgeMoney (s : State) : State :=
  if s.coin.started then startLane (judgeDemand (settleOnHook s)) else s

/-- The lane action's drop is confirmed: the head leaves and its value moves to K or R
(R79, R118). A cash box value read above its range comes down to 9,999,999 (log 65). -/
def completeAction (s : State) : State :=
  match s.coin.escrow with
  | [] => s
  | e :: l =>
    let toBox := s.coin.lane == .toBox
    let s1 := touchLive { s with coin := { s.coin with
      escrow := l, lane := .clear, gatePos := .hold, dropTimer := none } }
    if e.cls = 0 then s1
    else
      let p := s1.meter.purse
      let s2 :=
        if p.state = .absent then s1
        else if toBox then setPurse { p with k := p.k + e.value } s1
        else setPurse { p with r := p.r + e.value } s1
      if toBox then
        updTally (fun t => updClass e.cls (fun c => { c with collected := inc16 c.collected })
          { t with boxValue := satAdd moneyTop t.boxValue e.value, boxCoins := inc16 t.boxCoins }) s2
      else updTally (updClass e.cls (fun c => { c with returned := inc16 c.returned })) s2

/-- The Lane Uncertain marker set (R82). -/
def setUncertain (s : State) : State :=
  touchLive { s with
    coin := { s.coin with uncertain := true },
    img := { s.img with tallyDirty := true } }

/-- The Lane Uncertain marker cleared (R82). -/
def clearUncertain (s : State) : State :=
  touchLive { s with
    coin := { s.coin with uncertain := false },
    img := { s.img with tallyDirty := true } }

/-- The sequence number after one, wrapping from 255 to 1 (R73). -/
def nextSeq (n : Nat) : Nat := if n < 255 then n + 1 else 1

/-- One more accepted coin of a class; past 65535 the count is held and the marker set
(R73, R170). -/
def countAccepted (cls : Nat) (s : State) : State :=
  if acceptedOf cls s.tally < 65535 then
    updTally (updClass cls (fun c => { c with accepted := c.accepted + 1 })) s
  else setUncertain s

/-- The arrival of a coin is credited to the purse, opening one if there is none (R117). -/
def creditCoin (value : Nat) (s : State) : State :=
  let p := s.meter.purse
  if p.state = .absent then setPurse { Purse.none with state := .opened, d := value } s
  else setPurse { p with d := p.d + value } s

/-- The arrival of a coin in flight since the last purse closed: into a purse NONE it opens a new one,
which is settled at once, whatever the hook, or at the end of a paid call in progress
(R128, R129, log 40). -/
def creditLate (value : Nat) (s : State) : State :=
  if s.meter.purse.state = .absent then settleAfterCall (creditCoin value s)
  else creditCoin value s

/-- A coin completes the oldest passage at the tail of the lane (R73, R129). -/
def arriveCoin (cls : Nat) (late : Bool) (s : State) : State :=
  match s.gate.profile with
  | none => s
  | some p =>
    let first := s.coin.purseFig = .absent ∧ s.coin.escrow = []
    let seq := if first then 1 else s.coin.arrival
    let value := classValue p cls
    let s1 := touchLive { s with coin := { s.coin with
      passages := s.coin.passages.drop 1,
      escrow := s.coin.escrow ++ [⟨cls, value, seq, s.cal.time⟩],
      arrival := nextSeq seq } }
    let s2 := (if late then creditLate value else creditCoin value) (countAccepted cls s1)
    raise .coin 1 ([b8 cls, b8 seq] ++ leBytes 2 value ++ money3 (credit s2.meter.purse)) s2

/-- A foreign object is entered at the tail of the lane (R74). -/
def arriveForeign (s : State) : State :=
  let seq := s.coin.arrival
  let s1 := touchLive { s with coin := { s.coin with
    passages := s.coin.passages.drop 1,
    escrow := s.coin.escrow ++ [⟨0, 0, seq, s.cal.time⟩],
    arrival := nextSeq seq } }
  let s2 := updTally (fun t => { t with foreign := inc16 t.foreign }) s1
  raise .coin 4 [b8 seq, b8 s1.coin.escrow.length] s2

/-- An object reaches a full lane: nothing is appended and the marker is set (R75). -/
def arriveFull (s : State) : State :=
  raise .coin 13 [1, b8 s.coin.escrow.length]
    (setUncertain { s with coin := { s.coin with passages := s.coin.passages.drop 1 } })

/-- A class's accepted count set to what its other counts and the escrow list account for; a sum past
65535 is an overflow (R170). -/
def rebuildClass (s : State) (cls : Nat) : State :=
  match s.tally.classes[cls - 1]? with
  | none => s
  | some c =>
    let n := c.collected + c.returned + c.cleared + s.coin.escrow.countP (fun e => e.cls == cls)
    let s1 := updTally (updClass cls (fun c => { c with accepted := min n 65535 })) s
    if 65535 < n then setUncertain s1 else s1

/-- The count rebuild of every class (R170). -/
def rebuildCounts (s : State) : State := [1, 2, 3, 4, 5, 6].foldl rebuildClass s

end Sys2Proof.Machine
end

