-- ==== Sys2Proof/Machine/TamperOps.lean ====
section
/-! DEFINITION. Channel trips and latches, the visit states and the box tally reset (chapter 8,
section 10.3). -/
namespace Sys2Proof.Machine

/-- Severity after a trip (R144): the base, one more from the third trip, never above 3. -/
def tripSeverity (p : Profile) (ch : Channel) (trips : Nat) : Nat :=
  match ch with
  | .force => 3
  | _ => min 3 (baseSeverity p ch + (if 3 ≤ trips then 1 else 0))

/-- A trip calls for a report (R145). -/
def callsReport (p : Profile) (sev : Nat) : Bool :=
  decide (1 ≤ p.threshold) && decide (p.threshold ≤ sev)

/-- The channel record after a trip, steps 1 to 6 of R135. -/
def trippedRec (p : Profile) (ch : Channel) (at_ : ShortTime) (x : ChanRec) : ChanRec :=
  let trips := inc16 x.trips
  let sev := tripSeverity p ch trips
  { x with
    state := .active, trips := trips, first := if x.trips = 0 then at_ else x.first, last := at_,
    severity := sev, status := if callsReport p sev then .queued else x.status }

/-- A trip of a channel by itself (R135), with its report (R145) and, for CORD, the end of a call
(R146). Its event is written at the step's end, behind the runs of this rewrite (DESIGN CHOICE, log 53). -/
def tripOne (ch : Channel) (s : State) : State :=
  match s.gate.profile with
  | none => s
  | some p =>
    let x := trippedRec p ch (now s) (getChan ch s)
    let s1 := setChan ch x s
    let s2 := if callsReport p x.severity then
        joinReport (channelCode ch) x.severity x.last s1 else s1
    let s3 := raise .tamper 16
      ([b8 (channelCode ch), b8 x.severity] ++ count2 x.trips
        ++ [bBool (x.status == .queued)]) s2
    let s4 := if ch = .cord ∧ inCall s3.call.station = true then endCall .cord .ready s3 else s3
    let s5 := if ch = .shock then
        { s4 with tamper := { s4.tamper with force := seconds p.forceS } } else s4
    giveRewrite .tamper s5

/-- Channels whose trip inside the force window makes FORCE (R143). -/
def forceful : Channel → Bool
  | .door | .case | .slot => true
  | .cord | .shock | .lane | .line | .force => false

/-- The condition of a channel appears: a QUIET or LATCHED channel trips, and a trip of DOOR, CASE or
SLOT inside the force window trips FORCE if it is not ACTIVE (R135, R143). -/
def condAppears (ch : Channel) (s : State) : State :=
  if (getChan ch s).state = .active then s
  else
    let s1 := tripOne ch s
    if forceful ch && s1.tamper.force.isSome && (getChan .force s1).state != .active then
      tripOne .force s1
    else s1

/-- The condition of a channel ends: an ACTIVE channel becomes LATCHED (R136). Its event is written at the
step's end, behind the runs of this rewrite (DESIGN CHOICE, log 53). -/
def condEnds (ch : Channel) (s : State) : State :=
  let x := getChan ch s
  if x.state = .active then
    giveRewrite .tamper
      (raise .tamper 17 (b8 (channelCode ch) :: count2 x.trips)
        (setChan ch { x with state := .latched } s))
  else s

/-- A channel is judged on its condition. -/
def judgeChan (ch : Channel) (present : Bool) (s : State) : State :=
  if present then condAppears ch s else condEnds ch s

/-- The DOOR condition: the debounced door open and no visit suppressing it (R137, R138). -/
def doorCond (t : Tamper) : Bool := t.door.isOpen && t.visitKind.isNone

/-- The CASE condition (R137, R138): suppressed by a SERVICE visit. -/
def caseCond (t : Tamper) : Bool := t.case.isOpen && decide (t.visitKind ≠ some .service)

/-- A stranding handed over by the Coin Unit (R72, R140). -/
def strandSlot (s : State) : State :=
  let s1 := condAppears .slot s
  if s1.pins.entry then s1
  else { s1 with tamper := { s1.tamper with slotClear := some 1000 } }

/-! ### Visits (R172 to R175) -/

/-- The visit kind is reported to the Tamper Monitor, which judges the channels it suppresses or lets
go, DOOR before CASE, in channel order (R138; the order is a DESIGN CHOICE, log 45). -/
def reportVisit (k : Option VisitKind) (s : State) : State :=
  let s1 := { s with tamper := { s.tamper with visitKind := k } }
  let s2 := judgeChan .door (doorCond s1.tamper) s1
  judgeChan .case (caseCond s2.tamper) s2

/-- A class's counts after a box tally reset (R174). -/
def resetClass (l : List EscrowEntry) (i : Nat) : ClassCount :=
  ⟨l.countP (fun e => e.cls == i + 1), 0, 0, 0⟩

/-- The box tally reset (R174). -/
def boxTallyReset (s : State) : State :=
  updTally (fun t => { t with
    boxValue := 0, boxCoins := 0, chargeTotal := 0, forfeited := 0,
    classes := #v[resetClass s.coin.escrow 0, resetClass s.coin.escrow 1,
      resetClass s.coin.escrow 2, resetClass s.coin.escrow 3, resetClass s.coin.escrow 4,
      resetClass s.coin.escrow 5] }) s

/-- The visit record of the visit in progress (R175). -/
def visitRecord (v : Visit) (lapsed : Bool) (closed : ShortTime) : VisitRecord :=
  ⟨v.kind, v.left, lapsed, v.collector, v.opened, closed, v.value, v.coins⟩

/-- A visit ends: its record joins the history, VISIT CLOSED is raised, the visit state is NONE
(R175). -/
def closeVisitRecord (lapsed : Bool) (s : State) : State :=
  let v := s.visit
  let s1 := updTally (fun t => { t with
    history := (visitRecord v lapsed (now s) :: t.history).take 4, visits := inc16 t.visits }) s
  raise .record 25
    ([b8 (visitKindCode v.kind), bBool lapsed] ++ money3 v.value ++ count2 v.coins)
    { s1 with visit := .none }

/-- A visit ends and its end is reported to the Tamper Monitor (R175). -/
def endVisit (lapsed : Bool) (s : State) : State := reportVisit none (closeVisitRecord lapsed s)

/-- The visit in progress changes; the Tally carries it (section 13.5). -/
def updVisit (f : Visit → Visit) (s : State) : State :=
  { s with visit := f s.visit, img := { s.img with tallyDirty := true } }

/-- The visit moves on a change of the debounced door state (R173). -/
def visitDoor (isOpen : Bool) (s : State) : State :=
  match s.visit.state, isOpen with
  | .awaitingDoor, true => updVisit (fun v => { v with state := .doorOpen, timer := none }) s
  | .doorOpen, false => endVisit false s
  | _, _ => s

/-- The visit moves on a change of the BOX switch (R173, R174). The visit's sums are unbounded and are
written saturated (DESIGN CHOICE, log 47). -/
def visitBox (present : Bool) (s : State) : State :=
  match s.visit.state, present with
  | .doorOpen, false =>
    updVisit (fun v => { v with
      state := .boxOut, value := v.value + s.tally.boxValue, coins := v.coins + s.tally.boxCoins,
      noted := s.tally.classes.toList.map (·.collected) }) s
  | .boxOut, true =>
    let s1 := updVisit (fun v => { v with state := .doorOpen, left := true })
      (clearUncertain (boxTallyReset s))
    if s1.tamper.door.isOpen then s1 else endVisit false s1
  | _, _ => s

/-- What CLOSE VISIT does to an open visit before ending it: out with the box, a box tally reset
without the box's return (R175). -/
def closeBoxOut (s : State) : State :=
  if s.visit.state = .boxOut then updVisit (fun v => { v with left := true }) (boxTallyReset s)
  else s

end Sys2Proof.Machine
end

