-- ==== Sys2Proof/Machine/Restore.lean ====
section
/-! DEFINITION. What a start-up takes back from the Tally Area, the Tamper Area and the Live Image
(R149, R171, R184 to R188, section 13.5). -/
namespace Sys2Proof.Machine

/-- The two change counts of an image are equal and even (R14, R149, R171, R184). -/
def countsAgree (bs : List Byte) (last : Nat) : Bool :=
  byteAt bs 0 == byteAt bs last && natAt bs 0 % 2 == 0

/-- `k` digit codes packed from an offset. -/
def digitsAt (bs : List Byte) (i k : Nat) : List Nat := unpackDigits ((bs.drop i).take k)

/-- A packed time at an offset. -/
def timeAt (bs : List Byte) (i : Nat) : ShortTime := unpackTime (fieldAt bs i 4)

/-! ### The Tally Area -/

/-- The four counts of class `i + 1`. -/
def readClass (bs : List Byte) (i : Nat) : ClassCount :=
  ⟨fieldAt bs (1 + 8 * i) 2, fieldAt bs (3 + 8 * i) 2, fieldAt bs (5 + 8 * i) 2,
    fieldAt bs (7 + 8 * i) 2⟩

/-- Visit record `i` of the history; none where the place has never been written. A kind other than 2 is
read as COLLECTION (DESIGN CHOICE, log 54). -/
def readVisit (bs : List Byte) (i : Nat) : Option VisitRecord :=
  let o := 123 + 16 * i
  if natAt bs o % 64 = 0 then none
  else some ⟨visitKindOf (natAt bs o % 64), bitSet (natAt bs o) 6, bitSet (natAt bs o) 7,
    digitsAt bs (o + 1) 2, timeAt bs (o + 3), timeAt bs (o + 7), fieldAt bs (o + 11) 3,
    fieldAt bs (o + 14) 2⟩

/-- The counts and the history of a Tally Area whose change counts agree (R171). -/
def readTally (bs : List Byte) : Tally :=
  { classes := #v[readClass bs 0, readClass bs 1, readClass bs 2, readClass bs 3, readClass bs 4,
      readClass bs 5],
    boxValue := fieldAt bs 49 3, boxCoins := fieldAt bs 52 2, stranded := fieldAt bs 54 2,
    foreign := fieldAt bs 56 2, refused := fieldAt bs 58 2, unattended := fieldAt bs 60 2,
    fault := fieldAt bs 62 2, flushed := fieldAt bs 64 2,
    kinds := #v[fieldAt bs 67 2, fieldAt bs 69 2, fieldAt bs 71 2, fieldAt bs 73 2,
      fieldAt bs 75 2],
    chargeTotal := fieldAt bs 77 3, forfeited := fieldAt bs 80 3, refusedHost := fieldAt bs 83 2,
    lineLost := fieldAt bs 85 2, stray := fieldAt bs 87 2, notKept := fieldAt bs 89 2,
    visits := fieldAt bs 91 2, bank := bankOf (natAt bs 93), edition := fieldAt bs 94 2,
    history := [readVisit bs 0, readVisit bs 1, readVisit bs 2, readVisit bs 3].filterMap id }

/-- The visit in progress that a Tally Area carries (R176). A state byte above 3 is read as NONE and a kind
other than 2 as COLLECTION (DESIGN CHOICE, log 54). -/
def readVisitOpen (bs : List Byte) : Visit :=
  { state := visitStateOf (natAt bs 98), kind := visitKindOf (natAt bs 99 % 128),
    collector := digitsAt bs 100 2, opened := timeAt bs 102, value := fieldAt bs 106 3,
    coins := fieldAt bs 109 2,
    noted := (List.range 6).map (fun i => fieldAt bs (111 + 2 * i) 2),
    left := bitSet (natAt bs 99) 7, timer := none }

/-- The Record Unit takes the Tally Area it has read, or zeroes its counts (R171, R168, R86); counts
held through the read are added (R169). -/
def restoreTally (bs : List Byte) (s : State) : State :=
  let good := countsAgree bs 191
  let t := if good then readTally bs else Tally.zero
  let t := { t with refusedHost := satAdd 65535 t.refusedHost s.sys.heldRefused }
  { s with
    tally := t,
    visit := if good then readVisitOpen bs else .none,
    ring := { s.ring with seq := if good then fieldAt bs 96 2 else 0 },
    sys := { s.sys with
      tallyReset := !good, tallyMarker := good && natAt bs 66 != 0, heldRefused := 0,
      tallyDone := true, tallyBuf := [] } }

/-! ### The Tamper Area -/

/-- The record of channel code `i + 1`. -/
def readChan (bs : List Byte) (i : Nat) : ChanRec :=
  let o := 16 + 16 * i
  ⟨chanStateOf (natAt bs o), natAt bs (o + 1), fieldAt bs (o + 2) 2, timeAt bs (o + 4),
    timeAt bs (o + 8), BitVec.ofNat 16 (fieldAt bs (o + 12) 2), repStatusOf (natAt bs (o + 14))⟩

/-- A channel record's state, severity and report status are within their sets (R149). -/
def chanGood (bs : List Byte) (i : Nat) : Bool :=
  let o := 16 + 16 * i
  decide (natAt bs o ≤ 2) && decide (natAt bs (o + 1) ≤ 3) && decide (natAt bs (o + 14) ≤ 3)

/-- A Tamper Area is usable (R149). -/
def tamperGood (bs : List Byte) : Bool :=
  countsAgree bs 143 && (List.range 8).all (chanGood bs)

/-- The channels begun afresh at their base severities (R149). -/
def freshChans (p : Profile) : Channels :=
  ⟨.fresh (baseSeverity p .door), .fresh (baseSeverity p .case), .fresh (baseSeverity p .cord),
    .fresh (baseSeverity p .shock), .fresh (baseSeverity p .slot), .fresh (baseSeverity p .lane),
    .fresh (baseSeverity p .line), .fresh 3⟩

/-- The eight channels of a usable area. -/
def readChans (bs : List Byte) : Channels :=
  ⟨readChan bs 0, readChan bs 1, readChan bs 2, readChan bs 3, readChan bs 4, readChan bs 5,
    readChan bs 6, readChan bs 7⟩

/-- The Tamper Monitor takes the area it has read, or begins afresh (R149). -/
def restoreTamper (bs : List Byte) (s : State) : State :=
  let chans :=
    if tamperGood bs then readChans bs
    else match s.gate.profile with
      | some p => freshChans p
      | none => s.tamper.chans
  { s with
    tamper := { s.tamper with chans := chans },
    sys := { s.sys with tamperDone := true, tamperBuf := [] } }

/-! ### The Live Image (R184, R188) -/

/-- The escrow count. -/
def liveCount (bs : List Byte) : Nat := bitsOf (fieldAt bs 5 2) 10 4

/-- Escrow entry `i`, its value and class. -/
def liveEntry (bs : List Byte) (i : Nat) : Nat × Nat :=
  (bitsOf (fieldAt bs (28 + 2 * i) 2) 0 13, bitsOf (fieldAt bs (28 + 2 * i) 2) 13 3)

/-- The values lying in the lane of an image. -/
def liveEscrowValue (bs : List Byte) : Nat :=
  ((List.range (liveCount bs)).map (fun i => (liveEntry bs i).1)).sum

/-- The purse fields of an image. -/
def livePurse (bs : List Byte) : Purse :=
  ⟨purseOf (natAt bs 2 % 4), fieldAt bs 9 3, fieldAt bs 12 3, fieldAt bs 15 3, fieldAt bs 18 3,
    fieldAt bs 21 3, .nothing⟩

/-- The purse of an image is within its ranges and in balance (R184, R117). -/
def purseGood (bs : List Byte) : Bool :=
  let p := livePurse bs
  decide (p.d ≤ moneyTop + 5000) && decide (p.c ≤ moneyTop) && decide (p.k ≤ moneyTop)
    && decide (p.r ≤ moneyTop) && decide (p.x ≤ moneyTop)
    && (if p.state = .absent then p.d == 0 && p.c == 0 && p.k == 0 && p.r == 0 && p.x == 0
        else p.d == p.k + p.r + p.x + liveEscrowValue bs)

/-- The escrow list of an image is usable (R184, R188). -/
def escrowGood (bs : List Byte) : Bool :=
  decide (liveCount bs ≤ 10)
    && (liveCount bs == 0 || natAt bs 4 != 0)
    && (List.range (liveCount bs)).all (fun i =>
        (liveEntry bs i).2 != 7 && ((liveEntry bs i).2 != 0 || (liveEntry bs i).1 == 0))

/-- The pending record slot of an image is occupied. -/
def livePend (bs : List Byte) : Bool := bitSet (natAt bs 75) 7

/-- The pending record of an image is within its sets (R184). -/
def pendGood (bs : List Byte) : Bool :=
  !livePend bs || (decide (1 ≤ natAt bs 75 % 8 ∧ natAt bs 75 % 8 ≤ 5)
    && decide (1 ≤ bitsOf (natAt bs 75) 3 4 ∧ bitsOf (natAt bs 75) 3 4 ≤ 14))

/-- A Live Image is usable (R184, R188). -/
def liveGood (bs : List Byte) : Bool :=
  countsAgree bs 95 && decide (natAt bs 1 % 16 ≤ 8) && decide (bitsOf (natAt bs 1) 4 2 ≤ 2)
    && decide (bitsOf (natAt bs 2) 4 3 ≤ 4) && escrowGood bs && purseGood bs
    && decide (bitsOf (fieldAt bs 5 2) 14 2 ≤ 2) && pendGood bs && decide (natAt bs 57 % 8 ≤ 5)

/-- A time `n` seconds after another (R188). -/
def timeLater (n : Nat) (t : FullTime) : FullTime :=
  (secondsLater n ⟨t, 0, 0, true, 0, false⟩).time

/-- The sequence number `n` after one, wrapping from 255 to 1 (R188). -/
def seqLater (seq : Nat) : Nat → Nat
  | 0 => seq
  | n + 1 => nextSeq (seqLater seq n)

/-- The arrival time of entry `i`: the head's, then each delay after the one before (R188). -/
def liveArrival (now : FullTime) (bs : List Byte) : Nat → FullTime
  | 0 => rebuildYear now (timeAt bs 24)
  | i + 1 => timeLater (natAt bs (48 + i)) (liveArrival now bs i)

/-- The escrow list of a usable image (R86, R188). -/
def liveEscrow (now : FullTime) (bs : List Byte) : List EscrowEntry :=
  (List.range (liveCount bs)).map (fun i =>
    ⟨(liveEntry bs i).2, (liveEntry bs i).1, seqLater (natAt bs 4) i, liveArrival now bs i⟩)

/-- An edition held as a zero flag and the image's edition (R188). -/
def liveEdition (bs : List Byte) (zero : Bool) : Nat := if zero then 0 else fieldAt bs 7 2

/-- Filler codes in place of the digits an image does not hold (R188). -/
def fillers (n : Nat) : List Nat := List.replicate (min 20 n) 15

/-- A zone held in bits 0 to 3 with its none flag in bit 4. -/
def liveZone (b : Nat) : Option Nat := if bitSet b 4 then none else some (b % 16)

/-- The pending record of a usable image (R168, R188). -/
def livePendRecord (now : FullTime) (bs : List Byte) : CallRecord :=
  let packed := fieldAt bs 77 4
  let n := bitsOf packed 26 5
  { seq := fieldAt bs 73 2, kind := callKindOf (natAt bs 75 % 8),
    outcome := outcomeOf (bitsOf (natAt bs 75) 3 4), zone := liveZone (natAt bs 76),
    digitCount := n, digits := fillers n, start := rebuildYear now (unpackTime packed),
    wait := fieldAt bs 81 2, talk := fieldAt bs 83 3, units := fieldAt bs 86 2,
    charge := fieldAt bs 88 3, credit := fieldAt bs 91 3,
    edition := liveEdition bs (bitSet (natAt bs 76) 7), band := BitVec.ofNat 3 (natAt bs 94),
    clockInvalid := bitSet packed 31, gatePassed := bitSet (natAt bs 76) 6 }

/-- The call in progress of an image was seized (R185). -/
def liveSeized (bs : List Byte) : Bool := bitSet (natAt bs 57) 3

/-- The POWER LOST record of a seized call (R185). Its credit is 0 where the image shows C above D (DESIGN
CHOICE, log 59). -/
def lostRecord (now : FullTime) (bs : List Byte) : CallRecord :=
  let packed := fieldAt bs 59 4
  let report := natAt bs 1 % 16 == stationCode .reporting
  let n := if report then 0 else bitsOf packed 26 5
  let kind := if report then .report else callKindOf (natAt bs 57 % 8)
  { seq := 0, kind := recordedKind kind, outcome := .powerLost,
    zone := if report ∨ kind = .undecided then none else liveZone (natAt bs 58),
    digitCount := n, digits := fillers n,
    start := if report then zeroFull else rebuildYear now (unpackTime packed),
    wait := if report then 0 else fieldAt bs 63 2, talk := if report then 0 else fieldAt bs 65 3,
    units := fieldAt bs 68 2, charge := fieldAt bs 70 3, credit := credit (livePurse bs),
    edition := liveEdition bs (bitSet (natAt bs 58) 5),
    band := BitVec.ofNat 3 (natAt bs 57 / 32),
    clockInvalid := bitSet packed 31, gatePassed := !report && bitSet (natAt bs 57) 4 }

/-- The Coin Unit and the Metering Unit restore the lane and the purse (R86, R134, R184). The purse is
restored also beside a lane found FLUSHING, over an emptied list, and settled at the flush's end (DESIGN
CHOICE, log 56); an arrival counter byte of 0 is taken as 0 (DESIGN CHOICE, log 57). -/
def restoreLane (bs : List Byte) (s : State) : State :=
  let code := bitsOf (natAt bs 2) 4 3
  let flushing := code == 4
  let cut := code == 1 || code == 2
  let p := livePurse bs
  { s with
    coin := { s.coin with
      escrow := if flushing then [] else liveEscrow s.cal.time bs,
      arrival := natAt bs 3,
      lane := if code = 3 then .jammed else .clear,
      mustFlush := flushing,
      uncertain := bitSet (natAt bs 2) 7 || s.sys.tallyMarker || cut || !bitSet (natAt bs 1) 7,
      deposited := p.d, purseFig := p.state },
    meter := { s.meter with purse := p } }

/-- The Record Unit hands over the record of a call cut off (R185). -/
def restoreLost (bs : List Byte) (s : State) : State :=
  if liveSeized bs then
    let c := lostRecord s.cal.time bs
    let (s1, place) := handRecord c s
    { s1 with sys := { s1.sys with powerLost := some ⟨place, c.kind, c.charge⟩ } }
  else s

/-- Each block takes its state from a usable Live Image; an unusable one restores nothing
(R184, R185). Under an unusable image the marker shows what the Tally showed until the flush sets it
(DESIGN CHOICE, log 42). -/
def restoreLive (bs : List Byte) (s : State) : State :=
  if liveGood bs then
    let s1 := restoreLane bs s
    let s2 := { s1 with
      call := { s1.call with ordered := bitSet (natAt bs 1) 6 },
      ring := { s1.ring with
        slot := if livePend bs then some (livePendRecord s.cal.time bs) else none },
      sys := { s1.sys with imageBank := bankOf (bitsOf (fieldAt bs 5 2) 14 2) } }
    restoreLost bs (placePending s2)
  else { s with coin := { s.coin with mustFlush := true, uncertain := s.sys.tallyMarker } }

end Sys2Proof.Machine
end

