-- ==== Sys2Proof/Machine/Settle.lean ====
section
/-! DEFINITION. What the blocks judge after a step: the money and the lane, activation, the service
mode, the report claim, the digit sender, the gate reasons; then the posts (log 15). -/
namespace Sys2Proof.Machine

/-! ### Activation (R57 to R59) -/

/-- A bank guard flag set or cleared (R10). -/
def setBankGuard (bank : Bank) (on : Bool) (s : State) : State :=
  match bank with
  | .a => { s with gate := { s.gate with guardA := on } }
  | .b => { s with gate := { s.gate with guardB := on } }

/-- An effective time is reached (R57). -/
def timeReached (eff : Option FullTime) (c : Calendar) : Bool :=
  match eff with
  | none => true
  | some e => c.valid && e.le c.time

/-- The current band is selected afresh (R49, R50). -/
def reselectBand (s : State) : State :=
  { s with cal := { s.cal with band := chooseBand s.tariff.active s.cal } }

/-- The bank letter and edition are handed to the Record Unit for the Tally and the Live Image
(R59 step 5, R62). -/
def handBank (bank : Option Bank) (edition : Nat) (s : State) : State :=
  touchLive (updTally (fun t => { t with bank := bank, edition := edition }) s)

/-- The detail of TARIFF ACTIVE (section 13.4). -/
def activeDetail (bank : Bank) (edition : Nat) (old : Option (Bank × Tables)) : List Byte :=
  [b8 (bankCode (some bank))] ++ leBytes 2 edition
    ++ (match old with
        | some (_, t) => 1 :: leBytes 2 t.edition
        | none => [0, 0, 0])

/-- The candidate becomes active, in the order of R59. -/
def activate (bank : Bank) (t : Tables) (s : State) : State :=
  let old := s.tariff.active
  let s1 := { s with tariff := { s.tariff with active := some (bank, t), swap := .idle } }
  let s2 := match old with
    | some (ob, _) => if ob = bank then s1 else setBankGuard ob false s1
    | none => s1
  handBank (some bank) t.edition
    (raise .tariff 21 (activeDetail bank t.edition old) (reselectBand s2))

/-- The Tariff Unit judges activation (R59). -/
def judgeActivation (s : State) : State :=
  match s.tariff.swap with
  | .pending bank eff t => if timeReached eff s.cal && atBoundary s then activate bank t s else s
  | .idle | .loading _ _ _ => s

/-- Activation is judged, and a change of the band it brings is written to the Clock Image by a rewrite of
its own, also where the activation follows a SET CLOCK or ADJUST CLOCK in one step (R46; DESIGN CHOICE,
log 52). -/
def judgeActivationClock (s : State) : State :=
  let s1 := judgeActivation s
  if s1.cal.band = s.cal.band then s1 else giveRewrite .clock s1

/-! ### The report claim (R107, R108, R153, R154) -/

/-- The claim the Report Engine raises: the severity of the queue's head (R153). -/
def claimWanted (s : State) : Option Nat :=
  if s.report.due && s.report.phase == .noCall && canReport s then
    s.report.queue.head?.map (·.severity)
  else none

/-- The number an attempt dials (R152). -/
def attemptNumber (p : Profile) (attempt : Nat) : List Nat :=
  if attempt ≤ 2 ∨ p.secondary = [] then p.primary else p.secondary

/-- The report claim is granted: REPORTING, and the Report Engine enters SEIZE (R108, R154). -/
def grantReport (s : State) : State :=
  match s.gate.profile with
  | none => s
  | some p =>
    let number := attemptNumber p s.report.attempt
    let s1 := setStation .reporting (setCall .report s)
    askSeize { s1 with
      call := { s1.call with claim := .report, reportClaim := none },
      report := { s1.report with
        phase := .seize, due := false, dialled := number, toDial := number, seized := false,
        start := zeroFull, clockInvalid := false, answered := false, wait := 0, talk := 0,
        band := Config.freeBand s.fresh } }

/-- A claim of a severity may be granted now (R108). -/
def mayGrant (sev : Nat) (s : State) : Bool :=
  s.call.claim == .free &&
    (s.call.station == .idle
      || (sev == 3 && s.call.station == .ready && !purseOpen s))

/-- The report claim is raised, raised again or withdrawn, and judged (R107, R108, R153). -/
def judgeReport (s : State) : State :=
  let want := claimWanted s
  let s1 := { s with call := { s.call with reportClaim := want } }
  match want with
  | none => s1
  | some sev => if mayGrant sev s1 then grantReport s1 else s1

/-! ### The digit sender (R96, R97, R99, R100, R112, R155, R158) -/

/-- The dial mode is PULSE. -/
def pulseMode (s : State) : Bool :=
  match s.gate.profile with
  | some p => p.pulse
  | none => false

/-- The sender is idle. -/
def idleSender (s : State) : Bool := s.line.sender.isNone

/-- In CREDIT WAIT a credit that covers the required credit passes the gate (R99, R120), that of a late coin
included, whose purse stays OPEN until the call has ended (DEDUCED, log 40). -/
def judgeGate (s : State) : State :=
  match s.call.cur with
  | none => s
  | some c =>
    if s.call.station = .creditWait ∧ c.required ≤ credit s.meter.purse then
      setStation .dialling
        (updCall (fun c => { c with gatePassed := true })
          { s with call := { s.call with creditTimer := none } })
    else s

/-- The head of the Dial Queue may be offered to the sender as a digit of the number (R100). -/
def mayDial (s : State) (c : CallInfo) : Bool :=
  s.call.station == .dialling && s.line.state == .sending && idleSender s
    && (!c.decided || c.gatePassed)

/-- The head of the Dial Queue may be offered as an in-call tone (R96). -/
def mayTone (s : State) : Bool :=
  (s.call.station == .talking || s.call.station == .talkingIn)
    && s.line.state == .connected && idleSender s

/-- The Call Controller offers the head of the Dial Queue (R96, R100). -/
def offerDigit (s : State) : State :=
  match s.call.cur, s.call.dialQueue with
  | some c, d :: ds =>
    if mayDial s c then
      startDigit (pulseMode s) d { s with call := { s.call with dialQueue := ds } }
    else if mayTone s then
      startDigit false d { s with call := { s.call with dialQueue := ds } }
    else s
  | _, _ => s

/-- The whole number has been sent and its gate passed (R100). -/
def numberSent (s : State) (c : CallInfo) : Bool :=
  s.call.station == .dialling && s.line.state == .sending && idleSender s
    && s.call.dialQueue.isEmpty && c.complete && c.gatePassed

/-- The station becomes RINGBACK once the number has been sent (R100). -/
def judgeRingback (s : State) : State :=
  match s.call.cur with
  | some c => if numberSent s c then enterRingback s else s
  | none => s

/-- The conditions under which the inter-digit timer runs (R97). -/
def awaitsDigit (s : State) : Bool :=
  match s.call.cur with
  | some c => s.call.station == .dialling && s.line.state == .sending && idleSender s
      && s.call.dialQueue.isEmpty && !c.complete
  | none => false

/-- The inter-digit timer starts, runs on or stops (R97). -/
def judgeInterDigit (s : State) : State :=
  if awaitsDigit s then
    match s.call.interDigit with
    | some _ => s
    | none =>
      { s with call := { s.call with interDigit := seconds (param (·.interDigitS) s) } }
  else { s with call := { s.call with interDigit := none } }

/-- The digits of a report number that can be sent: in PULSE mode the star and the square are passed
over (R155). -/
def dropStars (pulse : Bool) (ds : List Nat) : List Nat :=
  if pulse then ds.dropWhile (fun d => d == 10 || d == 11) else ds

/-- The Report Engine offers the next digit or symbol, and goes on after the last
(R155, R158). -/
def offerReport (s : State) : State :=
  if idleSender s then
    match s.report.phase with
    | .dialling =>
      match dropStars (pulseMode s) s.report.toDial with
      | d :: ds =>
        startDigit (pulseMode s) d { s with report := { s.report with toDial := ds } }
      | [] =>
        let s1 := connectOut s
        { s1 with report := { s1.report with
            phase := .awaitCentre, toDial := [], answerTimer := seconds (param (·.answerS) s) } }
    | .sending =>
      match s.report.symbols with
      | d :: ds => startDigit false d { s with report := { s.report with symbols := ds } }
      | [] => { s with report := { s.report with phase := .awaitAck, ackTimer := some 3000 } }
    | .noCall | .seize | .awaitTone | .awaitCentre | .awaitAck | .clearing => s
  else s

/-- What the calling side judges after a step. -/
def judgeSender (s : State) : State :=
  offerReport (judgeInterDigit (judgeRingback (offerDigit (judgeGate s))))

/-! ### The end of a step -/

/-- The closing reasons are judged afresh (R67). -/
def judgeReasons (s : State) : State :=
  let r := closingReasons s
  if r = s.coin.reasons then s else touchLive { s with coin := { s.coin with reasons := r } }

/-- What the blocks judge while the part is RUNNING. -/
def settle (s : State) : State :=
  if s.sys.part = .running then
    judgeSender (judgeReport (judgeMode (judgeActivationClock (judgeMoney s))))
  else s

/-- The end of a step whose command left `s`: the judgments, the gate reasons, the events and the
images; of the producers that wait, the first `n` waited before the step (log 14, 15). -/
def finish (n : Nat) (s : State) : State :=
  shuffleWaiters n (postImages (flushEvents (judgeReasons (settle s))))

/-- How many producers wait. -/
def waiting (s : State) : Nat := s.gate.waiters.length

/-- A step with a body followed by what the blocks judge. -/
def stepWith (body : State → State) (s : State) : State := finish (waiting s) (body s)

end Sys2Proof.Machine
end

