-- ==== Sys2Proof/Machine/Bus.lean ====
section
/-! DEFINITION. Station-processor writes: the gate's judgment, guarded writes, watched bytes, WAIT
(R1, R3, R8 to R11, R15, R19, R20). -/
namespace Sys2Proof.Machine

/-! ### Guard and watch (R1, R3, R8 to R10) -/

/-- The offset of an address in an area of a size, none outside it. -/
def inArea (base size a : Nat) : Option Nat :=
  if base ≤ a ∧ a < base + size then some (a - base) else none

/-- A byte of an order slot: `k` is its offset in the Order Slots area (R9). -/
def slotByte (guards : BitVec 16) (k : Nat) : ByteClass :=
  if guards.getLsbD (k / 32) then .guarded
  else if k % 32 = 0 then .orderCode (Fin.ofNat 16 (k / 32))
  else if k % 32 < 28 then .plain
  else .guarded

/-- A byte of a ring: the read index is watched, the rest guarded (R8). -/
def ringByte (watched : ByteClass) (k : Nat) : ByteClass := if k = 1 then watched else .guarded

/-- An address in one of the four images. -/
def inImage (p : Profile) (a : Nat) : Bool :=
  [ImageId.clock, .live, .tally, .tamper].any
    (fun i => (inArea (imageBase p i) (imageLen i + 2) a).isSome)

/-- A byte of a bank is guarded while its bank's flag is set (R10). -/
def inGuardedBank (g : Gate) (p : Profile) (a : Nat) : Bool :=
  (g.guardA && (inArea p.bankABase 2048 a).isSome)
    || (g.guardB && (inArea p.bankBBase 2048 a).isSome)

/-- How the gate treats a byte while the map of a profile and the guard states are in force
(R3, R8 to R10). -/
def mapClass (g : Gate) (p : Profile) (a : Nat) : ByteClass :=
  if a = 0xFFFE ∨ a = 0xFFFF then .guarded
  else match inArea p.slotsBase 512 a with
  | some k => slotByte g.slotGuard k
  | none => match inArea p.eventsBase 528 a with
    | some k => ringByte .eventRead k
    | none => match inArea p.callsBase 2576 a with
      | some k => ringByte .callRead k
      | none => if inImage p a || inGuardedBank g p a then .guarded else .plain

/-- The guard states hold: RUNNING, STARTING with the profile accepted, or a soft restart that has not
begun its restart proper (R1, section 1.4). -/
def guardsHold (s : State) : Bool :=
  s.sys.part == .running || (s.sys.part == .starting && (s.sys.accepted || s.sys.waitRestart))

/-- How the gate treats a station-processor write to an address (R1, R3). In a soft restart's restart
proper, before the judgment, a watched byte counts as guarded. -/
def gateClass (s : State) (a : Nat) : ByteClass :=
  match s.gate.profile with
  | none => if s.sys.part = .unconfigured ∧ a = 0xFFFF then .restartByte else .plain
  | some p =>
    let c := mapClass s.gate p a
    if guardsHold s then c
    else if s.sys.part = .starting then (if c = .plain then .plain else .guarded)
    else .plain

/-! ### The owners of watched bytes -/

/-- The run that sets a slot's outcome to NONE and its state to POSTED (R19). -/
def postedRun (p : Profile) (n : Fin 16) : PostEntry :=
  .write (slotAddr p n 28) [0, 0, 0, 1] .plain

/-- A non-zero code in a slot held FREE or DONE posts an order (R19); between the acceptance of a
RESTART and the restart proper it is finished ABORTED in the same way (R26). -/
def postOrder (n : Fin 16) (s : State) : State :=
  match s.gate.profile with
  | none => s
  | some p =>
    let s1 := offer .orderUnit [postedRun p n] (setGuard n true s)
    if s.sys.waitRestart then
      giveOutcome n .aborted (kindCode .soft) (setSlot n .taken s1)
    else
      let s2 := setSlot n .posted s1
      { s2 with orders := { s2.orders with queue := s2.orders.queue ++ [n] } }

/-- A code of zero in a slot held DONE makes it FREE (R20). -/
def freeSlot (n : Fin 16) (s : State) : State :=
  match s.gate.profile with
  | none => s
  | some p =>
    if s.orders.slots[n] = .done then
      offer .orderUnit [.write (slotAddr p n 31) [0] .plain] (setSlot n .free s)
    else s

/-- A start-up begins at stage 1: the anchor's read run is given, and no image is written until its
owner begins to write it (R2, R4, R179). -/
def beginStart (s0 : State) : State :=
  let s := closeImages s0
  offer .gate [.read 0xFFF0 2 .anchor]
    { s with
      sys := { s.sys with
        part := .starting, accepted := false, stage := .anchor, evDone := false,
        callDone := false, tallyDone := false, tamperDone := false, imageTaken := false,
        tallyMarker := false, imageBank := none, waitRestart := false, powerLost := none,
        heldRefused := 0, tallyBuf := [], tamperBuf := [], liveBuf := [] },
      gate := { s.gate with profileBuf := [] } }

/-- The owner of a watched byte acts on a write that has passed to memory (R1, R8, R9, R3). -/
def actOn (c : ByteClass) (value : Byte) (s : State) : State :=
  match c with
  | .plain | .guarded => s
  | .orderCode n => if value = 0 then freeSlot n s else postOrder n s
  | .eventRead => takeEventIndex value s
  | .callRead => takeCallIndex value s
  | .restartByte => if s.sys.part = .unconfigured then beginStart s else s

/-! ### Guarded writes (R11) -/

/-- Guarded writes are held until the Tally has been read (R169, log 27). -/
def tallyAwaited (s : State) : Bool :=
  s.sys.part == .starting && s.sys.kind != .soft && !s.sys.tallyDone

/-- A guarded write is counted and raises GUARD unless the flag is set (R11). -/
def guardedWrite (a : Addr) (value : Byte) (s : State) : State :=
  let s1 :=
    if tallyAwaited s then
      { s with sys := { s.sys with heldRefused := inc16 s.sys.heldRefused } }
    else updTally (fun t => { t with refusedHost := inc16 t.refusedHost }) s
  if s1.ev.guardFlag then s1
  else raise .record guardCode (leBytes 2 a.toNat ++ [value]) s1

/-! ### The arbiter (R15) -/

/-- The depth of the Post Queue from which a cycle is held by WAIT (R15). -/
def waitDepth : Nat := 12

/-- An admitted write reaches memory and the owner of the byte acts on it (R1). -/
def serveWrite (c : ByteClass) (a : Addr) (value : Byte) (s : State) : State :=
  actOn c value { s with mem := Memory.write s.mem a.toNat value }

/-- Station-processor writes are suppressed, not counted and not acted on (R1, R16, R17). -/
def suppressed (s : State) : Bool :=
  s.gate.inhibit || s.gate.hreset || s.sys.part == .dark || s.sys.part == .failing

/-- A station-processor write (R1, R15). -/
def hostWrite (a : Addr) (value : Byte) (s : State) : State :=
  if suppressed s then s
  else if s.gate.held ≠ [] then
    { s with gate := { s.gate with held := s.gate.held ++ [⟨a, value, none⟩] } }
  else match gateClass s a.toNat with
  | .guarded => guardedWrite a value s
  | c =>
    if waitDepth ≤ s.gate.queue.length then
      { s with gate := { s.gate with held := [⟨a, value, some c⟩] } }
    else serveWrite c a value s

/-- The head entry has completed: the held cycle is served, and those behind it are judged, each as a
step of its own (R15, log 9). -/
def serveHeld (s : State) : State :=
  match s.gate.held with
  | [] => s
  | h :: l =>
    let s1 := { s with gate := { s.gate with held := [] } }
    l.foldl (fun s h => stepWith (hostWrite h.addr h.value) s)
      (stepWith (serveWrite (h.cls.getD (gateClass s1 h.addr.toNat)) h.addr h.value) s1)

/-- The head entry makes its last byte cycles, and its owner acts on it (R13). -/
def complete (effect : List Byte → State → State) (s : State) : State :=
  let (s1, d) := finishHead s
  effect d s1

/-- The head entry completes, and then a held cycle is served (R13, R15). -/
def completeStep (effect : List Byte → State → State) (s : State) : State :=
  serveHeld (stepWith (complete effect) s)

/-! ### The commands -/

/-- STATION_PROCESSOR_WRITE (R1). -/
def execStationProcessorWrite (addr : Addr) (value : Byte) (s : State) :
    Host.Outcome State Fault Refusal :=
  .next (stepWith (hostWrite addr value) s)

/-- ORDER_POSTED: a non-zero order code written to byte 0 of a slot (R19). -/
def execOrderPosted (slot : Fin 16) (code : Byte) (s : State) :
    Host.Outcome State Fault Refusal :=
  match s.gate.profile with
  | none => .next s
  | some p =>
    if code = 0 then .next s
    else .next (stepWith (hostWrite (BitVec.ofNat 16 (slotAddr p slot 0)) code) s)

/-- SLOT_FREED: a zero order code written to byte 0 of a slot (R20). -/
def execSlotFreed (slot : Fin 16) (s : State) : Host.Outcome State Fault Refusal :=
  match s.gate.profile with
  | none => .next s
  | some p => .next (stepWith (hostWrite (BitVec.ofNat 16 (slotAddr p slot 0)) 0) s)

/-- RESTART_BYTE_WRITE (R3, R181). -/
def execRestartByteWrite (value : Byte) (s : State) : Host.Outcome State Fault Refusal :=
  .next (stepWith (hostWrite 0xFFFF value) s)

/-- EVENT_READ_INDEX_WRITE (R31). -/
def execEventReadIndexWrite (value : Byte) (s : State) : Host.Outcome State Fault Refusal :=
  match s.gate.profile with
  | none => .next s
  | some p => .next (stepWith (hostWrite (BitVec.ofNat 16 (p.eventsBase + 1)) value) s)

/-- CALL_RING_READ_INDEX_WRITE (R167). -/
def execCallRingReadIndexWrite (value : Byte) (s : State) : Host.Outcome State Fault Refusal :=
  match s.gate.profile with
  | none => .next s
  | some p => .next (stepWith (hostWrite (BitVec.ofNat 16 (p.callsBase + 1)) value) s)

end Sys2Proof.Machine
end

