-- ==== Sys2Proof/Machine/Startup.lean ====
section
/-! DEFINITION. Start-up: the stages of R179, acceptance and refusal of a profile, entry to RUNNING
(R5, R27, R28, R149, R163, R168, R171, R179 to R182). -/
namespace Sys2Proof.Machine

/-! ### The tariff's start-up load (R62, R178) -/

/-- The bank a start-up loads (the table of R178). -/
def startBank (p : Profile) (s : State) : Bank :=
  match s.sys.kind with
  | .cold => p.initial
  | .restoration | .hard => s.sys.imageBank.getD p.initial
  | .soft => s.sys.keptBank.getD p.initial

/-- The 32 read runs of a bank (R54). -/
def bankRuns (p : Profile) (bank : Bank) : List PostEntry :=
  readRuns .bank (bankBase p bank) (List.replicate 32 64)

/-- The start-up load begins (R62, R179 stage 5). -/
def startLoad (s : State) : State :=
  match s.gate.profile with
  | none => s
  | some p =>
    let bank := startBank p s
    let s1 := setBankGuard bank true s
    offer .tariffUnit (bankRuns p bank)
      { s1 with
        sys := { s1.sys with stage := .tariff },
        tariff := { s1.tariff with startLoad := some bank, buf := [] } }

/-! ### Entry to RUNNING (R179 stage 6, R180) -/

/-- The flush of the lane begins, or begins afresh: the gate is at TO BOX and the wait of R87 starts. -/
def startFlush (c : Coin) : Coin :=
  { c with lane := .flushing, gatePos := .toBox, flushTimer := some 2000, mustFlush := false }

/-- The lane's part in the entry to RUNNING: the flush begins on an emptied list, and the list and the lane
state are handed to the Record Unit for the Live Image (R76, R87). A lane kept FLUSHING through a soft
restart goes on with its list kept, which is no change to hand over (R76, R85, R182, log 37). Otherwise the
Coin Unit's start-up is complete and a restored purse becomes SETTLING (R85, R134). -/
def startCoin (s : State) : State :=
  let s1 := { s with coin := { s.coin with box := s.pins.box, boxTimer := none } }
  if s.coin.mustFlush then
    rebuildCounts (touchLive { s1 with coin := startFlush { s1.coin with escrow := [] } })
  else if s.coin.lane = .flushing then { s1 with coin := startFlush s1.coin }
  else coinStarted s1

/-- The first judgment of one channel: a kept ACTIVE channel whose condition is absent becomes LATCHED
without an event (R149). -/
def firstJudge (ch : Channel) (present : Bool) (s : State) : State :=
  let x := getChan ch s
  if x.state = .active then
    if present then s else setChan ch { x with state := .latched } s
  else if present then condAppears ch s
  else s

/-- A channel's report is handed to the Report Engine with its status (R149, R163). -/
def rebuildEntry (s : State) (ch : Channel) (q : List ReportEntry) : List ReportEntry :=
  let x := getChan ch s
  if x.status = .queued ∨ x.status = .failed then
    insertEntry ⟨channelCode ch, x.severity, x.last, x.status == .failed, false, false⟩ q
  else q

/-- The Report Queue is rebuilt and the round set (R163). -/
def rebuildReports (s : State) : State :=
  let q := [Channel.door, .case, .cord, .shock, .slot, .lane, .line, .force].foldl
    (fun q ch => rebuildEntry s ch q) []
  let s1 := { s with report := { Report.reset with queue := q } }
  if q = [] then s1
  else if q.any (fun e => !e.failed) then
    let s2 := requeueFailed s1
    { s2 with report := { s2.report with round := .inRound, due := canReport s2 } }
  else { s1 with report := { s1.report with round := .failed, nextDue := seconds 3600 } }

/-- The Tamper Monitor takes the debounced states and judges every channel for the first time, in
channel order (log 45); the Tamper Area is rewritten from count 0 (R149, R163). An ENTRY already active
starts no slot block timer until its next edge (DEDUCED, log 45). -/
def startTamper (s : State) : State :=
  let s1 := { s with tamper := { s.tamper with
    door := ⟨s.pins.door, none⟩, case := ⟨s.pins.case, none⟩, cord := ⟨s.pins.cord, none⟩ } }
  let s2 := firstJudge .door (doorCond s1.tamper) s1
  let s3 := firstJudge .case (caseCond s2.tamper) s2
  let s4 := firstJudge .cord s3.tamper.cord.isOpen s3
  let s5 := firstJudge .shock false s4
  let s6 := firstJudge .slot false s5
  let s7 := firstJudge .lane (s6.coin.lane == .jammed) s6
  let s8 := firstJudge .line false s7
  beginImage .tamper (rebuildReports (firstJudge .force false s8))

/-- The RESTART slot is finished DONE with the status, and ORDER FINISHED raised behind it
(R26, R24). -/
def finishRestart (s : State) : State :=
  match s.sys.restart with
  | none => s
  | some r =>
    finishDeferred r 15 .done s.sys.status.toNat { s with sys := { s.sys with restart := none } }

/-- The events held through STARTING are written behind START-UP, in their order (R29, R179). -/
def writeHeld (s : State) : State :=
  s.ev.outbox.foldl (fun s e => writeEvent e s) { s with ev := { s.ev with outbox := [] } }

/-- A restored open visit ends (R176). -/
def startVisit (s : State) : State :=
  if s.visit.state = .closed then s else closeVisitRecord false (closeBoxOut s)

/-- The CALL ENDED of a POWER LOST record (R180, R185). -/
def announceLost (s : State) : State :=
  match s.sys.powerLost with
  | none => s
  | some l =>
    raise .record 10 (endedDetail l.place l.kind .powerLost l.charge)
      { s with sys := { s.sys with powerLost := none } }

/-- The hook filter starts with the hook taken as on-hook, and the line enters CLEARING with the full
guard (R88, R89, R115). -/
def startCall (s : State) : State :=
  setLine .clearing { s with
    call := { s.call with hook := false, hookTimer := if s.pins.hook then some 100 else none },
    line := { s.line with guard := seconds (param (·.guardS) s) } }

/-- The last stage has ended and the part is RUNNING (R177, R180). -/
def enterRunning (s : State) : State :=
  announceLost (startTamper (startVisit (startCoin (startCall (finishRestart
    (writeHeld { s with sys := { s.sys with part := .running } }))))))

/-! ### The order of the stages (R179) -/

/-- Every post that the stages have given has its place in the Post Queue; the slot scan and the Clock
Image proceed beside the stages (R12, R179). -/
def stagePostsGiven (s : State) : Bool :=
  s.gate.waiters.all (fun w => w.who == .orderUnit || w.who == .image .clock)

/-- The four reads of stage 3 have ended, or are not to be made (R179). -/
def recordsDone (s : State) : Bool :=
  s.sys.evDone && s.sys.callDone && s.sys.tallyDone && s.sys.tamperDone

/-- Behind stage 3 the Live Image is read at a restoration and a hard reset, and the load begins at a cold
power-on and a soft restart (R179). -/
def leaveRecords (s : State) : State :=
  match s.gate.profile, s.sys.kind with
  | some p, .restoration | some p, .hard =>
    offer .record (readRuns .live p.liveBase [64, 32])
      { s with sys := { s.sys with stage := .live } }
  | _, _ => startLoad s

/-- The part is in a stage whose posts all have their places: with its reads ended, the stage is over
(R12, R179; log 60). -/
def stageGiven (x : Stage) (s : State) : Bool :=
  s.sys.part == .starting && s.sys.stage == x && stagePostsGiven s

/-- Stage 3 ends (R179). -/
def endRecords (s : State) : State :=
  if stageGiven .records s && recordsDone s then leaveRecords s else s

/-- Stage 4 ends (R179). -/
def endLive (s : State) : State :=
  if stageGiven .live s && s.sys.imageTaken then startLoad s else s

/-- Stage 6 ends, and the part is RUNNING (R177, R179). -/
def endAnnounce (s : State) : State :=
  if stageGiven .announce s then enterRunning s else s

/-- A post of the stage under way has been given its place: the stage ends if it was the last
(R12, R179). -/
def nextStage (s : State) : State :=
  match s.sys.stage with
  | .records => endRecords s
  | .live => endLive s
  | .announce => endAnnounce s
  | .anchor | .profile | .tariff => s

/-- START-UP with its details (R179). -/
def startUpEvent (s : State) : Event :=
  ⟨.startUp, 28, now s, [b8 (kindCode s.sys.kind), s.sys.status, bBool s.sys.tallyReset,
    b8 (bankCode (s.tariff.active.map (·.1)))]⟩

/-- Stage 6: the status byte is posted, the Live Image rewritten in full with the interrupted marker
clear, and START-UP written (R179). -/
def announceStart (s : State) : State :=
  let s1 := offer .gate [.write 0xFFFE [s.sys.status] .plain] s
  let s2 := beginImage .live { s1 with
    img := { s1.img with final := false }, sys := { s1.sys with stage := .announce } }
  endAnnounce (writeEvent (startUpEvent s2) s2)

/-! ### Acceptance and refusal (R5, R181) -/

/-- The profile is refused: the status byte is posted and the part is UNCONFIGURED with no map
(R4, R18, R181). -/
def refuseProfile (code : Byte) (s : State) : State :=
  offer .gate [.write 0xFFFE [code] .plain]
    { s with
      sys := { s.sys with part := .unconfigured, accepted := false, status := code,
                          heldRefused := 0 },
      gate := { s.gate with profile := none, slotGuard := 0, guardA := false, guardB := false },
      coin := { s.coin with gatePos := .hold },
      ev := { s.ev with outbox := [] } }

/-- The slots held POSTED or TAKEN, as guard flags (R9, R18). -/
def slotGuards (slots : Vector SlotState 16) : BitVec 16 :=
  BitVec.ofNat 16 (flagsNat (slots.toList.map (fun x => x == .posted || x == .taken)))

/-- The sixteen one-byte read runs of the slot scan (R27). -/
def scanRuns (p : Profile) : List PostEntry :=
  (List.finRange 16).map (fun n => .read (slotAddr p n 31) 1 (.slotState n))

/-- A ring header of zeros (R28, R168, R179 stage 3). -/
def zeroHeader (base : Nat) : PostEntry := .write base (List.replicate 16 0) .plain

/-- The reads of the two ring headers. -/
def headerReads (p : Profile) : List PostEntry :=
  [.read p.eventsBase 16 .eventHeader, .read p.callsBase 16 .callHeader]

/-- Stage 3 at a cold power-on: the ring headers and the Tally are posted with zeros and the channels
begin afresh (R28, R149, R168, R171, R179). -/
def beginCold (p : Profile) (s : State) : State :=
  let s1 := offer .record [zeroHeader p.eventsBase, zeroHeader p.callsBase]
    { s with
      sys := { s.sys with evDone := true, callDone := true, tallyDone := true,
                          tamperDone := true },
      tamper := { s.tamper with chans := freshChans p } }
  beginImage .tally s1

/-- Stage 3 at a restoration or a hard reset (R179). -/
def beginRestore (p : Profile) (s : State) : State :=
  offer .tamperUnit (readRuns .tamper p.tamperBase [64, 64, 16])
    (offer .record (headerReads p ++ readRuns .tally p.tallyBase [64, 64, 64]) s)

/-- Stage 3 at a soft restart: the rings are read from the new map; the Tally is kept, rewritten in full
if the profile moved it (R171, R179), and otherwise where a guarded write of the restart proper has
changed it (R169, log 27). Its change count is kept with it, not started from 0 (DESIGN CHOICE, log 55). -/
def beginSoft (old : Option Profile) (p : Profile) (s : State) : State :=
  let x := s.img.tally
  let moved := decide (old.map (·.tallyBase) ≠ some p.tallyBase)
  giveRewrite .tally (offer .record (headerReads p)
    { s with
      sys := { s.sys with tallyDone := true, tamperDone := true },
      img := { s.img with tally :=
        { x with on := true, shown := if moved then [] else x.shown } } })

/-- The profile is accepted: its fields, map and guard states come into force, the slot scan and the
Clock Image are given, and stage 3 begins (R5, R6, R27, R41, R69, R178, R179). -/
def acceptProfile (bs : List Byte) (s : State) : State :=
  let p := readProfile bs
  let s1 := { s with
    gate := { s.gate with profile := some p, slotGuard := slotGuards s.orders.slots },
    sys := { s.sys with accepted := true, stage := .records,
                        status := if profileClamped bs then 2 else 1 },
    cal := { s.cal with note := false },
    coin := { s.coin with inhibits := inhibitsOf p } }
  let s2 := beginImage .clock (offer .orderUnit (scanRuns p) s1)
  endRecords (match s.sys.kind with
    | .cold => beginCold p s2
    | .restoration | .hard => beginRestore p s2
    | .soft => beginSoft s.gate.profile p s2)

/-! ### The reads of start-up -/

/-- The anchor is judged (R2). -/
def anchorEffect (d : List Byte) (s : State) : State :=
  let page := natAt d 0
  if byteAt d 1 = byteAt d 0 ^^^ 0xFF ∧ page ≠ 0xFF then
    offer .gate (readRuns .profile (page * 256) [64, 64, 64, 64])
      { s with gate := { s.gate with page := page, profileBuf := [] },
               sys := { s.sys with stage := .profile } }
  else refuseProfile 0x81 s

/-- The profile is judged (R4). -/
def profileEffect (d : List Byte) (s : State) : State :=
  let bs := s.gate.profileBuf ++ d
  match profileFault s.gate.page bs with
  | some code => refuseProfile code s
  | none => acceptProfile bs s

/-- A slot is treated by the state byte found (R27). A slot posted since acceptance and the RESTART's
own slot are passed over. -/
def scanEffect (n : Fin 16) (d : List Byte) (s : State) : State :=
  match s.gate.profile with
  | none => s
  | some p =>
    let x := s.orders.slots[n]
    if x = .posted ∨ x = .taken ∨ s.sys.restart.any (fun r => r.slot == n) = true then s
    else match natAt d 0 with
    | 0 => setSlot n .free s
    | 3 => setSlot n .done s
    | 1 | 2 =>
      offer .orderUnit
        [.write (slotAddr p n 28)
          (b8 (orderOutcomeCode .aborted) :: leBytes 2 (kindCode s.sys.kind) ++ [3]) .plain]
        (setSlot n .done s)
    | _ => offer .orderUnit [.write (slotAddr p n 31) [0] .plain] (setSlot n .free s)

/-- The Event Ring's header is taken (R28). -/
def eventHeaderEffect (d : List Byte) (s : State) : State :=
  match s.gate.profile with
  | none => s
  | some p =>
    let w := byteAt d 0
    let full := decide (32 < unread w (byteAt d 1))
    let r := if full then w else byteAt d 1
    let s1 := { s with
      ev := { s.ev with w := w, r := r, dropped := natAt d 2, lastW := w },
      sys := { s.sys with evDone := true } }
    endRecords (if full then offer .record [.write (p.eventsBase + 1) [r] .plain] s1 else s1)

/-- The Call Record Ring's header is taken, and a record kept pending through a soft restart is placed
where the ring has room (R165, R168). -/
def callHeaderEffect (d : List Byte) (s : State) : State :=
  match s.gate.profile with
  | none => s
  | some p =>
    let w := byteAt d 0
    let full := decide (64 < unread w (byteAt d 1))
    let r := if full then w else byteAt d 1
    let s1 := { s with
      ring := { s.ring with w := w, r := r, notKept := natAt d 2 },
      sys := { s.sys with callDone := true } }
    endRecords (placePending
      (if full then offer .record [.write (p.callsBase + 1) [r] .plain] s1 else s1))

/-- The Tally is taken or zeroed (R171). -/
def tallyEffect (d : List Byte) (s : State) : State :=
  endRecords (restoreTally (s.sys.tallyBuf ++ d) s)

/-- The Tamper Area is taken, or the channels begin afresh (R149). -/
def tamperEffect (d : List Byte) (s : State) : State :=
  endRecords (restoreTamper (s.sys.tamperBuf ++ d) s)

/-- The Live Image is judged and the blocks restored; the counts are rebuilt, the Tally is rewritten
from count 0, and stage 4 ends behind their posts (R170, R171, R179 stage 4, R184). A part whose image was unusable
counts as having taken its state from stage 4, so that a power failure before RUNNING writes a final
image (R183; DESIGN CHOICE, log 49). -/
def liveEffect (d : List Byte) (s : State) : State :=
  let s1 := rebuildCounts (restoreLive (s.sys.liveBuf ++ d) s)
  let s2 := { s1 with
    sys := { s1.sys with imageTaken := true, liveBuf := [] },
    img := { s1.img with tallyDirty := false } }
  endLive (beginImage .tally s2)

/-! ### The end of the start-up load -/

/-- The start-up load ends, and stage 6 begins (R62, R179). -/
def endStartLoad (bank : Bank) (bs : List Byte) (s : State) : State :=
  let s1 := { s with tariff := { s.tariff with startLoad := none, buf := [] } }
  match bankFault bs with
  | none =>
    let t := readTables bs
    let s2 := reselectBand { s1 with tariff := { s1.tariff with active := some (bank, t) } }
    let s3 := if s2.cal.band = s.cal.band then s2 else giveRewrite .clock s2
    announceStart (handBank (some bank) t.edition s3)
  | some _ => announceStart (handBank none 0 (setBankGuard bank false s1))

/-! ### The end of a bank load (R24, R25, R55, R56) -/

/-- The bytes of an effective time, zeros for "at once". -/
def effBytes (eff : Option FullTime) : List Byte := fullBytes (eff.getD zeroFull)

/-- The load of a SWAP TARIFF ends: PENDING, or INVALID BANK (R55, R56). -/
def endSwapLoad (bank : Bank) (eff : Option FullTime) (o : Deferred) (bs : List Byte) (s : State) :
    State :=
  match bankFault bs with
  | none =>
    let t := readTables bs
    let s1 := { s with tariff := { s.tariff with swap := .pending bank eff t, buf := [] } }
    let s2 := raise .tariff 20 ([b8 (bankCode (some bank))] ++ leBytes 2 t.edition
      ++ effBytes eff) s1
    finishDeferred o 8 .done (multsClamped bs) s2
  | some (sec, idx) =>
    let s1 := setBankGuard bank false
      { s with tariff := { s.tariff with swap := .idle, buf := [] } }
    finishDeferred o 8 .invalidBank (sec + 256 * idx) s1

/-- The last run of a bank load is handed over (R55, R62). -/
def bankEffect (d : List Byte) (s : State) : State :=
  let bs := s.tariff.buf ++ d
  match s.tariff.startLoad, s.tariff.swap with
  | some bank, _ => endStartLoad bank bs s
  | none, .loading bank eff o => endSwapLoad bank eff o bs s
  | none, .idle | none, .pending _ _ _ => s

/-- The Tariff Unit awaits the bytes of a bank. -/
def bankWanted (s : State) : Bool :=
  (s.sys.part == .starting || s.sys.part == .running) &&
    (s.tariff.startLoad.isSome || match s.tariff.swap with
      | .loading _ _ _ => true
      | .idle | .pending _ _ _ => false)

/-! ### The soft restart (R26, R85, R182) -/

/-- The slots that a RESTART aborts, in ascending order: every other slot held POSTED or TAKEN, one
whose outcome run is not yet written among them (R26, log 18). -/
def restartAborts (own : Fin 16) (s : State) : List (Fin 16) :=
  (List.finRange 16).filter (fun n =>
    decide (n ≠ own) && (s.orders.slots[n] == .posted || s.orders.slots[n] == .taken))

/-- The Coin Unit at the acceptance of a RESTART: list and lane are kept, and an action in flight is cut
short (R84, R85, R182). A lane found FLUSHING stays so with its gate (log 37). -/
def softCoin (c : Coin) : Coin :=
  let cut := inFlight c.lane
  { c with
    passages := [], lane := if cut then .clear else c.lane,
    gatePos := if c.lane = .flushing then c.gatePos else .hold, dropTimer := none,
    flushTimer := none, request := .idle,
    uncertain := c.uncertain || cut || !c.passages.isEmpty, inhibits := 0b111111,
    boxTimer := none, started := false, mustFlush := false }

/-- The Tamper Monitor at the start of a soft restart: the channels are kept (R149). -/
def softTamper (t : Tamper) : Tamper := { Tamper.reset with chans := t.chans }

/-- The bank that stays guarded through a soft restart (R18). -/
def activeBank (s : State) : Option Bank := s.tariff.active.map (·.1)

/-- A RESTART is accepted: the other orders are aborted and the blocks take the state their reset
tables give (R18, R26, R28, R62, R85, R88, R115, R134, R149, R163, R182). A SWAP TARIFF finished
ABORTED here raises no ORDER FINISHED (DESIGN CHOICE, log 39). The Clock Image and the Tamper Area are
written no more, a rewrite owed included (R41, R149; log 12); the Live Image follows the lane and the
marker (R76, R82), and the Tally the marker. -/
def softReset (own : Deferred) (s : State) : State :=
  let aborts := restartAborts own.slot s
  let s1 := aborts.foldl (fun s n => giveOutcome n .aborted (kindCode .soft) (setSlot n .taken s))
    { s with orders := { s.orders with queue := [], busy := none, data := none } }
  { s1 with
    sys := { s1.sys with
      part := .starting, kind := .soft, accepted := false, stage := .anchor, tallyReset := false,
      imageTaken := false, tallyMarker := false, imageBank := none, keptBank := activeBank s,
      restart := some own, waitRestart := true, powerLost := none, heldRefused := 0 },
    gate := { s1.gate with
      guardA := activeBank s == some .a, guardB := activeBank s == some .b,
      waiters := s1.gate.waiters.filter (fun w => w.who != .tariffUnit) },
    ev := { s1.ev with seq := 0, guardFlag := false, announced := false, attn := false },
    cal := { s1.cal with band := 0 },
    img := { s1.img with
      clock := s1.img.clock.closed, tamper := s1.img.tamper.closed, liveDirty := true,
      tallyDirty := true },
    tariff := { active := none, swap := .idle, startLoad := none, buf := [] },
    coin := softCoin s1.coin,
    meter := .reset,
    call := { CallCtl.reset with hook := s1.call.hook, ordered := s1.call.ordered },
    line := .reset,
    tamper := softTamper s1.tamper,
    report := .reset }

/-! ### The commands -/

/-- RESTART_PROPER_BEGINS: every post given before the RESTART has completed (R18, R182). -/
def execRestartProperBegins (s : State) : Host.Outcome State Fault Refusal :=
  if s.sys.part = .starting ∧ s.sys.waitRestart = true ∧ s.gate.queue = [] ∧ s.gate.waiters = [] then
    .next (stepWith beginStart s)
  else .next s

/-- The requester of the head entry, if it is a read run. -/
def headRead (s : State) : Option Requester :=
  match s.gate.queue with
  | .read _ _ who :: _ => some who
  | _ => none

/-- A start-up read is completed by its own command while the part is STARTING (log 8). -/
def startRead (who : Requester) (effect : List Byte → State → State) (s : State) : State :=
  if s.sys.part = .starting ∧ headRead s = some who then completeStep effect s else s

/-- ANCHOR_READ (R2). -/
def execAnchorRead (s : State) : Host.Outcome State Fault Refusal :=
  .next (startRead .anchor anchorEffect s)

/-- PROFILE_CHECK (R4). -/
def execProfileCheck (s : State) : Host.Outcome State Fault Refusal :=
  .next (startRead (.profile true) profileEffect s)

/-- SLOT_SCAN: the slot whose state byte is at the head (R27). -/
def execSlotScan (s : State) : Host.Outcome State Fault Refusal :=
  match headRead s with
  | some (.slotState n) => .next (startRead (.slotState n) (scanEffect n) s)
  | _ => .next s

/-- EVENT_RING_HEADER_READ (R28). -/
def execEventRingHeaderRead (s : State) : Host.Outcome State Fault Refusal :=
  .next (startRead .eventHeader eventHeaderEffect s)

/-- CALL_RING_HEADER_READ (R168). -/
def execCallRingHeaderRead (s : State) : Host.Outcome State Fault Refusal :=
  .next (startRead .callHeader callHeaderEffect s)

/-- TALLY_READ (R171). -/
def execTallyRead (s : State) : Host.Outcome State Fault Refusal :=
  .next (startRead (.tally true) tallyEffect s)

/-- TAMPER_AREA_READ (R149). -/
def execTamperAreaRead (s : State) : Host.Outcome State Fault Refusal :=
  .next (startRead (.tamper true) tamperEffect s)

/-- LIVE_IMAGE_READ (R184). -/
def execLiveImageRead (s : State) : Host.Outcome State Fault Refusal :=
  .next (startRead (.live true) liveEffect s)

/-- BANK_LOAD_CHECK: the last run of a bank load (R55, R62). -/
def execBankLoadCheck (s : State) : Host.Outcome State Fault Refusal :=
  if headRead s = some (.bank true) ∧ bankWanted s = true then
    .next (completeStep bankEffect s)
  else .next s

end Sys2Proof.Machine
end

