-- ==== Sys2Proof/Machine/Power.lean ====
section
/-! DEFINITION. The Post Engine's completions and admissions, power failure, hard reset and DARK
(R12, R13, R16, R17, R84, R115, R134, R177, R178, R183). -/
namespace Sys2Proof.Machine

/-! ### DARK (R17, R34, R177) -/

/-- The part goes DARK: only the calendar, the memory and the supply lines' levels remain
(R177, log 25). -/
def goDark (byReset : Bool) (s : State) : State :=
  { State.reset with
    sys := { State.reset.sys with part := .dark, kind := s.sys.kind, darkByReset := byReset },
    mem := s.mem,
    gate := { State.reset.gate with
      inhibit := s.gate.inhibit, hreset := s.gate.hreset, pwrgood := s.gate.pwrgood, queue := [] },
    cal := s.cal, pins := s.pins, fresh := s.fresh, pending := s.pending }

/-- FAILING ends when the Post Queue is empty (R16, R177). -/
def endFailing (s : State) : State :=
  if s.sys.part = .failing ∧ s.gate.queue = [] ∧ s.gate.waiters = [] then goDark false s else s

/-! ### POST_ENTRY_COMPLETE (R13) -/

/-- What the completion of a write run means to its owner: behind the oldest of two rewrites of an image
a rewrite owed begins (R23, R33, R47). -/
def writtenEffect (tag : WriteTag) (s : State) : State :=
  match tag with
  | .plain => s
  | .slotDone n => slotWritten n s
  | .eventIndex w => indexWritten w s
  | .imageEnd i => goOnImage i (startOwed i s)

/-- A read run's data is handed to its requester (R13, R21). A start-up read that is not its
requester's last is gathered; a read nobody awaits is dropped. -/
def handedEffect (who : Requester) (d : List Byte) (s : State) : State :=
  match who with
  | .profile false => { s with gate := { s.gate with profileBuf := s.gate.profileBuf ++ d } }
  | .tally false => { s with sys := { s.sys with tallyBuf := s.sys.tallyBuf ++ d } }
  | .tamper false => { s with sys := { s.sys with tamperBuf := s.sys.tamperBuf ++ d } }
  | .live false => { s with sys := { s.sys with liveBuf := s.sys.liveBuf ++ d } }
  | .bank false =>
    if bankWanted s then { s with tariff := { s.tariff with buf := s.tariff.buf ++ d } } else s
  | .order n =>
    if s.sys.part = .running ∧ s.orders.busy = some n then
      { s with orders := { s.orders with data := some d } }
    else s
  | .anchor | .profile true | .slotState _ | .eventHeader | .callHeader | .tally true
  | .tamper true | .live true | .bank true => s

/-- The run at the head is one whose completion is another command (log 8). -/
def ownCommand (who : Requester) (s : State) : Bool :=
  match who with
  | .anchor | .profile true | .slotState _ | .eventHeader | .callHeader | .tally true
  | .tamper true | .live true => s.sys.part == .starting
  | .bank true => bankWanted s
  | .profile false | .tally false | .tamper false | .live false | .bank false | .order _ => false

/-- The head entry completes (R13). -/
def completeEntry (s : State) : State :=
  match s.gate.queue with
  | [] => s
  | .write _ _ tag :: _ => completeStep (fun _ s => writtenEffect tag s) s
  | .read _ _ who :: _ => if ownCommand who s then s else completeStep (handedEffect who) s

/-- POST_ENTRY_COMPLETE (R13, R23, R33, R183). -/
def execPostEntryComplete (s : State) : Host.Outcome State Fault Refusal :=
  .next (endFailing (completeEntry s))

/-! ### PRODUCER_ADMITTED (R12, R47) -/

/-- The first producer in line has what it waits with appended and goes on offering, behind those that
wait by then (R12, R47). -/
def letIn (s : State) : State :=
  match s.gate.waiters with
  | [] => s
  | w :: ws =>
    let s1 := { s with gate := { s.gate with waiters := ws } }
    match w.items with
    | [] => s1
    | .entry e :: l => offerItems w.who l (append e s1)
    | .imageRun i :: l => offerItems w.who l (goOnImage i (appendRun i s1))
    | .finished d :: l => offerItems w.who (.finished d :: l) s1

/-- PRODUCER_ADMITTED: a place is free and a producer waits; with a stage's last post given, the start-up
goes on (R12, R179). -/
def execProducerAdmitted (s : State) : Host.Outcome State Fault Refusal :=
  if s.gate.waiters = [] ∨ postPlaces ≤ s.gate.queue.length then .next s
  else .next (finish (waiting s - 1) (nextStage (letIn s)))

/-! ### Power failure (R16, R84, R115, R134, R183) -/

/-- The Coin Unit on entering FAILING (R84). -/
def failCoin (c : Coin) : Coin :=
  { c with
    passages := [], escrow := if c.lane = .flushing then [] else c.escrow,
    lane := if c.lane = .jammed then .jammed else .clear, gatePos := .hold, dropTimer := none,
    flushTimer := none, uncertain := c.uncertain || inFlight c.lane }

/-- The Metering Unit on entering FAILING: no more charging; the purse, the units and the call charge
stand (R134). -/
def failMeter (m : Meter) : Meter :=
  { m with metered := none, t := 0, nextUnit := 0, warnLeft := 0, warnTimer := none }

/-- A final Live Image is to be written (R183). None is in the rerun of a refused soft restart before its
profile is accepted, since no map exists then (DESIGN CHOICE, log 58). -/
def finalDue (s : State) : Bool :=
  s.gate.profile.isSome &&
    (s.sys.part == .running
      || (s.sys.part == .starting && (s.sys.kind == .soft || s.sys.imageTaken)))

/-- The blocks stop, and the Post Queue keeps the entry in progress (R16, R183, log 10). -/
def stopBlocks (s : State) : State :=
  let s1 := dropRewrites { s with
    sys := { s.sys with part := .failing },
    gate := { s.gate with queue := s.gate.queue.take 1, waiters := [], held := [] },
    orders := { s.orders with data := none },
    ev := { s.ev with outbox := [] },
    coin := failCoin s.coin, meter := failMeter s.meter, line := .reset }
  closeImages s1

/-- The final Live Image is given, with the interrupted marker set (R183). -/
def giveFinal (s : State) : State :=
  let s1 := giveRewrite .live { s with img := { s.img with
    live := { s.img.live with on := true }, final := true } }
  { s1 with img := { s1.img with live := { s1.img.live with on := false } } }

/-- The part enters FAILING (R183). -/
def enterFailing (s : State) : State :=
  let s1 := stopBlocks s
  let s2 := { s1 with coin := { s1.coin with reasons := closingReasons s1 } }
  endFailing (if finalDue s then giveFinal s2 else s2)

/-- POWER_FAIL: PWRGOOD falls (R16). -/
def execPowerFail (s : State) : Host.Outcome State Fault Refusal :=
  let s1 := { s with gate := { s.gate with inhibit := true, pwrgood := false } }
  match s.sys.part with
  | .dark | .failing => .next s1
  | .starting | .unconfigured | .running => .next (enterFailing s1)

/-- SUPPLY_DIES: the supply dies before FAILING has ended (R183). -/
def execSupplyDies (s : State) : Host.Outcome State Fault Refusal :=
  if s.sys.part = .failing then .next (goDark false s) else .next s

/-- HRESET_ASSERT (R17, R177). -/
def execHresetAssert (s : State) : Host.Outcome State Fault Refusal :=
  let s1 := { s with gate := { s.gate with hreset := true } }
  if s.sys.part = .dark then .next s1 else .next (goDark true s1)

/-- The reset kind of an entry to STARTING from DARK (R178). -/
def darkKind (s : State) : ResetKind :=
  if s.cal.note then .cold else if s.sys.darkByReset then .hard else .restoration

/-- The part enters STARTING from DARK (R18, R41, R177, R178). -/
def startFromDark (s : State) : State :=
  let kind := darkKind s
  { State.reset with
    sys := { State.reset.sys with kind := kind, tallyReset := kind == .cold },
    mem := s.mem,
    cal := if kind = .cold then State.reset.cal else { s.cal with band := 0 },
    pins := s.pins, fresh := s.fresh, pending := s.pending }

/-- LEAVE_DARK: PWRGOOD is high and HRESET released (R177, R178). -/
def execLeaveDark (s : State) : Host.Outcome State Fault Refusal :=
  if s.sys.part = .dark then .next (startFromDark s) else .next s

/-- BATTERY_FAIL: the battery input fails while PWRGOOD is low; the memory is not kept, and the
Calendar notes the failure (R178, log 2). -/
def execBatteryFail (s : State) : Host.Outcome State Fault Refusal :=
  if s.gate.pwrgood then .next s
  else .next { s with mem := [], cal := { s.cal with note := true } }

end Sys2Proof.Machine
end

