-- ==== Sys2Proof/Machine/OrderCmds.lean ====
section
/-! DEFINITION. The Order Unit's dispatch and the fifteen orders (R21 to R25, and each owner's
chapter). -/
namespace Sys2Proof.Machine

/-! ### Dispatch (R21, R22, R23) -/

/-- The slot at the head of the Order Queue is taken: its bytes 0 to 27 are read, then its state byte
written TAKEN (R21). -/
def takeOrder (s : State) : State :=
  match s.gate.profile, s.orders.queue with
  | some p, n :: q =>
    offer .orderUnit
      [.read (slotAddr p n 0) 28 (.order n), .write (slotAddr p n 31) [2] .plain]
      (setSlot n .taken { s with orders := { s.orders with
        queue := q, busy := some n, data := none } })
  | _, _ => s

/-- ORDER_TAKEN (R21). -/
def execOrderTaken (s : State) : Host.Outcome State Fault Refusal :=
  if s.sys.part = .running ∧ s.orders.busy = none then .next (stepWith takeOrder s) else .next s

/-- The busy order is answered with an outcome (R23). -/
def answer (n : Fin 16) (o : OrderOutcome) (detail : Nat) (s : State) : State :=
  giveOutcome n o detail { s with orders := { s.orders with data := none } }

/-- The busy order is answered with an acceptance: the slot stays TAKEN (R24). -/
def acceptDeferred (s : State) : State :=
  { s with orders := { s.orders with busy := none, data := none } }

/-- The detail of NOT NOW from the availability check (R22, section 13.3). -/
def notNowDetail (cond : Nat) (s : State) : Nat := cond + 256 * stationCode s.call.station

/-- The first condition of a list that is not met, by its number (R22). -/
def firstUnmet : List (Nat × Bool) → Option Nat
  | [] => none
  | (n, ok) :: l => if ok then firstUnmet l else some n

/-- The order whose contents have arrived is checked for availability and handed to its owner, if its
code is the one given (R22). What the owner's steps give keeps their order, also where it waits. -/
def carryOut (code : Nat) (conds : State → List (Nat × Bool))
    (owner : Fin 16 → List Byte → State → State) (s : State) : State :=
  match s.orders.busy, s.orders.data with
  | some n, some d =>
    if natAt d 0 = code then
      let s1 := match firstUnmet (conds s) with
        | some c => answer n .notNow (notNowDetail c s) s
        | none => owner n d s
      finish (waiting s1) s1
    else s
  | _, _ => s

/-- No condition (R22). -/
def always (_ : State) : List (Nat × Bool) := []

/-- UNKNOWN_ORDER (R22 step 1). -/
def execUnknownOrder (s : State) : Host.Outcome State Fault Refusal :=
  match s.orders.busy, s.orders.data with
  | some n, some d =>
    if 1 ≤ natAt d 0 ∧ natAt d 0 ≤ 15 then .next s
    else .next (stepWith (answer n .unknownOrder (natAt d 0)) s)
  | _, _ => .next s

/-! ### DIAL and DIAL MORE (R95 to R98, R109) -/

/-- The station states of DIAL (R22). -/
def dialConds (s : State) : List (Nat × Bool) :=
  [(1, s.call.station == .ready || s.call.station == .reporting)]

/-- A caller's call is set up, the line claimed and a seizure asked (R95). -/
def beginCall (s : State) : State :=
  let s1 := setCall .undecided { s with call := { s.call with dialQueue := [], claim := .caller } }
  setStation .dialling (askSeize s1)

/-- The digits are accepted, and the number made complete where the flag asks (R95, R96, R97). -/
def takeDigits (n : Fin 16) (d : List Byte) (s : State) : State :=
  let (s1, count) := acceptDigits (dialDigits d) s
  answer n .done count (if dialComplete d then completeNumber s1 else s1)

/-- The digits, pauses left out, are an emergency number of the profile (R109). -/
def isEmergency (ds : List Nat) (s : State) : Bool :=
  match s.gate.profile with
  | some p => (usedEmergency p).any (fun e => decide (e = analysed ds))
  | none => false

/-- The report call gives way to an emergency call, decided and complete (R109). -/
def emergencyInReporting (ds : List Nat) (s : State) : State :=
  let s1 := beginCall (abortReport s)
  updCall (fun c => { c with
      kind := .emergency, decided := true, decisive := ds.length, complete := true,
      gatePassed := true, number := ds, maxLen := ds.length, edition := activeEdition s })
    { s1 with call := { s1.call with dialQueue := ds } }

/-- A DIAL taken in REPORTING (R109). DONE to an emergency number carries the digit count, as R95 gives
it for a DIAL in READY (DEDUCED, log 43). -/
def dialInReporting (n : Fin 16) (ds : List Nat) (s : State) : State :=
  if !s.call.hook then answer n .notNow (notNowDetail 1 s) s
  else if isEmergency ds s then answer n .done ds.length (emergencyInReporting ds s)
  else answer n .notNow (notNowDetail 4 s) (raiseRefused .lineBusy none ds.length s)

/-- The Call Controller's DIAL (R95, R109). -/
def dialOrder (n : Fin 16) (d : List Byte) (s : State) : State :=
  match dialFault (pulseMode s) d with
  | some off => answer n .badParameter off s
  | none =>
    if s.call.station = .reporting then dialInReporting n (dialDigits d) s
    else takeDigits n d (beginCall s)

/-- DIAL (R95). -/
def execDial (s : State) : Host.Outcome State Fault Refusal :=
  .next (carryOut 1 dialConds dialOrder s)

/-- The station states of DIAL MORE (R22). -/
def dialMoreConds (s : State) : List (Nat × Bool) :=
  [(1, s.call.station == .dialling || s.call.station == .creditWait
      || s.call.station == .talking || s.call.station == .talkingIn)]

/-- The station is in conversation, where digits are in-call tones (R96). -/
def conversing (s : State) : Bool := s.call.station == .talking || s.call.station == .talkingIn

/-- The Call Controller's DIAL MORE (R96). -/
def dialMoreOrder (n : Fin 16) (d : List Byte) (s : State) : State :=
  match dialFault (pulseMode s && !conversing s) d with
  | some off => answer n .badParameter off s
  | none =>
    if conversing s then
      let (s1, count) := queueTones (dialDigits d) s
      answer n .done count s1
    else takeDigits n d s

/-- DIAL_MORE (R96). -/
def execDialMore (s : State) : Host.Outcome State Fault Refusal :=
  .next (carryOut 2 dialMoreConds dialMoreOrder s)

/-! ### RETURN COINS, NEXT CALL, ANSWER (R132, R103, R105) -/

def returnConds (s : State) : List (Nat × Bool) :=
  [(1, s.call.station == .ready || s.call.station == .dialling
      || s.call.station == .creditWait || s.call.station == .ringback)]

/-- The Metering Unit's RETURN COINS (R132). -/
def returnOrder (n : Fin 16) (_ : List Byte) (s : State) : State :=
  if s.meter.purse.state ≠ .opened then answer n .unchanged 0 s
  else if s.call.station = .ready then answer n .done 0 (beginSettlement s)
  else answer n .done 0 (beginSettlement (endCall .abandoned .ready s))

/-- RETURN_COINS (R132). -/
def execReturnCoins (s : State) : Host.Outcome State Fault Refusal :=
  .next (carryOut 3 returnConds returnOrder s)

def nextConds (s : State) : List (Nat × Bool) :=
  [(1, s.call.station == .dialling || s.call.station == .creditWait
      || s.call.station == .ringback || s.call.station == .talking)]

/-- The Call Controller's NEXT CALL (R103). -/
def nextOrder (n : Fin 16) (_ : List Byte) (s : State) : State :=
  answer n .done 0 (endCall .nextCall .ready s)

/-- NEXT_CALL (R103). -/
def execNextCall (s : State) : Host.Outcome State Fault Refusal :=
  .next (carryOut 4 nextConds nextOrder s)

/-- An incoming call is answered: the line is claimed and seized with no dial tone phase (R105). -/
def takeIncoming (s : State) : State :=
  let s1 := setCall .incoming { s with call := { s.call with claim := .incoming, ringTimer := none } }
  setStation .talkingIn (askSeize s1)

/-- The Call Controller's ANSWER (R105). -/
def answerOrder (n : Fin 16) (_ : List Byte) (s : State) : State :=
  if s.call.hook then answer n .done 0 (takeIncoming s)
  else answer n .notNow (notNowDetail 1 s) s

/-- ANSWER (R105). -/
def execAnswer (s : State) : Host.Outcome State Fault Refusal :=
  .next (carryOut 5 (fun s => [(1, s.call.station == .ringIn)]) answerOrder s)

/-! ### SET CLOCK and ADJUST CLOCK (R43 to R45) -/

/-- The Calendar has been set: the band is selected afresh, CLOCK SET is raised, which the Record Unit
writes at once, and the Clock Image is rewritten, in this order (R44, R45). A pending bank is judged
once the order is answered (R57), with the step's other judgments. -/
def clockChanged (kind : Byte) (old : FullTime) (s : State) : State :=
  giveRewrite .clock
    (writeEvent ⟨.calendar, 22, now s, kind :: fullBytes old⟩ (reselectBand s))

/-- The counters loaded by a SET CLOCK (R44 steps 2 to 4). -/
def setTime (t : FullTime) (c : Calendar) : Calendar :=
  { c with time := t, sub := 0, weekday := weekdayOf t, valid := true }

/-- The Calendar's SET CLOCK (R43, R44). -/
def setOrder (n : Fin 16) (d : List Byte) (s : State) : State :=
  let t := readFull d 2
  match timeFault t with
  | some i => answer n .badParameter (2 + i) s
  | none =>
    answer n .done 0 (clockChanged 1 s.cal.time { s with cal := setTime t s.cal })

/-- SET_CLOCK (R44). -/
def execSetClock (s : State) : Host.Outcome State Fault Refusal :=
  .next (carryOut 6 always setOrder s)

/-- The counters at the nearest whole minute (R45). -/
def adjustTime (c : Calendar) : Calendar :=
  let c1 := { c with time := { c.time with second := 0 }, sub := 0 }
  if c.time.second < 30 then c1 else carryMinute c1

/-- The Calendar's ADJUST CLOCK (R45). -/
def adjustOrder (n : Fin 16) (_ : List Byte) (s : State) : State :=
  if s.cal.time.second = 0 then answer n .unchanged 0 s
  else answer n .done 0 (clockChanged 2 s.cal.time { s with cal := adjustTime s.cal })

/-- ADJUST_CLOCK (R45). -/
def execAdjustClock (s : State) : Host.Outcome State Fault Refusal :=
  .next (carryOut 7 always adjustOrder s)

/-! ### SWAP TARIFF (R52, R53) -/

/-- A load is in flight. -/
def loadingNow (s : State) : Bool :=
  match s.tariff.swap with
  | .loading _ _ _ => true
  | .idle | .pending _ _ _ => false

/-- The first check that fails, with its outcome and detail (R52). -/
def swapFault (d : List Byte) (s : State) : Option (OrderOutcome × Nat) :=
  match bankOf (natAt d 2) with
  | none => some (.badParameter, 2)
  | some bank =>
    if loadingNow s then some (.busy, 0)
    else if activeBank s = some bank then some (.badParameter, 2)
    else match swapTime d with
      | none => none
      | some t => (timeFault t).map (fun i => (.badParameter, 3 + i))

/-- A pending candidate is withdrawn (R53 step 1). -/
def withdrawPending (bank : Bank) (s : State) : State :=
  match s.tariff.swap with
  | .pending other _ _ => if other = bank then s else setBankGuard other false s
  | .idle | .loading _ _ _ => s

/-- An accepted SWAP TARIFF, the steps of R53 as one change. -/
def acceptSwap (bank : Bank) (eff : Option FullTime) (o : Deferred) (s : State) : State :=
  match s.gate.profile with
  | none => s
  | some p =>
    let s1 := setBankGuard bank true (withdrawPending bank s)
    offer .tariffUnit (bankRuns p bank)
      (acceptDeferred { s1 with tariff := { s1.tariff with
        swap := .loading bank eff o, buf := [] } })

/-- The Tariff Unit's SWAP TARIFF (R52, R53). -/
def swapOrder (n : Fin 16) (d : List Byte) (s : State) : State :=
  match swapFault d s, bankOf (natAt d 2) with
  | some (o, detail), _ => answer n o detail s
  | none, some bank => acceptSwap bank (swapTime d) ⟨n, byteAt d 1⟩ s
  | none, none => answer n .badParameter 2 s

/-- SWAP_TARIFF (R52, R53). -/
def execSwapTariff (s : State) : Host.Outcome State Fault Refusal :=
  .next (carryOut 8 always swapOrder s)

/-! ### Visits (R172, R175) -/

/-- A purse that lets a visit open: none, or HELD by a jammed lane (R22). -/
def visitPurse (p : Purse) : Bool :=
  p.state == .absent || (p.state == .held && p.hold == .laneJammed)

def openConds (s : State) : List (Nat × Bool) :=
  [(1, s.call.station == .idle), (2, visitPurse s.meter.purse), (3, s.visit.state == .closed)]

/-- A visit opens (R172). -/
def beginVisit (kind : VisitKind) (d : List Byte) (s : State) : State :=
  let isOpen := s.tamper.door.isOpen
  let v : Visit :=
    { state := if isOpen then .doorOpen else .awaitingDoor, kind := kind,
      collector := codesAt d 3 2, opened := now s, value := 0, coins := 0,
      noted := [0, 0, 0, 0, 0, 0], left := false,
      timer := if isOpen then none else seconds (param (·.visitDoorS) s) }
  raise .record 24 [b8 (visitKindCode kind), byteAt d 3, byteAt d 4]
    (reportVisit (some kind) (updVisit (fun _ => v) s))

/-- The Record Unit's OPEN VISIT (R172). -/
def openOrder (n : Fin 16) (d : List Byte) (s : State) : State :=
  if natAt d 2 = 1 ∧ purseOpen s = true then answer n .notNow (notNowDetail 2 s) s
  else if natAt d 2 < 1 ∨ 2 < natAt d 2 then answer n .badParameter 2 s
  else match collectorFault d with
  | some off => answer n .badParameter off s
  | none => answer n .done 0 (beginVisit (visitKindOf (natAt d 2)) d s)

/-- OPEN_VISIT (R172). -/
def execOpenVisit (s : State) : Host.Outcome State Fault Refusal :=
  .next (carryOut 9 openConds openOrder s)

/-- The Record Unit's CLOSE VISIT (R175). -/
def closeOrder (n : Fin 16) (_ : List Byte) (s : State) : State :=
  if s.visit.state = .closed then answer n .unchanged 0 s
  else answer n .done 0 (endVisit false (closeBoxOut s))

/-- CLOSE_VISIT (R175). -/
def execCloseVisit (s : State) : Host.Outcome State Fault Refusal :=
  .next (carryOut 10 always closeOrder s)

/-! ### CLEAR TAMPER and REPORT NOW (R147, R151) -/

/-- A LATCHED channel is cleared, the steps of R147 as one change. -/
def clearChannel (ch : Channel) (s : State) : State :=
  let x := getChan ch s
  let base := match s.gate.profile with
    | some p => baseSeverity p ch
    | none => x.severity
  let s1 := setChan ch { x with
    state := .quiet, trips := 0, first := zeroTime, last := zeroTime, severity := base,
    status := .idle } s
  let s2 := if x.status = .queued ∨ x.status = .failed then
      withdrawReport (channelCode ch) s1 else s1
  giveRewrite .tamper s2

/-- The Tamper Monitor's CLEAR TAMPER (R147). -/
def clearOrder (n : Fin 16) (d : List Byte) (s : State) : State :=
  match channelOf (natAt d 2) with
  | none => answer n .badParameter 2 s
  | some ch =>
    match (getChan ch s).state with
    | .quiet => answer n .unchanged 0 s
    | .active => answer n .notNow (channelCode ch) s
    | .latched => answer n .done (getChan ch s).trips (clearChannel ch s)

/-- CLEAR_TAMPER (R147). -/
def execClearTamper (s : State) : Host.Outcome State Fault Refusal :=
  .next (carryOut 11 always clearOrder s)

/-- The Report Engine's REPORT NOW (R151). -/
def reportOrder (n : Fin 16) (_ : List Byte) (s : State) : State :=
  if s.report.queue.any (fun e => e.code == 9) then answer n .unchanged 0 s
  else
    let s1 := joinReport 9 0 (now s) s
    answer n .done s1.report.queue.length s1

/-- REPORT_NOW (R151). -/
def execReportNow (s : State) : Host.Outcome State Fault Refusal :=
  .next (carryOut 12 always reportOrder s)

/-! ### CLEAR LANE (R83) -/

def laneConds (s : State) : List (Nat × Bool) :=
  [(3, serviceVisit s), (5, s.coin.lane == .jammed || s.coin.uncertain)]

/-- One service clearance of a coin's class; a foreign object has no count (R83 step 1). -/
def clearCount (t : Tally) (e : EscrowEntry) : Tally :=
  updClass e.cls (fun c => { c with cleared := inc16 c.cleared }) t

/-- The lane is cleared, the steps of R83 as one change; the sum goes to X of an open purse (R118). -/
def clearLaneNow (s : State) : State :=
  let l := s.coin.escrow
  let jammed := s.coin.lane == .jammed
  let s1 := updTally (fun t => l.foldl clearCount t) s
  let s2 := if purseOpen s1 then
      setPurse { s1.meter.purse with x := s1.meter.purse.x + escrowValue l } s1 else s1
  let s3 := { s2 with coin := { s2.coin with
    escrow := [], lane := .clear, gatePos := .hold, dropTimer := none } }
  let s4 := if jammed then condEnds .lane s3 else s3
  clearUncertain s4

/-- The Coin Unit's CLEAR LANE (R83). -/
def laneOrder (n : Fin 16) (_ : List Byte) (s : State) : State :=
  if s.coin.lane = .clear ∨ s.coin.lane = .jammed then
    answer n .done s.coin.escrow.length (clearLaneNow s)
  else answer n .busy 0 s

/-- CLEAR_LANE (R83). -/
def execClearLane (s : State) : Host.Outcome State Fault Refusal :=
  .next (carryOut 13 laneConds laneOrder s)

/-! ### SERVICE and RESTART (R94, R182) -/

/-- The Call Controller's SERVICE (R94). -/
def serviceOrder (n : Fin 16) (d : List Byte) (s : State) : State :=
  if natAt d 2 < 1 ∨ 2 < natAt d 2 then answer n .badParameter 2 s
  else
    let close := natAt d 2 == 1
    if s.call.ordered = close then answer n .unchanged 0 s
    else answer n .done 0 (touchLive { s with call := { s.call with ordered := close } })

/-- SERVICE (R94). -/
def execService (s : State) : Host.Outcome State Fault Refusal :=
  .next (carryOut 14 always serviceOrder s)

def restartConds (s : State) : List (Nat × Bool) :=
  [(1, s.call.station == .idle), (2, !purseOpen s), (3, s.visit.state == .closed),
    (4, s.call.claim != .report)]

/-- Start-up's RESTART: accepted as a deferred order (R24, R182). -/
def restartOrder (n : Fin 16) (d : List Byte) (s : State) : State :=
  softReset ⟨n, byteAt d 1⟩ s

/-- RESTART (R182). -/
def execRestart (s : State) : Host.Outcome State Fault Refusal :=
  .next (carryOut 15 restartConds restartOrder s)

end Sys2Proof.Machine
end

