-- ==== Sys2Proof/Machine/ClockCmds.lean ====
section
/-! DEFINITION. The tenth tick and the second carry (R37, R38, R46, R148; section 0.5.3). -/
namespace Sys2Proof.Machine

/-- One tenth of the Coin Unit's timers. -/
def tickCoin (c : Coin) : Coin :=
  { c with
    passages := c.passages.map (fun p => { p with window := p.window - 100 }),
    dropTimer := tickTimer c.dropTimer, flushTimer := tickTimer c.flushTimer,
    boxTimer := tickTimer c.boxTimer }

/-- One tenth of the Metering Unit: the call timer t counts while a call is metered. -/
def tickMeter (m : Meter) : Meter :=
  { m with t := if m.metered.isSome then m.t + 1 else m.t, warnTimer := tickTimer m.warnTimer }

/-- One tenth of a call: the wait to answer in RINGBACK, the talk duration from the answer
(R100, R101, R105, R164). -/
def tickCall (x : Station) (c : CallInfo) : CallInfo :=
  { c with
    wait := if x = .ringback then inc16 c.wait else c.wait,
    talk := if (x = .talking ∨ x = .talkingIn) ∧ c.answered = true then
        satAdd 4294967295 c.talk 1 else c.talk }

/-- One tenth of the Call Controller. -/
def tickCallCtl (c : CallCtl) : CallCtl :=
  { c with
    hookTimer := tickTimer c.hookTimer, creditTimer := tickTimer c.creditTimer,
    answerTimer := tickTimer c.answerTimer, interDigit := tickTimer c.interDigit,
    ringTimer := tickTimer c.ringTimer, cur := c.cur.map (tickCall c.station) }

/-- One tenth of the Line Interface. -/
def tickLine (l : Line) : Line :=
  { l with
    loopTimer := tickTimer l.loopTimer, toneLimit := tickTimer l.toneLimit,
    tonePeriod := tickTimer l.tonePeriod, loss := tickTimer l.loss,
    answerP := tickTimer l.answerP, clearP := tickTimer l.clearP, guard := tickTimer l.guard,
    sender := l.sender.map (fun d => { d with timer := d.timer - 100 }),
    meterTicks := l.meterTicks.map (· + 1) }

def tickDebounce (d : Debounce) : Debounce := { d with timer := tickTimer d.timer }

/-- One tenth of the Tamper Monitor. -/
def tickTamper (t : Tamper) : Tamper :=
  { t with
    door := tickDebounce t.door, case := tickDebounce t.case, cord := tickDebounce t.cord,
    shockWindow := tickTimer t.shockWindow, quiet := tickTimer t.quiet,
    slotBlock := tickTimer t.slotBlock, slotClear := tickTimer t.slotClear,
    lossTimer := tickTimer t.lossTimer, presentTimer := tickTimer t.presentTimer,
    force := tickTimer t.force }

/-- The report call is on the line before its answer. -/
def reportWaits (r : Report) : Bool := r.seized && !r.answered

/-- One tenth of the Report Engine: the wait to answer from the closing of SEIZE, the talk duration
from the answer (R155, R156). -/
def tickReport (r : Report) : Report :=
  { r with
    nextDue := tickTimer r.nextDue, answerTimer := tickTimer r.answerTimer,
    centreTimer := tickTimer r.centreTimer, ackTimer := tickTimer r.ackTimer,
    wait := if reportWaits r then inc16 r.wait else r.wait,
    talk := if r.answered then satAdd 4294967295 r.talk 1 else r.talk }

/-- One tenth of every block's timers, while the part is RUNNING (R37, R42). -/
def tickBlocks (s : State) : State :=
  if s.sys.part = .running then
    { s with
      coin := tickCoin s.coin, meter := tickMeter s.meter, call := tickCallCtl s.call,
      line := tickLine s.line, tamper := tickTamper s.tamper, report := tickReport s.report,
      visit := { s.visit with timer := tickTimer s.visit.timer } }
  else s

/-- A call timer of the call in progress rises with a tenth, which is handed over for the Live Image
(R88). -/
def callCounts (s : State) : Bool :=
  s.sys.part == .running && s.call.cur.any (fun c => tickCall s.call.station c != c)

/-- TENTH_TICK: a tenth that brings no second carry (R37). A call timer that rises is handed over for the
Live Image, whose rewrite is given where the field it shows changes (R88, log 13). -/
def execTenthTick (s : State) : Host.Outcome State Fault Refusal :=
  if s.cal.sub = 9 then .next s
  else
    let s1 := tickBlocks s
    let s2 := { s1 with cal := { s1.cal with sub := s1.cal.sub + 1 } }
    .next (if callCounts s then giveRewrite .live s2 else s2)

/-- The calendar advances one second; a minute carry selects the band afresh (R37, R38, R50). -/
def advanceCalendar (s : State) : State :=
  let (c, minute) := carrySecond s.cal
  let s1 := { s with cal := c }
  if minute then reselectBand s1 else s1

/-- A second carry's tenth of every block, a call timer that rises noted for the Live Image's rewrite at the
step's end (R88, log 13). -/
def secondTenth (s : State) : State :=
  let s1 := advanceCalendar (tickBlocks s)
  if callCounts s then touchLive s1 else s1

/-- The once-a-second work: activation is judged, and the Clock Image is rewritten, and the Tamper Area
where a raw edge count or the shock pulse count has changed since its last rewrite, which alone can make
its rewrite due here, every other change having been its own cause (R46, R57, R148; `rewriteDue`). -/
def secondWork (s : State) : State :=
  let s1 := secondTenth s
  giveRewrite .tamper
    (giveRewrite .clock (if s1.sys.part = .running then judgeActivation s1 else s1))

/-- SECOND_CARRY: the tenth at which the sub-second count reaches 10 (R37). -/
def execSecondCarry (s : State) : Host.Outcome State Fault Refusal :=
  if s.cal.sub = 9 then .next (stepWith secondWork s) else .next s

end Sys2Proof.Machine
end

