-- ==== Sys2Proof/Machine/CoinCmds.lean ====
section
/-! DEFINITION. The coin path's commands: entry, validator, lane, drop, flush, box (chapter 5,
R140). -/
namespace Sys2Proof.Machine

/-- A step of a block that acts only while the part is RUNNING (R84, R149, R177, R180, R182). That raw
edges and stray METER pulses are not counted in STARTING either is the model's (DESIGN CHOICE, log 64). -/
def inRunning (body : State → State) (s : State) : State :=
  if s.sys.part = .running then stepWith body s else s

/-- A change of the Coin Unit's state. -/
def updCoin (f : Coin → Coin) (s : State) : State := { s with coin := f s.coin }

/-- A change of the Tamper Monitor's state. -/
def updTamper (f : Tamper → Tamper) (s : State) : State := { s with tamper := f s.tamper }

/-- An object at the entry: a passage through the open gate, or an unattended entry; the slot block
timer starts (R68, R70, R140). -/
def entryBody (s : State) : State :=
  let s1 := updTamper (fun t => { t with
    slotBlock := seconds (param (·.slotBlockS) s), slotClear := none }) s
  if gateOpen s then
    updCoin (fun c => { c with
      passages := c.passages ++ [⟨none, param (·.passageMs) s, false⟩] }) s1
  else updTally (fun t => { t with unattended := inc16 t.unattended }) s1

/-- ENTRY_EDGE: the ENTRY sensor becomes active after being clear (R68). -/
def execEntryEdge (s : State) : Host.Outcome State Fault Refusal :=
  if s.pins.entry then .next s
  else .next (inRunning entryBody { s with pins := { s.pins with entry := true } })

/-- ENTRY_CLEAR: the slot block timer stops and the slot clear timer starts (R140). -/
def execEntryClear (s : State) : Host.Outcome State Fault Refusal :=
  if s.pins.entry then
    .next (inRunning (updTamper (fun t => { t with slotBlock := none, slotClear := some 1000 }))
      { s with pins := { s.pins with entry := false } })
  else .next s

/-- The first passage that satisfies a test leaves the list. -/
def dropPassage (f : Passage → Bool) (l : List Passage) : List Passage := l.eraseP f

/-- The oldest unclassified passage takes a class. -/
def classify (cls : Nat) : List Passage → List Passage
  | [] => []
  | p :: l => if p.cls.isNone then { p with cls := some cls } :: l else p :: classify cls l

/-- A validator fault is counted (R71). -/
def strobeFault (s : State) : State := updTally (fun t => { t with fault := inc16 t.fault }) s

/-- A refused coin (R71). -/
def strobeRefused (s : State) : State :=
  let s1 := updTally (fun t => { t with refused := inc16 t.refused })
    (updCoin (fun c => { c with passages := dropPassage (·.cls.isNone) c.passages }) s)
  raise .coin 2 (count2 s1.tally.refused) s1

/-- The validator's report (R71). -/
def strobeBody (code : Nat) (s : State) : State :=
  match s.gate.profile with
  | none => s
  | some p =>
    if !s.coin.passages.any (·.cls.isNone) then strobeFault s
    else if code = 7 then strobeRefused s
    else if classAccepted p code then
      updCoin (fun c => { c with passages := classify code c.passages }) s
    else strobeFault s

/-- STROBE (R71). -/
def execStrobe (code : BitVec 3) (s : State) : Host.Outcome State Fault Refusal :=
  .next (inRunning (strobeBody code.toNat) s)

/-- A passage whose window ends before the next tenth (log 6). -/
def passageDue (p : Passage) : Bool := decide (p.window < 100)

/-- A passage is stranded (R72). -/
def strandBody (p : Passage) (s : State) : State :=
  let s1 := updTally (fun t => { t with stranded := inc16 t.stranded })
    (updCoin (fun c => { c with passages := dropPassage passageDue c.passages }) s)
  strandSlot (raise .coin 3 (b8 (p.cls.getD 0) :: count2 s1.tally.stranded) s1)

/-- PASSAGE_WINDOW_EXPIRY (R72). -/
def execPassageWindowExpiry (s : State) : Host.Outcome State Fault Refusal :=
  match s.coin.passages.find? passageDue with
  | some p => .next (inRunning (strandBody p) s)
  | none => .next s

/-- An object arrives at the tail of the lane (R73 to R75). -/
def laneBody (s : State) : State :=
  if 10 ≤ s.coin.escrow.length then arriveFull s
  else match s.coin.passages with
  | p :: _ =>
    match p.cls with
    | some cls => arriveCoin cls p.late s
    | none => arriveForeign s
  | [] => arriveForeign s

/-- LANE_EDGE (R73, R74, R75). -/
def execLaneEdge (s : State) : Host.Outcome State Fault Refusal := .next (inRunning laneBody s)

/-- A drop with no action in flight (R81, R141). -/
def unexpectedDrop (s : State) : State :=
  let s1 := raise .coin 13 [2, b8 s.coin.escrow.length] (setUncertain s)
  if (getChan .lane s1).state = .active then s1 else condEnds .lane (condAppears .lane s1)

/-- An object leaves the head of the lane (R79, R81, R87). -/
def dropBody (s : State) : State :=
  match s.coin.lane with
  | .toBox | .toReturn => completeAction s
  | .clear | .jammed => unexpectedDrop s
  | .flushing =>
    updTally (fun t => { t with flushed := inc16 t.flushed })
      (updCoin (fun c => { c with flushTimer := some 2000 }) s)

/-- DROP_EDGE (R79, R81, R87). -/
def execDropEdge (s : State) : Host.Outcome State Fault Refusal := .next (inRunning dropBody s)

/-- The lane jams (R80, R141). -/
def jamBody (s : State) : State :=
  let head := s.coin.escrow.head?
  let s1 := touchLive (updCoin (fun c => { c with
    lane := .jammed, gatePos := .hold, dropTimer := none }) s)
  condAppears .lane
    (raise .coin 12 [b8 (laneCode s.coin.lane), b8 ((head.map (·.seq)).getD 0),
      b8 ((head.map (·.cls)).getD 0)] s1)

/-- DROP_WINDOW_EXPIRY (R80). -/
def execDropWindowExpiry (s : State) : Host.Outcome State Fault Refusal :=
  if timerDue s.coin.dropTimer && inFlight s.coin.lane then .next (inRunning jamBody s) else .next s

/-- The start-up flush ends and the Coin Unit's start-up is complete (R85, R87). An object entered as
foreign while the lane was FLUSHING stays on the list, and the counter's return to 1 can give a later
entry its sequence number (DESIGN CHOICE, log 42). -/
def flushBody (s : State) : State :=
  coinStarted (raise .coin 13 [3, 0]
    (setUncertain (updCoin (fun c => { c with
      lane := .clear, gatePos := .hold, arrival := 1, flushTimer := none }) s)))

/-- FLUSH_END (R87). -/
def execFlushEnd (s : State) : Host.Outcome State Fault Refusal :=
  if timerDue s.coin.flushTimer && s.coin.lane == .flushing then .next (inRunning flushBody s)
  else .next s

/-- The BOX switch, steady for 200 ms, has changed (R78, R173). -/
def boxBody (s : State) : State :=
  visitBox s.pins.box (updCoin (fun c => { c with box := s.pins.box, boxTimer := none }) s)

/-- BOX_SWITCH_CHANGE (R78, R92, R173). -/
def execBoxSwitchChange (s : State) : Host.Outcome State Fault Refusal :=
  if timerDue s.coin.boxTimer then .next (inRunning boxBody s) else .next s

/-- BOX_INPUT_CHANGE: the steadiness period starts again at each change (R78). -/
def execBoxInputChange (present : Bool) (s : State) : Host.Outcome State Fault Refusal :=
  if s.pins.box = present then .next s
  else .next (inRunning
    (updCoin (fun c => { c with boxTimer := if present = c.box then none else some 200 }))
    { s with pins := { s.pins with box := present } })

end Sys2Proof.Machine
end

