-- ==== Sys2Proof/Machine/CallCmds.lean ====
section
/-! DEFINITION. The hook, the call timers, the digit sender, answer, metering and ringing
(chapters 6 and 7). -/
namespace Sys2Proof.Machine

/-- A change of the Call Controller's state. -/
def updCallCtl (f : CallCtl → CallCtl) (s : State) : State := { s with call := f s.call }

/-- A change of the Line Interface's state. -/
def updLine (f : Line → Line) (s : State) : State := { s with line := f s.line }

/-! ### The hook (R89 to R91) -/

/-- The hook filter's period for a new level. -/
def hookPeriod (off : Bool) : Nat := if off then 100 else 300

/-- HOOK_INPUT_CHANGE: the filter's period starts again at each change (R89). -/
def execHookInputChange (off : Bool) (s : State) : Host.Outcome State Fault Refusal :=
  if s.pins.hook = off then .next s
  else .next (inRunning
    (updCallCtl (fun c => { c with
      hookTimer := if off = c.hook then none else some (hookPeriod off) }))
    { s with pins := { s.pins with hook := off } })

/-- The filtered hook becomes off-hook (R90). -/
def offHookBody (s : State) : State :=
  let s1 := updCallCtl (fun c => { c with hook := true, hookTimer := none }) s
  match s.call.station with
  | .idle => setStation .ready s1
  | .ringIn => takeIncoming s1
  | .ready | .dialling | .creditWait | .ringback | .talking | .talkingIn | .reporting => s1

/-- OFF_HOOK (R90). -/
def execOffHook (s : State) : Host.Outcome State Fault Refusal :=
  if timerDue s.call.hookTimer && s.pins.hook && !s.call.hook then
    .next (inRunning offHookBody s)
  else .next s

/-- The filtered hook becomes on-hook (R91). -/
def onHookBody (s : State) : State :=
  let s1 := updCallCtl (fun c => { c with hook := false, hookTimer := none }) s
  match s.call.station with
  | .ready => setStation .idle s1
  | .dialling | .creditWait | .ringback => endCall .abandoned .idle s1
  | .talking | .talkingIn => endCall .endedByCaller .idle s1
  | .idle | .ringIn | .reporting => s1

/-- ON_HOOK (R91). -/
def execOnHook (s : State) : Host.Outcome State Fault Refusal :=
  if timerDue s.call.hookTimer && !s.pins.hook && s.call.hook then .next (inRunning onHookBody s)
  else .next s

/-! ### The call timers (R97, R99, R101) -/

/-- INTER_DIGIT_EXPIRY: the number becomes complete (R97). -/
def execInterDigitExpiry (s : State) : Host.Outcome State Fault Refusal :=
  if timerDue s.call.interDigit then
    .next (inRunning (fun s =>
      completeNumber (updCallCtl (fun c => { c with interDigit := none }) s)) s)
  else .next s

/-- CREDIT_HOLD_EXPIRY: the attempt is abandoned and the purse kept (R99). -/
def execCreditHoldExpiry (s : State) : Host.Outcome State Fault Refusal :=
  if timerDue s.call.creditTimer && s.call.station == .creditWait then
    .next (inRunning (endCall .abandoned .ready) s)
  else .next s

/-! ### The digit sender (R112) -/

/-- A phase after which the sender is idle. -/
def lastPhase : SendPhase → Bool
  | .gap | .interDigit | .pause => true
  | .strobe | .brk | .make => false

/-- DIGIT_SIGNAL_END: the signalling of a digit ends and the sender is idle (R112). -/
def execDigitSignalEnd (s : State) : Host.Outcome State Fault Refusal :=
  match s.line.sender with
  | some d =>
    if lastPhase d.phase && decide (d.timer < 100) then
      .next (inRunning (updLine (fun l => { l with sender := none })) s)
    else .next s
  | none => .next s

/-- DIGIT_SENDER_PHASE_END: a timed phase within a digit ends (R112, R111). -/
def execDigitSenderPhaseEnd (s : State) : Host.Outcome State Fault Refusal :=
  match s.line.sender with
  | some d =>
    if !lastPhase d.phase && decide (d.timer < 100) then .next (inRunning (nextPhase · d) s)
    else .next s
  | none => .next s

/-! ### Answer (R101, R113, R156) -/

/-- The report call is answered: the centre timer starts (R156). -/
def answerReport (s : State) : State :=
  let band := BitVec.ofNat 3 s.cal.band
  updCall (fun c => { c with band := band, answered := true })
    { s with
      line := { s.line with answerP := none },
      report := { s.report with
        answered := true, answerTimer := none, talk := 0, band := band,
        centreTimer := some 5000 } }

/-- An answer in DIALLING before the inter-digit limit has run makes the number complete, passes
through RINGBACK and is taken (R101). -/
def answerEarly (s : State) : State :=
  answerCall (enterRingback (updCall (fun c => { c with complete := true }) s))

/-- An answer in DIALLING is taken while the gate has passed and nothing is left to send (R101). -/
def earlyAnswer (s : State) : Bool :=
  match s.call.cur with
  | some c => c.gatePassed && s.call.dialQueue.isEmpty && idleSender s
  | none => false

/-- The Line Interface reports an answer (R101, R113, R156). -/
def answerBody (s : State) : State :=
  let s1 := updLine (fun l => { l with answerP := none }) s
  match s.call.station with
  | .ringback => answerCall s1
  | .dialling => if earlyAnswer s then answerEarly s1 else s1
  | .reporting =>
    if s.report.phase = .awaitCentre ∧ s.report.answered = false then answerReport s1 else s1
  | .idle | .ready | .creditWait | .talking | .ringIn | .talkingIn => s1

/-- ANSWER_DETECTED: REV reversed without a break for 100 ms (R113). -/
def execAnswerDetected (s : State) : Host.Outcome State Fault Refusal :=
  if timerDue s.line.answerP && s.pins.rev then .next (inRunning answerBody s) else .next s

/-- The answer limit of the caller's call, or of the report call, expires (R101, R156). -/
def answerLimitBody (s : State) : State :=
  if s.call.station = .ringback ∧ timerDue s.call.answerTimer = true then
    endCall .noAnswer .ready s
  else if s.report.phase = .awaitCentre ∧ timerDue s.report.answerTimer = true then
    failReport .noAnswer s
  else s

/-- ANSWER_LIMIT_EXPIRY (R101, R156). -/
def execAnswerLimitExpiry (s : State) : Host.Outcome State Fault Refusal :=
  .next (inRunning answerLimitBody s)

/-! ### Units and warnings (R122 to R125) -/

/-- The call timer has reached the next unit start, or reaches it at the tenth that also brings the next
second carry: then the two are taken in either order, and a unit start taken first is charged in the
band that the carry has not yet changed (R50, R122, log 6). -/
def unitDue (s : State) : Bool :=
  decide (s.meter.nextUnit ≤ s.meter.t)
    || (s.cal.sub == 9 && decide (s.meter.nextUnit ≤ s.meter.t + 1))

/-- UNIT_START: the call timer reaches the next unit start of a TIMED call (R122). -/
def execUnitStart (s : State) : Host.Outcome State Fault Refusal :=
  match s.meter.metered with
  | some m =>
    if m.timed && unitDue s && s.call.station == .talking then
      .next (inRunning (unitTest m) s)
    else .next s
  | none => .next s

/-- The present burst or silence of WARN ends (R125). -/
def warnStep (m : Meter) : Meter :=
  { m with warnLeft := m.warnLeft - 1,
           warnTimer := if m.warnLeft ≤ 1 then none else some 200 }

/-- WARN_BURST_TIMER (R125). -/
def execWarnBurstTimer (s : State) : Host.Outcome State Fault Refusal :=
  if timerDue s.meter.warnTimer then
    .next (inRunning (fun s => { s with meter := warnStep s.meter }) s)
  else .next s

/-! ### Ringing (R104) -/

/-- A ringing report may be taken into RING IN (R104). -/
def mayRing (s : State) : Bool :=
  (match s.gate.profile with
    | some p => p.incoming
    | none => false)
  && s.call.mode != .closed && s.call.claim == .free
  && (s.call.station == .idle || (s.call.station == .ready && !purseOpen s))

/-- A ringing report (R104). -/
def ringBody (s : State) : State :=
  let timed := updCallCtl (fun c => { c with ringTimer := some 6000 })
  if s.line.state = .released ∨ s.line.state = .clearing then
    if s.call.station = .ringIn then timed s
    else if mayRing s then raise .call 11 [] (setStation .ringIn (timed s))
    else s
  else s

/-- RING_REPORT (R104). -/
def execRingReport (s : State) : Host.Outcome State Fault Refusal := .next (inRunning ringBody s)

/-- RING_TIMER_EXPIRY (R104). -/
def execRingTimerExpiry (s : State) : Host.Outcome State Fault Refusal :=
  if timerDue s.call.ringTimer && s.call.station == .ringIn then
    .next (inRunning (fun s => setStation (restStation s)
      (updCallCtl (fun c => { c with ringTimer := none }) s)) s)
  else .next s

end Sys2Proof.Machine
end

