-- ==== Sys2Proof/Machine/LineCmds.lean ====
section
/-! DEFINITION. The line's commands: loop, dial tone, loss, clearing, metering pulses, the clearing
guard, the input levels (section 6.9). -/
namespace Sys2Proof.Machine

/-! ### Seizing (R105, R110, R154) -/

/-- The loop is present for an incoming call: CONNECTED, and CALL ANSWERED (R105, R110, R113). -/
def loopIncoming (s : State) : State :=
  let band := BitVec.ofNat 3 s.cal.band
  let s1 := setLine .connected (updLine (fun l => { l with revRef := s.pins.rev }) s)
  raise .call 9 [b8 (callKindCode .incoming), zoneByte none, b8 s.cal.band]
    (updCall (fun c => { c with answered := true, talk := 0, band := band }) s1)

/-- The loop is present for an outgoing call: AWAIT TONE (R110, R154). -/
def loopOutgoing (s : State) : State :=
  let s1 := setLine .awaitTone (updLine (fun l => { l with
    toneLimit := seconds (param (·.dialToneS) s),
    tonePeriod := if s.pins.dialtone then some 300 else none }) s)
  if s.call.claim = .report then
    { s1 with report := { s1.report with phase := .awaitTone } }
  else s1

/-- Loop current ends SEIZING (R110). -/
def loopBody (s : State) : State :=
  let s1 := updLine (fun l => { l with loopTimer := none }) s
  if s.call.claim = .incoming then loopIncoming s1 else loopOutgoing s1

/-- LOOP_PRESENT (R110). -/
def execLoopPresent (s : State) : Host.Outcome State Fault Refusal :=
  if s.line.state = .seizing ∧ s.pins.loop = true then .next (inRunning loopBody s) else .next s

/-- The digit count and zone of the call in progress. -/
def curFigures (s : State) : Option Nat × Nat :=
  match s.call.cur with
  | some c => (c.zone, c.number.length)
  | none => (none, 0)

/-- No loop within 500 ms: NO LINE (R102, R110, R160). CALL REFUSED stands before the CALL ENDED of the same
end, as NO DIAL TONE does (DESIGN CHOICE, log 51). -/
def noLineBody (s : State) : State :=
  if s.call.claim = .report then failReport .noLine s
  else
    let (zone, digits) := curFigures s
    endCall .noLine .ready (raiseRefused .noLine zone digits s)

/-- LOOP_TIMER_EXPIRY (R110). -/
def execLoopTimerExpiry (s : State) : Host.Outcome State Fault Refusal :=
  if s.line.state = .seizing ∧ timerDue s.line.loopTimer = true then .next (inRunning noLineBody s)
  else .next s

/-- Dial tone steady for 300 ms: SENDING (R110, R113, R154). -/
def toneBody (s : State) : State :=
  let s1 := setLine .sending (updLine (fun l => { l with
    toneLimit := none, tonePeriod := none,
    answerP := if s.pins.rev then some 100 else none }) s)
  if s.call.claim = .report then
    { s1 with report := { s1.report with phase := .dialling } }
  else s1

/-- DIAL_TONE_FOUND (R110). -/
def execDialToneFound (s : State) : Host.Outcome State Fault Refusal :=
  if s.line.state = .awaitTone ∧ timerDue s.line.tonePeriod = true ∧ s.pins.dialtone = true then
    .next (inRunning toneBody s)
  else .next s

/-- No dial tone within the limit (R102, R110, R160). -/
def noToneBody (s : State) : State :=
  if s.call.claim = .report then failReport .noDialTone s
  else
    let kind := match s.call.cur with
      | some c => c.kind
      | none => .undecided
    endCall .noDialTone .ready (raise .call 8 [b8 (callKindCode kind)] s)

/-- DIAL_TONE_LIMIT_EXPIRY (R110). -/
def execDialToneLimitExpiry (s : State) : Host.Outcome State Fault Refusal :=
  if s.line.state = .awaitTone ∧ timerDue s.line.toneLimit = true then
    .next (inRunning noToneBody s)
  else .next s

/-! ### Loss, clearing, pulses, guard (R111, R113 to R115) -/

/-- A line loss is counted and reported to the claimant (R102, R111, R160). -/
def lossBody (s : State) : State :=
  let s1 := updTally (fun t => { t with lineLost := inc16 t.lineLost }) s
  if s.call.claim = .report then failReport .lineLost s1 else endCall .lineLost .ready s1

/-- LINE_LOSS: LOOP absent without a break for 400 ms (R111). -/
def execLineLoss (s : State) : Host.Outcome State Fault Refusal :=
  if timerDue s.line.loss && pastSeizing s.line && !s.pins.loop then .next (inRunning lossBody s)
  else .next s

/-- The phases of a report call that a far-end clear ends (R160). -/
def clearable (r : Report) : Bool :=
  r.answered && (r.phase == .awaitCentre || r.phase == .sending || r.phase == .awaitAck)

/-- A far-end clear (R102, R113, R156). -/
def clearBody (s : State) : State :=
  let s1 := updLine (fun l => { l with clearP := none }) s
  match s.call.station with
  | .talking | .talkingIn => endCall .farEnd .ready s1
  | .reporting => if clearable s.report then failReport .farEnd s1 else s1
  | .idle | .ready | .dialling | .creditWait | .ringback | .ringIn => s1

/-- FAR_END_CLEAR (R113). -/
def execFarEndClear (s : State) : Host.Outcome State Fault Refusal :=
  if timerDue s.line.clearP then .next (inRunning clearBody s) else .next s

/-- An edge comes 100 ms or more after the pulse last taken (R114, log 29). -/
def pulseApart (l : Line) (phase : Nat) : Bool :=
  match l.meterTicks with
  | none => true
  | some n => decide (100 + l.meterPhase ≤ 100 * n + phase)

/-- The zone of a METER pulse taken while TALKING on a PULSED zone (R114, R123). -/
def pulsedNow (s : State) : Option Metered :=
  match s.meter.metered with
  | some m => if !m.timed && s.call.station == .talking then some m else none
  | none => none

/-- A METER pulse (R114, R123). -/
def pulseBody (phase : Nat) (s : State) : State :=
  if pulseApart s.line phase then
    let s1 := updLine (fun l => { l with meterTicks := some 0, meterPhase := phase }) s
    match pulsedNow s1 with
    | some m => unitTest m s1
    | none => updTally (fun t => { t with stray := inc16 t.stray }) s1
  else s

/-- METER_PULSE, `phase` milliseconds after the last tenth tick (R114, log 29). None is counted stray in
STARTING (DESIGN CHOICE, log 64). -/
def execMeterPulse (phase : Nat) (s : State) : Host.Outcome State Fault Refusal :=
  .next (inRunning (pulseBody phase) s)

/-- The clearing guard ends: RELEASED, the Report Engine leaves CLEARING, and a seizure that waits is
made (R110, R115, R159). -/
def guardBody (s : State) : State :=
  let s1 := setLine .released (updLine (fun l => { l with guard := none }) s)
  let s2 := if s1.report.phase = .clearing then
      { s1 with report := { s1.report with phase := .noCall } } else s1
  if s2.line.waiting then closeSeize s2 else s2

/-- CLEARING_GUARD_END (R115). -/
def execClearingGuardEnd (s : State) : Host.Outcome State Fault Refusal :=
  if s.line.state = .clearing ∧ timerDue s.line.guard = true then .next (inRunning guardBody s)
  else .next s

/-! ### Input levels (R110, R111, R113) -/

/-- LOOP_INPUT_CHANGE: the loss timer starts and stops with the level (R111). -/
def execLoopInputChange (present : Bool) (s : State) : Host.Outcome State Fault Refusal :=
  if s.pins.loop = present then .next s
  else .next (inRunning
    (updLine (fun l => { l with
      loss := if pastSeizing l && !pulseOpen l && !present then some 400 else none }))
    { s with pins := { s.pins with loop := present } })

/-- An outgoing call waits for an answer, where REV is looked at (R113). -/
def awaitsAnswer (s : State) : Bool :=
  (s.line.state == .sending || s.line.state == .connected) &&
    (match s.call.station with
      | .dialling | .creditWait | .ringback => true
      | .reporting => !s.report.answered
      | .idle | .ready | .talking | .ringIn | .talkingIn => false)

/-- A level of REV that leads to a far-end clear (R113). -/
def clearLevel (reversed : Bool) (s : State) : Bool :=
  s.line.state == .connected &&
    (match s.call.station with
      | .talking => !reversed
      | .reporting => s.report.answered && !reversed
      | .talkingIn => reversed != s.line.revRef
      | .idle | .ready | .dialling | .creditWait | .ringback | .ringIn => false)

/-- The answer and clearing periods after a change of REV (R113). -/
def revBody (reversed : Bool) (s : State) : State :=
  updLine (fun l => { l with
    answerP := if awaitsAnswer s && reversed then some 100 else none,
    clearP := if clearLevel reversed s then some 300 else none }) s

/-- REV_INPUT_CHANGE (R113). -/
def execRevInputChange (reversed : Bool) (s : State) : Host.Outcome State Fault Refusal :=
  if s.pins.rev = reversed then .next s
  else .next (inRunning (revBody reversed) { s with pins := { s.pins with rev := reversed } })

/-- DIALTONE_INPUT_CHANGE: the 300 ms period starts and stops with the level in AWAIT TONE (R110). -/
def execDialtoneInputChange (present : Bool) (s : State) : Host.Outcome State Fault Refusal :=
  if s.pins.dialtone = present then .next s
  else .next (inRunning
    (updLine (fun l => { l with
      tonePeriod := if l.state = .awaitTone ∧ present = true then some 300 else none }))
    { s with pins := { s.pins with dialtone := present } })

end Sys2Proof.Machine
end

