-- ==== Sys2Proof/Machine/TamperCmds.lean ====
section
/-! DEFINITION. The Tamper Monitor's commands and the visit door timer (chapter 8, R173). -/
namespace Sys2Proof.Machine

/-! ### The housing inputs (R137) -/

/-- The level of a housing input. -/
def pinOf (h : Housing) (p : Pins) : Bool :=
  match h with
  | .door => p.door
  | .case => p.case
  | .cord => p.cord

def setPin (h : Housing) (x : Bool) (p : Pins) : Pins :=
  match h with
  | .door => { p with door := x }
  | .case => { p with case := x }
  | .cord => { p with cord := x }

/-- The debouncer of a housing input. -/
def debouncer (h : Housing) (t : Tamper) : Debounce :=
  match h with
  | .door => t.door
  | .case => t.case
  | .cord => t.cord

def setDebouncer (h : Housing) (d : Debounce) (t : Tamper) : Tamper :=
  match h with
  | .door => { t with door := d }
  | .case => { t with case := d }
  | .cord => { t with cord := d }

/-- The channel of a housing input. -/
def channelAt : Housing → Channel
  | .door => .door
  | .case => .case
  | .cord => .cord

/-- One more raw edge of a channel's input, wrapping (R137). -/
def countEdge (ch : Channel) (s : State) : State :=
  setChan ch { getChan ch s with raw := (getChan ch s).raw + 1 } s

/-- A change of a housing input: an edge to open is counted, and the 200 ms period starts again
(R137). -/
def edgeBody (h : Housing) (isOpen : Bool) (s : State) : State :=
  let s1 := if isOpen then countEdge (channelAt h) s else s
  updTamper (fun t =>
    let d := debouncer h t
    setDebouncer h { d with timer := if isOpen = d.isOpen then none else some 200 } t) s1

/-- HOUSING_INPUT_EDGE (R137). Out of RUNNING the level moves alone; the spec does not say whether a raw
edge taken in STARTING is counted, and the model counts none (DESIGN CHOICE, log 64). -/
def execHousingInputEdge (h : Housing) (isOpen : Bool) (s : State) :
    Host.Outcome State Fault Refusal :=
  if pinOf h s.pins = isOpen then .next s
  else .next (inRunning (edgeBody h isOpen) { s with pins := setPin h isOpen s.pins })

/-- The condition of a housing channel (R137, R138). -/
def housingCond (h : Housing) (t : Tamper) : Bool :=
  match h with
  | .door => doorCond t
  | .case => caseCond t
  | .cord => t.cord.isOpen

/-- The debounced state changes: its channel is judged, and a change of the door is handed to the
visit (R137, R173). -/
def debouncedBody (h : Housing) (s : State) : State :=
  let isOpen := pinOf h s.pins
  let s1 := updTamper (setDebouncer h ⟨isOpen, none⟩) s
  let s2 := judgeChan (channelAt h) (housingCond h s1.tamper) s1
  if h = .door then visitDoor isOpen s2 else s2

/-- HOUSING_INPUT_DEBOUNCED (R137). -/
def execHousingInputDebounced (h : Housing) (s : State) : Host.Outcome State Fault Refusal :=
  if timerDue (debouncer h s.tamper).timer then .next (inRunning (debouncedBody h) s) else .next s

/-! ### SHOCK (R139) -/

/-- A pulse in the shock window: opened by it, or counted in it. -/
def windowPulse (t : Tamper) : Tamper :=
  match t.shockWindow with
  | none => { t with shockWindow := some 10000, shockCount := 1, quiet := some 10000 }
  | some _ => { t with shockCount := t.shockCount + 1, quiet := some 10000 }

/-- A shock pulse (R137, R139). -/
def shockBody (s : State) : State :=
  let s1 := updTamper windowPulse (countEdge .shock s)
  if s1.tamper.shockCount = param (·.shockCount) s1 then condAppears .shock s1 else s1

/-- SHOCK_PULSE (R137, R139). Its raw edge is not counted in STARTING (DESIGN CHOICE, log 64). -/
def execShockPulse (s : State) : Host.Outcome State Fault Refusal := .next (inRunning shockBody s)

/-- SHOCK_WINDOW_END: the window closes and its count returns to 0 (R139). -/
def execShockWindowEnd (s : State) : Host.Outcome State Fault Refusal :=
  if timerDue s.tamper.shockWindow then
    .next (inRunning (updTamper (fun t => { t with shockWindow := none, shockCount := 0 })) s)
  else .next s

/-- SHOCK_QUIET_EXPIRY: 10 s have passed with no pulse (R139). -/
def execShockQuietExpiry (s : State) : Host.Outcome State Fault Refusal :=
  if timerDue s.tamper.quiet then
    .next (inRunning (fun s => condEnds .shock (updTamper (fun t => { t with quiet := none }) s)) s)
  else .next s

/-! ### SLOT (R140) -/

/-- SLOT_BLOCK_EXPIRY: ENTRY active for the slot block limit (R140). -/
def execSlotBlockExpiry (s : State) : Host.Outcome State Fault Refusal :=
  if timerDue s.tamper.slotBlock then
    .next (inRunning (fun s =>
      condAppears .slot (updTamper (fun t => { t with slotBlock := none }) s)) s)
  else .next s

/-- SLOT_CLEAR_EXPIRY: ENTRY clear for 1 s (R140). -/
def execSlotClearExpiry (s : State) : Host.Outcome State Fault Refusal :=
  if timerDue s.tamper.slotClear then
    .next (inRunning (fun s =>
      condEnds .slot (updTamper (fun t => { t with slotClear := none }) s)) s)
  else .next s

/-! ### LINE (R142) -/

/-- The line voltage timers after a change of LINEV (R142). -/
def linevBody (present : Bool) (s : State) : State :=
  updTamper (fun t => { t with
    presentTimer := if present then some 2000 else none,
    lossTimer := if present = false ∧ s.line.state = .released then some 2000 else none }) s

/-- LINEV_CHANGE (R142). -/
def execLinevChange (present : Bool) (s : State) : Host.Outcome State Fault Refusal :=
  if s.pins.linev = present then .next s
  else .next (inRunning (linevBody present) { s with pins := { s.pins with linev := present } })

/-- LINE_VOLTAGE_LOSS_EXPIRY (R142). -/
def execLineVoltageLossExpiry (s : State) : Host.Outcome State Fault Refusal :=
  if timerDue s.tamper.lossTimer then
    .next (inRunning (fun s =>
      condAppears .line (updTamper (fun t => { t with lossTimer := none }) s)) s)
  else .next s

/-- LINE_VOLTAGE_PRESENT_EXPIRY (R142). -/
def execLineVoltagePresentExpiry (s : State) : Host.Outcome State Fault Refusal :=
  if timerDue s.tamper.presentTimer then
    .next (inRunning (fun s =>
      condEnds .line (updTamper (fun t => { t with presentTimer := none }) s)) s)
  else .next s

/-! ### FORCE and the visit door timer (R143, R173) -/

/-- FORCE_WINDOW_END: the window ends and with it the FORCE condition (R143, R148). -/
def execForceWindowEnd (s : State) : Host.Outcome State Fault Refusal :=
  if timerDue s.tamper.force then
    .next (inRunning (fun s =>
      giveRewrite .tamper (condEnds .force (updTamper (fun t => { t with force := none }) s))) s)
  else .next s

/-- VISIT_DOOR_TIMER_EXPIRY: the visit lapses (R173, R175). -/
def execVisitDoorTimerExpiry (s : State) : Host.Outcome State Fault Refusal :=
  if timerDue s.visit.timer && s.visit.state == .awaitingDoor then
    .next (inRunning (endVisit true) s)
  else .next s

end Sys2Proof.Machine
end

