-- ==== Sys2Proof/Machine/ReportCmds.lean ====
section
/-! DEFINITION. The Report Engine's commands (R152, R156 to R160). -/
namespace Sys2Proof.Machine

/-- A change of the Report Engine's state. -/
def updReport (f : Report → Report) (s : State) : State := { s with report := f s.report }

/-- ATTEMPT_DUE: the next attempt falls due (R152, R153). -/
def execAttemptDue (s : State) : Host.Outcome State Fault Refusal :=
  if timerDue s.report.nextDue && s.report.round == .inRound then
    .next (inRunning (fun s =>
      updReport (fun r => { r with due := canReport s, nextDue := none }) s) s)
  else .next s

/-- A new round begins: FAILED entries become QUEUED and attempt 1 is due (R152). -/
def newRoundBody (s : State) : State :=
  let s1 := requeueFailed s
  updReport (fun r => { r with
    round := .inRound, attempt := 1, due := canReport s, nextDue := none }) s1

/-- NEW_ROUND_DUE (R152). -/
def execNewRoundDue (s : State) : Host.Outcome State Fault Refusal :=
  if timerDue s.report.nextDue && s.report.round == .failed then
    .next (inRunning newRoundBody s)
  else .next s

/-- CENTRE_TONE: the CENTRE flag while the centre timer runs (R156, R157). -/
def execCentreTone (s : State) : Host.Outcome State Fault Refusal :=
  if s.report.phase = .awaitCentre ∧ s.report.centreTimer ≠ none then
    .next (inRunning takeSnapshot s)
  else .next s

/-- CENTRE_TIMER_EXPIRY: no CENTRE within 5 s of the answer (R156, R160). -/
def execCentreTimerExpiry (s : State) : Host.Outcome State Fault Refusal :=
  if s.report.phase = .awaitCentre ∧ timerDue s.report.centreTimer = true then
    .next (inRunning (failReport .noAnswer) s)
  else .next s

/-- An acknowledged frame: the next is sent, or the attempt succeeds (R158, R159). -/
def ackBody (s : State) : State :=
  if s.report.pos + 1 < s.report.frames.length then
    updReport (fun r => { r with
      pos := r.pos + 1, symbols := ((r.frames[r.pos + 1]?).map (·.symbols)).getD [],
      phase := .sending, ackTimer := none }) s
  else succeedReport s

/-- ACK_TONE (R158). -/
def execAckTone (s : State) : Host.Outcome State Fault Refusal :=
  if s.report.phase = .awaitAck then .next (inRunning ackBody s) else .next s

/-- NAK_TONE: the attempt ends with REFUSED (R158, R160). -/
def execNakTone (s : State) : Host.Outcome State Fault Refusal :=
  if s.report.phase = .awaitAck then .next (inRunning (failReport .refused) s) else .next s

/-- ACK_TIMER_EXPIRY: no ACK within 3 s (R158, R160). -/
def execAckTimerExpiry (s : State) : Host.Outcome State Fault Refusal :=
  if s.report.phase = .awaitAck ∧ timerDue s.report.ackTimer = true then
    .next (inRunning (failReport .abandoned) s)
  else .next s

end Sys2Proof.Machine
end

