-- ==== Sys2Proof/Machine/Dispatch.lean ====
section
/-! DEFINITION. Which meaning each command has. -/
namespace Sys2Proof.Machine

/-- The effect of a command on everything but the queue of commands. -/
def exec (i : Instr) (s : State) : Host.Outcome State Fault Refusal :=
  match i with
  | .stationProcessorWrite addr value => Sys2Proof.Machine.execStationProcessorWrite addr value s
  | .orderPosted slot code => Sys2Proof.Machine.execOrderPosted slot code s
  | .slotFreed slot => Sys2Proof.Machine.execSlotFreed slot s
  | .restartByteWrite value => Sys2Proof.Machine.execRestartByteWrite value s
  | .eventReadIndexWrite value => Sys2Proof.Machine.execEventReadIndexWrite value s
  | .callRingReadIndexWrite value => Sys2Proof.Machine.execCallRingReadIndexWrite value s
  | .postEntryComplete => Sys2Proof.Machine.execPostEntryComplete s
  | .producerAdmitted => Sys2Proof.Machine.execProducerAdmitted s
  | .restartProperBegins => Sys2Proof.Machine.execRestartProperBegins s
  | .anchorRead => Sys2Proof.Machine.execAnchorRead s
  | .profileCheck => Sys2Proof.Machine.execProfileCheck s
  | .slotScan => Sys2Proof.Machine.execSlotScan s
  | .eventRingHeaderRead => Sys2Proof.Machine.execEventRingHeaderRead s
  | .callRingHeaderRead => Sys2Proof.Machine.execCallRingHeaderRead s
  | .tallyRead => Sys2Proof.Machine.execTallyRead s
  | .tamperAreaRead => Sys2Proof.Machine.execTamperAreaRead s
  | .liveImageRead => Sys2Proof.Machine.execLiveImageRead s
  | .bankLoadCheck => Sys2Proof.Machine.execBankLoadCheck s
  | .orderTaken => Sys2Proof.Machine.execOrderTaken s
  | .unknownOrder => Sys2Proof.Machine.execUnknownOrder s
  | .dial => Sys2Proof.Machine.execDial s
  | .dialMore => Sys2Proof.Machine.execDialMore s
  | .returnCoins => Sys2Proof.Machine.execReturnCoins s
  | .nextCall => Sys2Proof.Machine.execNextCall s
  | .answer => Sys2Proof.Machine.execAnswer s
  | .setClock => Sys2Proof.Machine.execSetClock s
  | .adjustClock => Sys2Proof.Machine.execAdjustClock s
  | .swapTariff => Sys2Proof.Machine.execSwapTariff s
  | .openVisit => Sys2Proof.Machine.execOpenVisit s
  | .closeVisit => Sys2Proof.Machine.execCloseVisit s
  | .clearTamper => Sys2Proof.Machine.execClearTamper s
  | .reportNow => Sys2Proof.Machine.execReportNow s
  | .clearLane => Sys2Proof.Machine.execClearLane s
  | .service => Sys2Proof.Machine.execService s
  | .restart => Sys2Proof.Machine.execRestart s
  | .secondCarry => Sys2Proof.Machine.execSecondCarry s
  | .batteryFail => Sys2Proof.Machine.execBatteryFail s
  | .entryEdge => Sys2Proof.Machine.execEntryEdge s
  | .entryClear => Sys2Proof.Machine.execEntryClear s
  | .strobe code => Sys2Proof.Machine.execStrobe code s
  | .passageWindowExpiry => Sys2Proof.Machine.execPassageWindowExpiry s
  | .laneEdge => Sys2Proof.Machine.execLaneEdge s
  | .dropEdge => Sys2Proof.Machine.execDropEdge s
  | .dropWindowExpiry => Sys2Proof.Machine.execDropWindowExpiry s
  | .flushEnd => Sys2Proof.Machine.execFlushEnd s
  | .boxSwitchChange => Sys2Proof.Machine.execBoxSwitchChange s
  | .hookInputChange offHook => Sys2Proof.Machine.execHookInputChange offHook s
  | .offHook => Sys2Proof.Machine.execOffHook s
  | .onHook => Sys2Proof.Machine.execOnHook s
  | .interDigitExpiry => Sys2Proof.Machine.execInterDigitExpiry s
  | .creditHoldExpiry => Sys2Proof.Machine.execCreditHoldExpiry s
  | .digitSignalEnd => Sys2Proof.Machine.execDigitSignalEnd s
  | .answerDetected => Sys2Proof.Machine.execAnswerDetected s
  | .answerLimitExpiry => Sys2Proof.Machine.execAnswerLimitExpiry s
  | .unitStart => Sys2Proof.Machine.execUnitStart s
  | .warnBurstTimer => Sys2Proof.Machine.execWarnBurstTimer s
  | .ringReport => Sys2Proof.Machine.execRingReport s
  | .ringTimerExpiry => Sys2Proof.Machine.execRingTimerExpiry s
  | .loopPresent => Sys2Proof.Machine.execLoopPresent s
  | .loopTimerExpiry => Sys2Proof.Machine.execLoopTimerExpiry s
  | .dialToneFound => Sys2Proof.Machine.execDialToneFound s
  | .dialToneLimitExpiry => Sys2Proof.Machine.execDialToneLimitExpiry s
  | .lineLoss => Sys2Proof.Machine.execLineLoss s
  | .farEndClear => Sys2Proof.Machine.execFarEndClear s
  | .meterPulse phase => Sys2Proof.Machine.execMeterPulse phase s
  | .clearingGuardEnd => Sys2Proof.Machine.execClearingGuardEnd s
  | .housingInputEdge input isOpen => Sys2Proof.Machine.execHousingInputEdge input isOpen s
  | .housingInputDebounced input => Sys2Proof.Machine.execHousingInputDebounced input s
  | .shockPulse => Sys2Proof.Machine.execShockPulse s
  | .shockWindowEnd => Sys2Proof.Machine.execShockWindowEnd s
  | .shockQuietExpiry => Sys2Proof.Machine.execShockQuietExpiry s
  | .slotBlockExpiry => Sys2Proof.Machine.execSlotBlockExpiry s
  | .slotClearExpiry => Sys2Proof.Machine.execSlotClearExpiry s
  | .linevChange present => Sys2Proof.Machine.execLinevChange present s
  | .lineVoltageLossExpiry => Sys2Proof.Machine.execLineVoltageLossExpiry s
  | .lineVoltagePresentExpiry => Sys2Proof.Machine.execLineVoltagePresentExpiry s
  | .forceWindowEnd => Sys2Proof.Machine.execForceWindowEnd s
  | .visitDoorTimerExpiry => Sys2Proof.Machine.execVisitDoorTimerExpiry s
  | .attemptDue => Sys2Proof.Machine.execAttemptDue s
  | .newRoundDue => Sys2Proof.Machine.execNewRoundDue s
  | .centreTone => Sys2Proof.Machine.execCentreTone s
  | .centreTimerExpiry => Sys2Proof.Machine.execCentreTimerExpiry s
  | .ackTone => Sys2Proof.Machine.execAckTone s
  | .nakTone => Sys2Proof.Machine.execNakTone s
  | .ackTimerExpiry => Sys2Proof.Machine.execAckTimerExpiry s
  | .powerFail => Sys2Proof.Machine.execPowerFail s
  | .supplyDies => Sys2Proof.Machine.execSupplyDies s
  | .hresetAssert => Sys2Proof.Machine.execHresetAssert s
  | .leaveDark => Sys2Proof.Machine.execLeaveDark s
  | .tenthTick => Sys2Proof.Machine.execTenthTick s
  | .loopInputChange present => Sys2Proof.Machine.execLoopInputChange present s
  | .revInputChange reversed => Sys2Proof.Machine.execRevInputChange reversed s
  | .dialtoneInputChange present => Sys2Proof.Machine.execDialtoneInputChange present s
  | .boxInputChange present => Sys2Proof.Machine.execBoxInputChange present s
  | .digitSenderPhaseEnd => Sys2Proof.Machine.execDigitSenderPhaseEnd s

end Sys2Proof.Machine
end

