-- ==== Sys2Proof/Machine/Step.lean ====
section
/-! DEFINITION. One step of the part: the command at the front of the queue. -/
namespace Sys2Proof.Machine

/-- The command at the front of the queue is carried out on the state with the queue's rest; on an
empty queue the Post Engine makes one byte cycle of its head entry short of the last, and idles when
there is none (R13, R15, log 7). -/
def step (s : State) : Host.Outcome State Fault Refusal :=
  match s.pending with
  | [] => .next (byteCycle s)
  | c :: l => exec c { s with pending := l }

/-- The command that a word spells by the table's bits is put at the front of the queue; no word
spells one. -/
def State.withFetchWord (s : State) (nbits w : Nat) : State :=
  match decodeTableWord nbits w with
  | some c => { s with pending := c :: s.pending }
  | none => s

end Sys2Proof.Machine
end

