-- ==== Sys2Proof/Safety.lean ====
section
/-! DEFINITION. What the statements mean by a well-kept state, and by the part of the state that the
judgments at the end of a step leave alone. -/
namespace Sys2Proof.Safety
open Sys2Proof.Machine

/-- The memory is in canonical form. -/
abbrev memoryKept (s : State) : Prop := Memory.wf s.mem = true

/-- The Calendar's counters are in their ranges (the table of chapter 3). -/
abbrev calendarInRange (s : State) : Prop :=
  timeFault s.cal.time = none ∧ s.cal.sub ≤ 9 ∧ s.cal.weekday ≤ 6

/-- The escrow list holds at most ten entries (R76). -/
abbrev laneHolds (s : State) : Prop := s.coin.escrow.length ≤ 10

/-- The Post Queue holds at most sixteen entries (R12). -/
abbrev postsHold (s : State) : Prop := s.gate.queue.length ≤ 16

/-- Neither ring holds more unread records than it has places (R30, R165). -/
abbrev ringsHold (s : State) : Prop :=
  (s.ev.w - s.ev.r).toNat ≤ 32 ∧ (s.ring.w - s.ring.r).toNat ≤ 64

/-- The part of the state that what the blocks judge at the end of every step never changes: `s` with
every field that those judgments may write set to a fixed value. The fields so set are the lane action
and the purse, with the passages in flight at its closing (R78, R127 to R131), activation and the band
(R50, R59), the service mode (R93), the report claim's grant (R108, R154), the digit sender and
ringback (R96, R100, R155), the closing reasons (R67), and the posts, events, image rewrites and free
choices that follow. Two states with equal steady parts have every other field equal. -/
def steady (s : State) : State :=
  { s with
    gate := { s.gate with guardA := false, guardB := false, queue := [], waiters := [] },
    ev := { s.ev with
      w := 0, dropped := 0, seq := 0, guardFlag := false, guardIdx := 0, outbox := [] },
    tally := { s.tally with forfeited := 0, bank := none, edition := 0 },
    cal := { s.cal with band := 0 },
    img := State.reset.img,
    tariff := { s.tariff with active := none, swap := .idle },
    coin := { s.coin with
      reasons := 0, lane := .clear, gatePos := .hold, dropTimer := none, request := .idle,
      deposited := 0, purseFig := .absent,
      passages := s.coin.passages.map (fun p => { p with late := false }) },
    meter := { s.meter with purse := Purse.none, demand := .idle },
    call := { s.call with
      station := .idle, mode := .closed, dialQueue := [], cur := none, claim := .free,
      reportClaim := none, creditTimer := none, answerTimer := none, interDigit := none },
    line := { s.line with
      state := .released, seize := false, waiting := false, loopTimer := none, loss := none,
      answerP := none, sender := none },
    tamper := { s.tamper with lossTimer := none },
    report := { s.report with
      due := false, phase := .noCall, dialled := [], toDial := [], symbols := [], seized := false,
      start := zeroFull, clockInvalid := false, answered := false, wait := 0, talk := 0, band := 0,
      answerTimer := none, ackTimer := none },
    fresh := 0 }

/-- The command `c` at `s` answers a next state whose steady part is that of `u`. -/
def leads (c : Instr) (s u : State) : Prop := ∃ t, exec c s = .next t ∧ steady t = steady u

/-- As `leads`, with more said of the next state. -/
def leadsWith (c : Instr) (s u : State) (P : State → Prop) : Prop :=
  ∃ t, exec c s = .next t ∧ steady t = steady u ∧ P t

/-! ### What the statements suppose and conclude -/

/-- No report call is under way and no attempt is due. -/
abbrev noReport (s : State) : Prop := s.report.due = false ∧ s.report.phase = .noCall

/-- The Post Queue has places for what one step gives, and nobody waits (R12). -/
abbrev roomy (s : State) : Prop := s.gate.waiters = [] ∧ s.gate.queue.length ≤ 8

/-- From `s` to `t` the Post Queue only grew, and `e` is among the entries appended. -/
def posted (e : PostEntry) (s t : State) : Prop :=
  s.gate.queue <+: t.gate.queue ∧ e ∈ t.gate.queue.drop s.gate.queue.length

/-- The part is RUNNING and the Order Unit holds the contents `d` of slot `n`, whose order code is
`code` (R21, R22). -/
abbrev orderAt (code : Nat) (n : Fin 16) (d : List Byte) (s : State) : Prop :=
  s.sys.part = .running ∧ s.orders.busy = some n ∧ s.orders.data = some d ∧ natAt d 0 = code

/-- An address lies in none of the four images of a profile, as check 4 of R4 keeps the areas apart. -/
abbrev outsideImages (p : Profile) (a : Nat) : Prop :=
  ∀ i, a < imageBase p i ∨ imageBase p i + imageLen i + 2 ≤ a

/-- From `s` to `t` the Post Queue only grew, and the entries `es` were appended one behind another with
nothing between them. -/
def postedTogether (es : List PostEntry) (s t : State) : Prop :=
  ∃ l l', t.gate.queue = s.gate.queue ++ l ++ es ++ l'

/-- The run of an outcome: bytes 28 to 31 of slot `n`, carrying the outcome code, the detail and the
state DONE (R23). -/
def outcomeRun (p : Profile) (n : Fin 16) (code detail : Nat) : PostEntry :=
  .write (p.slotsBase + 32 * n.val + 28)
    [BitVec.ofNat 8 code, BitVec.ofNat 8 detail, BitVec.ofNat 8 (detail / 256), 3] (.slotDone n)

/-- The order in slot `n` is answered: its outcome run is given (R23). -/
def answered (n : Fin 16) (code detail : Nat) (s t : State) : Prop :=
  ∃ p, s.gate.profile = some p ∧ posted (outcomeRun p n code detail) s t

/-- The order in slot `n` is answered in its turn: its outcome run is given, or waits in line behind a
rewrite given before it that has filled the queue (R12, R23). -/
def answeredInTurn (n : Fin 16) (code detail : Nat) (s t : State) : Prop :=
  ∃ p, s.gate.profile = some p ∧ s.gate.queue <+: t.gate.queue
    ∧ (outcomeRun p n code detail ∈ t.gate.queue.drop s.gate.queue.length
      ∨ ∃ w ∈ t.gate.waiters, w.who = .orderUnit
          ∧ .entry (outcomeRun p n code detail) ∈ w.items)

/-- The passages keep their order, classes and windows. Whether one's coin belongs to a purse closed by
now is the model's own note (log 40) and may change. -/
def passagesKept (s t : State) : Prop :=
  t.coin.passages.map (fun x => (x.cls, x.window)) = s.coin.passages.map (fun x => (x.cls, x.window))

/-- The order's contents are put by as the order is answered. -/
def answering (s : State) : State := { s with orders := { s.orders with data := none } }

/-- The head of the Post Queue is a read run of a requester, wholly carried out by this command, with
no station-processor cycle held; `d` is what it has read (R13). -/
def handed (who : Requester) (d : List Byte) (s : State) : Prop :=
  ∃ a n q, s.gate.queue = .read a n who :: q ∧ s.gate.held = []
    ∧ d = s.gate.buf ++ Memory.readRun s.mem (a + s.gate.done) (n - s.gate.done)

/-- The state once the head entry has left the queue (R13). -/
def headGone (s : State) : State :=
  { s with gate := { s.gate with queue := s.gate.queue.tail, done := 0, buf := [] } }

/-- The order code byte of slot `n` reaches the gate as that slot's watched byte: what the statements
about posting and freeing suppose of the map. -/
abbrev watchedSlot (s : State) (p : Profile) (n : Fin 16) : Prop :=
  s.sys.part = .running ∧ s.sys.waitRestart = false ∧ s.gate.profile = some p
    ∧ suppressed s = false ∧ s.gate.held = [] ∧ p.slotsBase + 512 ≤ 0xFFF0
    ∧ s.gate.slotGuard.getLsbD n.val = false ∧ roomy s

/-- The caller's or an incoming call is over with the station in `x`: no call in progress, the claim
NONE, the Dial Queue empty, no timer of the call running, nothing metered, a settlement due at its end
begun; the line, if it was seized, in CLEARING with SEIZE open and the guard running; a seized call's
record has taken the next call sequence number (R102, R115, R126, R164). -/
def callOver (x : Station) (s t : State) : Prop :=
  t.call.station = x ∧ t.call.cur = none ∧ t.call.claim = .free ∧ t.call.dialQueue = []
    ∧ t.call.creditTimer = none ∧ t.call.answerTimer = none ∧ t.call.interDigit = none
    ∧ t.meter.metered = none ∧ t.meter.units = 0 ∧ t.meter.charge = 0 ∧ t.meter.warnTimer = none
    ∧ (s.call.cur.any (·.settleDue) = true → t.meter.purse.state ≠ .opened)
    ∧ (s.line.state ≠ .released → s.line.state ≠ .clearing →
        t.line.state = .clearing ∧ t.line.seize = false ∧ t.line.sender = none
          ∧ t.line.guard = some (param (·.guardS) s * 1000))
    ∧ (∀ c, s.call.cur = some c →
        t.ring.seq = if c.seized then (s.ring.seq + 1) % 65536 else s.ring.seq)

/-- The incoming call at `s` is taken in `t`: TALKING IN with the claim INCOMING, a call in progress of
no zone, and a seizure made, or waiting for the clearing guard (R105, R110). -/
def takenIn (s t : State) : Prop :=
  t.call.station = .talkingIn ∧ t.call.claim = .incoming ∧ t.call.hook = true
    ∧ (∃ c, t.call.cur = some c ∧ c.kind = .incoming ∧ c.zone = none ∧ c.number = []
        ∧ c.answered = false)
    ∧ (s.line.state = .released → t.line.state = .seizing ∧ t.line.seize = true)
    ∧ (s.line.state = .clearing → t.line.state = .clearing ∧ t.line.waiting = true)

/-- From `s` to `t` channel `ch` has tripped: steps 1 to 6 of R135, the severity of R144, and the status
of R145. A trip that calls for no report leaves the status as it was, unless it is one of DOOR, CASE or
SLOT in an open force window, where FORCE's report can begin a round that queues a failed entry again
(R143, R152). -/
def tripped (ch : Channel) (p : Profile) (s t : State) : Prop :=
  ∃ trips sev, trips = min 65535 ((getChan ch s).trips + 1)
    ∧ sev = min 3 (baseSeverity p ch + if 3 ≤ trips then 1 else 0)
    ∧ (getChan ch t).state = .active ∧ (getChan ch t).trips = trips
    ∧ (getChan ch t).last = s.cal.time.short
    ∧ (getChan ch t).first
        = (if (getChan ch s).trips = 0 then s.cal.time.short else (getChan ch s).first)
    ∧ (getChan ch t).severity = sev
    ∧ (1 ≤ p.threshold ∧ p.threshold ≤ sev → (getChan ch t).status = .queued)
    ∧ (¬ (1 ≤ p.threshold ∧ p.threshold ≤ sev) →
        (ch ≠ .door ∧ ch ≠ .case ∧ ch ≠ .slot) ∨ s.tamper.force = none
          ∨ (∀ e ∈ s.report.queue, e.failed = false) →
        (getChan ch t).status = (getChan ch s).status)

/-! ### What the areas' bytes say (section 13.2, 13.5, 13.6) -/

/-- The byte at an offset. -/
def u8 (bs : List Byte) (i : Nat) : Nat := (bs.getD i 0).toNat

/-- The two-byte field at an offset, least significant byte first. -/
def u16 (bs : List Byte) (i : Nat) : Nat := u8 bs i + 256 * u8 bs (i + 1)

/-- The three-byte field at an offset. -/
def u24 (bs : List Byte) (i : Nat) : Nat := u16 bs i + 65536 * u8 bs (i + 2)

/-- The four-byte field at an offset. -/
def u32 (bs : List Byte) (i : Nat) : Nat := u16 bs i + 65536 * u16 bs (i + 2)

/-- The packed time at an offset (section 13.1). -/
def packedAt (bs : List Byte) (i : Nat) : ShortTime :=
  ⟨u32 bs i / 4194304 % 16, u32 bs i / 131072 % 32, u32 bs i / 4096 % 32, u32 bs i / 64 % 64,
    u32 bs i % 64⟩

/-- The word of a packed time with `extra` in bits 26 to 31 (section 13.1). -/
def packedWord (t : ShortTime) (extra : Nat) : Nat :=
  t.second % 64 + 64 * (t.minute % 64) + 4096 * (t.hour % 32) + 131072 * (t.day % 32)
    + 4194304 * (t.month % 16) + 67108864 * (extra % 64)

/-- Digit code `j` of the packed digits at an offset, the first in the low half (section 0.5.4). -/
def digitCode (bs : List Byte) (i j : Nat) : Nat :=
  if j % 2 = 0 then u8 bs (i + j / 2) % 16 else u8 bs (i + j / 2) / 16

/-- Code `j` of a number of fewer codes than its field holds is the filler past its last (R186). -/
def codeOr (ds : List Nat) (j : Nat) : Nat := if j < ds.length then ds.getD j 0 % 16 else 15

/-- The timing parameters of a profile, each with the bounds of its range (R6, section 13.2). -/
def timingBounds : List (Nat × Nat × Nat) :=
  [(86, 100, 1500), (88, 200, 2000), (90, 1, 10), (92, 1, 10), (94, 4, 30), (96, 10, 120),
    (98, 30, 180), (100, 1, 5), (102, 30, 600), (104, 10, 120), (106, 1, 50), (108, 30, 300)]

/-- Some field of a profile is out of its range, so that it is replaced (R6). -/
abbrev someFieldOut (bs : List Byte) : Prop :=
  (∃ x ∈ timingBounds, u16 bs x.1 < x.2.1 ∨ x.2.2 < u16 bs x.1)
    ∨ 3 < u8 bs 44 ∨ (∃ i < 7, 3 < u8 bs (45 + i)) ∨ 16 < u8 bs 52 ∨ 16 < u8 bs 61
    ∨ (∃ j < min 16 (u8 bs 52), 12 < digitCode bs 53 j)
    ∨ (∃ j < min 16 (u8 bs 61), 12 < digitCode bs 62 j)
    ∨ (u8 bs 41 ≠ 1 ∧ u8 bs 41 ≠ 2) ∨ (u8 bs 43 ≠ 1 ∧ u8 bs 43 ≠ 2)

/-- The nine areas a profile names, base and length (section 13.2). -/
def areas (bs : List Byte) : List (Nat × Nat) :=
  [(u16 bs 5, 512), (u16 bs 7, 528), (u16 bs 9, 2576), (u16 bs 11, 16), (u16 bs 13, 96),
    (u16 bs 15, 192), (u16 bs 17, 144), (u16 bs 19, 2048), (u16 bs 21, 2048)]

/-- Each area lies below 0xFFF0 and no two share a byte, the profile page among them (check 4 of R4). -/
abbrev areasFit (page : Nat) (bs : List Byte) : Prop :=
  (∀ x ∈ areas bs, x.1 + x.2 ≤ 0xFFF0)
    ∧ ((page * 256, 256) :: areas bs).Pairwise (fun x y => x.1 + x.2 ≤ y.1 ∨ y.1 + y.2 ≤ x.1)

/-- Every accepted class has a value from 1 to 5000 (check 5 of R4). -/
abbrev classesFit (bs : List Byte) : Prop :=
  ∀ i < 6, u8 bs (25 + 3 * i) ≠ 0 → 1 ≤ u16 bs (23 + 3 * i) ∧ u16 bs (23 + 3 * i) ≤ 5000

/-- The station number's codes are 0 to 9 (check 6 of R4). -/
abbrev stationFits (bs : List Byte) : Prop := ∀ j < 8, digitCode bs 1 j ≤ 9

/-- Each emergency number is unused or has 2 to 6 codes, each 0 to 9 (check 7 of R4). -/
abbrev emergencyFits (bs : List Byte) : Prop :=
  ∀ i < 4, u8 bs (70 + 4 * i) = 0 ∨ (2 ≤ u8 bs (70 + 4 * i) ∧ u8 bs (70 + 4 * i) ≤ 6
    ∧ ∀ j < u8 bs (70 + 4 * i), digitCode bs (71 + 4 * i) j ≤ 9)

/-- The checks of a zone record (section 3 of R55). -/
abbrev zoneFits (bs : List Byte) (i : Nat) : Prop :=
  1 ≤ u8 bs (16 + 12 * i) ∧ u8 bs (16 + 12 * i) ≤ 4 ∧ u16 bs (17 + 12 * i) ≤ 9999
    ∧ u16 bs (19 + 12 * i) ≤ 9999 ∧ 1 ≤ u16 bs (21 + 12 * i) ∧ u16 bs (21 + 12 * i) ≤ 6000
    ∧ u16 bs (23 + 12 * i) ≤ 600 ∧ 3 ≤ u8 bs (25 + 12 * i) ∧ u8 bs (25 + 12 * i) ≤ 20

/-- The checks of a prefix entry (section 4 of R55). -/
abbrev prefixFits (bs : List Byte) (i : Nat) : Prop :=
  1 ≤ u8 bs (208 + 6 * i) ∧ u8 bs (208 + 6 * i) ≤ 8
    ∧ (∀ j < u8 bs (208 + 6 * i), digitCode bs (209 + 6 * i) j ≤ 9)
    ∧ u8 bs (213 + 6 * i) < u8 bs 2

/-- Two prefix entries have the same count and digits (section 5 of R55). -/
abbrev prefixesEqual (bs : List Byte) (i j : Nat) : Prop :=
  u8 bs (208 + 6 * i) = u8 bs (208 + 6 * j)
    ∧ ∀ k < u8 bs (208 + 6 * i), digitCode bs (209 + 6 * i) k = digitCode bs (209 + 6 * j) k

/-- The checks of a band entry (section 6 of R55). -/
abbrev bandFits (bs : List Byte) (i : Nat) : Prop :=
  u8 bs (976 + 8 * i) < 128 ∧ u8 bs (977 + 8 * i) ≤ 31 ∧ u8 bs (978 + 8 * i) ≤ 12
    ∧ u16 bs (979 + 8 * i) ≤ 1439 ∧ u16 bs (981 + 8 * i) ≤ 1440 ∧ u8 bs (983 + 8 * i) ≤ 7

/-- The header fields of a bank are in their ranges (section 2 of R55). -/
abbrev headerFits (bs : List Byte) : Prop :=
  1 ≤ u8 bs 2 ∧ u8 bs 2 ≤ 16 ∧ u8 bs 3 ≤ 128 ∧ u8 bs 4 ≤ 16 ∧ 1 ≤ u8 bs 6 ∧ u8 bs 6 ≤ 250
    ∧ u8 bs 5 < u8 bs 2

/-- The escrow count of a Live Image. -/
def escrowCount (bs : List Byte) : Nat := u16 bs 5 / 1024 % 16

/-- The value and the class of entry `i` of a Live Image. -/
def escrowAt (bs : List Byte) (i : Nat) : Nat × Nat :=
  (u16 bs (28 + 2 * i) % 8192, u16 bs (28 + 2 * i) / 8192)

/-- A Live Image's purse figures are in their ranges and in balance (R117, R184). -/
abbrev purseFits (bs : List Byte) : Prop :=
  u24 bs 9 ≤ 10004999 ∧ u24 bs 12 ≤ 9999999 ∧ u24 bs 15 ≤ 9999999 ∧ u24 bs 18 ≤ 9999999
    ∧ u24 bs 21 ≤ 9999999
    ∧ (u8 bs 2 % 4 = 0 → u24 bs 9 = 0 ∧ u24 bs 12 = 0 ∧ u24 bs 15 = 0 ∧ u24 bs 18 = 0
        ∧ u24 bs 21 = 0)
    ∧ (u8 bs 2 % 4 ≠ 0 → u24 bs 9 = u24 bs 15 + u24 bs 18 + u24 bs 21
        + ((List.range (escrowCount bs)).map (fun i => (escrowAt bs i).1)).sum)

/-! ### Where what the part writes stands (R186, sections 13.4 and 13.5) -/

/-- The zone bits of a call in an image: the zone, or the none flag over bits 0 to 3 at 0 (log 63). -/
def zoneNibble : Option Nat → Nat
  | none => 16
  | some z => z % 16

/-- The bytes `b` are the call record `c` (section 13.4). -/
abbrev callLaid (c : CallRecord) (b : List Byte) : Prop :=
  b.length = 40 ∧ u16 b 0 = c.seq % 65536 ∧ u8 b 2 = callKindCode c.kind
    ∧ u8 b 3 = outcomeCode c.outcome ∧ u8 b 4 = (c.zone.getD 255) % 256
    ∧ u8 b 5 = c.digitCount % 256 ∧ (∀ j < 20, digitCode b 6 j = codeOr c.digits j)
    ∧ u8 b 16 = c.start.year % 256 ∧ u8 b 17 = c.start.month % 256 ∧ u8 b 18 = c.start.day % 256
    ∧ u8 b 19 = c.start.hour % 256 ∧ u8 b 20 = c.start.minute % 256
    ∧ u8 b 21 = c.start.second % 256 ∧ u16 b 22 = min 65535 c.wait
    ∧ u32 b 24 = min 4294967295 c.talk ∧ u16 b 28 = min 65535 c.units
    ∧ u24 b 30 = min 16777215 c.charge ∧ u24 b 33 = min 16777215 c.credit
    ∧ u16 b 36 = c.edition % 65536
    ∧ u8 b 38 = c.band.toNat + (if c.clockInvalid then 8 else 0)
        + (if 20 < c.digitCount then 16 else 0) + (if c.gatePassed then 32 else 0)
    ∧ u8 b 39 = 0

/-- The call in progress in bytes 57 to 72 of a Live Image, zeros where there is none; the wait is 0 until
the answer (log 38), and the zone bits are 0 beside the none flag (log 63). -/
abbrev liveCallLaid (s : State) (f : List Byte) : Prop :=
  (s.call.cur = none → ∀ k < 16, u8 f (57 + k) = 0)
    ∧ (∀ c, s.call.cur = some c →
      u8 f 57 = callKindCode c.kind + (if c.seized then 8 else 0) + (if c.gatePassed then 16 else 0)
          + 32 * c.band.toNat
      ∧ u8 f 58 = zoneNibble c.zone + (if c.edition = 0 then 32 else 0)
      ∧ u32 f 59 = packedWord c.start.short
          (c.number.length % 32 + if c.clockInvalid then 32 else 0)
      ∧ u16 f 63 = (if c.answered then min 65535 c.wait else 0)
      ∧ u24 f 65 = min 16777215 c.talk ∧ u16 f 68 = min 65535 s.meter.units
      ∧ u24 f 70 = min 16777215 s.meter.charge)

/-- The pending record in bytes 73 to 94 of a Live Image, zeros where the slot is empty; the zone bits are 0
beside the none flag (log 63). -/
abbrev livePendingLaid (s : State) (f : List Byte) : Prop :=
  (s.ring.slot = none → ∀ k < 22, u8 f (73 + k) = 0)
    ∧ (∀ c, s.ring.slot = some c →
      u16 f 73 = c.seq % 65536 ∧ u8 f 75 = callKindCode c.kind + 8 * outcomeCode c.outcome + 128
      ∧ u8 f 76 = zoneNibble c.zone + (if 20 < c.digitCount then 32 else 0)
          + (if c.gatePassed then 64 else 0) + (if c.edition = 0 then 128 else 0)
      ∧ u32 f 77 = packedWord c.start.short
          (c.digitCount % 32 + if c.clockInvalid then 32 else 0)
      ∧ u16 f 81 = min 65535 c.wait ∧ u24 f 83 = min 16777215 c.talk
      ∧ u16 f 86 = min 65535 c.units ∧ u24 f 88 = min 16777215 c.charge
      ∧ u24 f 91 = min 16777215 c.credit ∧ u8 f 94 = c.band.toNat)

/-- The bytes `f`, the leading change count first, are the Live Image of `s` (section 13.5). -/
abbrev liveLaid (s : State) (f : List Byte) : Prop :=
  f.length = 95
    ∧ u8 f 1 = stationCode s.call.station + 16 * modeCode s.call.mode
        + (if s.call.ordered then 64 else 0) + (if s.img.final then 128 else 0)
    ∧ u8 f 2 = purseCode s.meter.purse.state + 4 * holdCode s.meter.purse.hold
        + 16 * laneCode s.coin.lane + (if s.coin.uncertain then 128 else 0)
    ∧ u8 f 3 = s.coin.arrival % 256
    ∧ u16 f 5 = s.coin.reasons.toNat + 1024 * (s.coin.escrow.length % 16)
        + 16384 * bankCode s.tally.bank
    ∧ u16 f 7 = s.tally.edition % 65536
    ∧ u24 f 9 = min 16777215 s.meter.purse.d ∧ u24 f 12 = min 16777215 s.meter.purse.c
    ∧ u24 f 15 = min 16777215 s.meter.purse.k ∧ u24 f 18 = min 16777215 s.meter.purse.r
    ∧ u24 f 21 = min 16777215 s.meter.purse.x
    ∧ (s.coin.escrow = [] → u8 f 4 = 0 ∧ u32 f 24 = 0)
    ∧ (∀ e, s.coin.escrow.head? = some e →
        u8 f 4 = e.seq % 256 ∧ u32 f 24 = packedWord e.time.short 0)
    ∧ (∀ i < 10, (s.coin.escrow[i]? = none → u16 f (28 + 2 * i) = 0)
        ∧ ∀ e, s.coin.escrow[i]? = some e →
            u16 f (28 + 2 * i) = e.value % 8192 + 8192 * (e.cls % 8))
    ∧ (∀ i < 9, (s.coin.escrow[i + 1]? = none → u8 f (48 + i) = 0)
        ∧ ∀ x, s.coin.escrow[i]? = some x → ∀ y, s.coin.escrow[i + 1]? = some y →
            secondsOf x.time ≤ secondsOf y.time →
            u8 f (48 + i) = min 255 (secondsOf y.time - secondsOf x.time))
    ∧ liveCallLaid s f ∧ livePendingLaid s f

/-- A visit record at offset `o` (section 13.5). -/
abbrev visitLaid (v : VisitRecord) (f : List Byte) (o : Nat) : Prop :=
  u8 f o = visitKindCode v.kind + (if v.left then 64 else 0) + (if v.lapsed then 128 else 0)
    ∧ (∀ j < 4, digitCode f (o + 1) j = codeOr v.collector j)
    ∧ u32 f (o + 3) = packedWord v.opened 0 ∧ u32 f (o + 7) = packedWord v.closed 0
    ∧ u24 f (o + 11) = min 16777215 v.value ∧ u16 f (o + 14) = min 65535 v.coins

/-- The visit in progress in bytes 98 to 122 of a Tally Area; the kind is 0 while there is none (log 4),
and a sum past its field is the field's largest (log 47). -/
abbrev visitNowLaid (v : Visit) (f : List Byte) : Prop :=
  u8 f 98 = visitStateCode v.state
    ∧ u8 f 99 = (if v.state = .closed then 0 else visitKindCode v.kind) + (if v.left then 128 else 0)
    ∧ (∀ j < 4, digitCode f 100 j = codeOr v.collector j) ∧ u32 f 102 = packedWord v.opened 0
    ∧ u24 f 106 = min 16777215 v.value ∧ u16 f 109 = min 65535 v.coins
    ∧ ∀ i < 6, u16 f (111 + 2 * i) = min 65535 (v.noted.getD i 0)

/-- The bytes `f`, the leading change count first, are the Tally Area of `s` (section 13.5). -/
abbrev tallyLaid (s : State) (f : List Byte) : Prop :=
  f.length = 191
    ∧ (∀ i : Fin 6, u16 f (1 + 8 * i.val) = min 65535 s.tally.classes[i].accepted
        ∧ u16 f (3 + 8 * i.val) = min 65535 s.tally.classes[i].collected
        ∧ u16 f (5 + 8 * i.val) = min 65535 s.tally.classes[i].returned
        ∧ u16 f (7 + 8 * i.val) = min 65535 s.tally.classes[i].cleared)
    ∧ u24 f 49 = min 16777215 s.tally.boxValue ∧ u16 f 52 = min 65535 s.tally.boxCoins
    ∧ u16 f 54 = min 65535 s.tally.stranded ∧ u16 f 56 = min 65535 s.tally.foreign
    ∧ u16 f 58 = min 65535 s.tally.refused ∧ u16 f 60 = min 65535 s.tally.unattended
    ∧ u16 f 62 = min 65535 s.tally.fault ∧ u16 f 64 = min 65535 s.tally.flushed
    ∧ u8 f 66 = (if s.coin.uncertain then 1 else 0)
    ∧ (∀ i : Fin 5, u16 f (67 + 2 * i.val) = min 65535 s.tally.kinds[i])
    ∧ u24 f 77 = min 16777215 s.tally.chargeTotal ∧ u24 f 80 = min 16777215 s.tally.forfeited
    ∧ u16 f 83 = min 65535 s.tally.refusedHost ∧ u16 f 85 = min 65535 s.tally.lineLost
    ∧ u16 f 87 = min 65535 s.tally.stray ∧ u16 f 89 = min 65535 s.tally.notKept
    ∧ u16 f 91 = min 65535 s.tally.visits ∧ u8 f 93 = bankCode s.tally.bank
    ∧ u16 f 94 = s.tally.edition % 65536 ∧ u16 f 96 = s.ring.seq % 65536
    ∧ visitNowLaid s.visit f
    ∧ (∀ i < 4, (s.tally.history[i]? = none → ∀ k < 16, u8 f (123 + 16 * i + k) = 0)
        ∧ ∀ v, s.tally.history[i]? = some v → visitLaid v f (123 + 16 * i))
    ∧ ∀ k < 4, u8 f (187 + k) = 0

/-- The bytes `f`, the leading change count first, are the Tamper Area of `s` (section 13.5). Byte 15 of
the last record is the trailing change count. -/
abbrev tamperLaid (s : State) (f : List Byte) : Prop :=
  f.length = 143 ∧ u8 f 1 = min 255 s.tamper.shockCount
    ∧ u8 f 2 = (if s.tamper.force.isSome then 1 else 0)
    ∧ u8 f 3 = ([Channel.door, .case, .cord, .shock, .slot, .lane, .line, .force].filter
        (fun ch => (getChan ch s).state != .quiet)).length
    ∧ (∀ k < 12, u8 f (4 + k) = 0)
    ∧ ∀ (ch : Channel) (o : Nat), o = 16 * channelCode ch →
      u8 f o = chanStateCode (getChan ch s).state
      ∧ u8 f (o + 1) = (getChan ch s).severity % 256
      ∧ u16 f (o + 2) = min 65535 (getChan ch s).trips
      ∧ u32 f (o + 4) = packedWord (getChan ch s).first 0
      ∧ u32 f (o + 8) = packedWord (getChan ch s).last 0
      ∧ u16 f (o + 12) = (getChan ch s).raw.toNat
      ∧ u8 f (o + 14) = repStatusCode (getChan ch s).status
      ∧ (ch ≠ .force → u8 f (o + 15) = 0)

/-- A Live Image is usable (R184, R188). -/
abbrev imageUsable (bs : List Byte) : Prop :=
  u8 bs 0 = u8 bs 95 ∧ u8 bs 0 % 2 = 0 ∧ u8 bs 1 % 16 ≤ 8 ∧ u8 bs 1 / 16 % 4 ≤ 2
    ∧ u8 bs 2 / 16 % 8 ≤ 4 ∧ escrowCount bs ≤ 10 ∧ (escrowCount bs ≠ 0 → u8 bs 4 ≠ 0)
    ∧ (∀ i < escrowCount bs, (escrowAt bs i).2 ≤ 6
        ∧ ((escrowAt bs i).2 = 0 → (escrowAt bs i).1 = 0))
    ∧ purseFits bs ∧ u16 bs 5 / 16384 ≤ 2
    ∧ (128 ≤ u8 bs 75 → 1 ≤ u8 bs 75 % 8 ∧ u8 bs 75 % 8 ≤ 5 ∧ 1 ≤ u8 bs 75 / 8 % 16
        ∧ u8 bs 75 / 8 % 16 ≤ 14)
    ∧ u8 bs 57 % 8 ≤ 5

end Sys2Proof.Safety
end

