-- ==== Sys2Proof/Certificates/Slice0/Obligations.lean ====
section
/-! DEFINITION. The statements for the provers. -/
open Sys2Proof Sys2Proof.Machine Sys2Proof.Safety

/-! ### The whole machine -/

/-- A step with commands waiting is the effect of the command at the front on the state with the
queue's rest (the model's convention, log 1). -/
def Obligations.StepRunsTheFrontCommand : Prop :=
  ∀ (c : Instr) (l : List Instr) (s : State), s.pending = c :: l →
    step s = exec c { s with pending := l }

/-- What entry to STARTING at a cold power-on leaves (R18, R28, R41, R62, R85, R88, R115, R134, R163),
and the tamper channels, QUIET with no trips, no times, no raw edges and no report, every window closed
and every timer stopped (R149). That the model begins there is its own choice (log 1). -/
def Obligations.ResetIsAColdStart : Prop :=
  let s := State.reset
  s.sys.part = .starting ∧ s.sys.kind = .cold
    ∧ s.gate.profile = none ∧ s.gate.slotGuard = 0 ∧ s.gate.guardA = false ∧ s.gate.guardB = false
    ∧ s.gate.inhibit = false ∧ s.gate.held = [] ∧ s.gate.waiters = []
    ∧ s.orders.slots = Vector.replicate 16 .free ∧ s.orders.queue = []
    ∧ s.ev.w = 0 ∧ s.ev.r = 0 ∧ s.ev.dropped = 0 ∧ s.ev.seq = 0 ∧ s.ev.guardFlag = false
    ∧ s.ev.attn = false ∧ s.ev.announced = false
    ∧ s.cal.time = ⟨0, 1, 1, 0, 0, 0⟩ ∧ s.cal.sub = 0 ∧ s.cal.weekday = 6 ∧ s.cal.valid = false
    ∧ s.cal.band = 0
    ∧ s.tariff.active = none ∧ s.tariff.swap = .idle
    ∧ s.coin.passages = [] ∧ s.coin.arrival = 1 ∧ s.coin.request = .idle
    ∧ s.coin.inhibits = 0b111111
    ∧ s.meter.purse = ⟨.absent, 0, 0, 0, 0, 0, .nothing⟩ ∧ s.meter.metered = none
    ∧ s.meter.demand = .idle ∧ s.meter.warnTimer = none
    ∧ s.call.station = .idle ∧ s.call.hook = false ∧ s.call.mode = .closed
    ∧ s.call.ordered = false ∧ s.call.dialQueue = [] ∧ s.call.cur = none ∧ s.call.claim = .free
    ∧ s.call.reportClaim = none
    ∧ s.line.state = .released ∧ s.line.seize = false
    ∧ s.report.queue = [] ∧ s.report.round = .noRound
    ∧ (∀ ch, (getChan ch s).state = .quiet ∧ (getChan ch s).trips = 0
        ∧ (getChan ch s).first = ⟨0, 0, 0, 0, 0⟩ ∧ (getChan ch s).last = ⟨0, 0, 0, 0, 0⟩
        ∧ (getChan ch s).raw = 0 ∧ (getChan ch s).status = .idle)
    ∧ s.tamper.shockWindow = none ∧ s.tamper.shockCount = 0 ∧ s.tamper.quiet = none
    ∧ s.tamper.slotBlock = none ∧ s.tamper.slotClear = none ∧ s.tamper.lossTimer = none
    ∧ s.tamper.presentTimer = none ∧ s.tamper.force = none

/-- The reset state meets the invariants below: the calendar is in its ranges (R37, R38, R43), the escrow
list holds at most 10 entries (R76), the Post Queue at most 16 (R12), the Event Ring at most 32 unread
records and the Call Record Ring at most 64 (R30, R165), and the memory is in its canonical form. That form
is the model's own (log 2), and so is that the model begins in this state (log 1). -/
def Obligations.ResetMeetsTheInvariants : Prop :=
  memoryKept State.reset ∧ calendarInRange State.reset ∧ laneHolds State.reset
    ∧ postsHold State.reset ∧ ringsHold State.reset

/-- Every step keeps the memory in canonical form. The canonical form is the model's own (log 2).
-/
def Obligations.MemoryStaysCanonical : Prop :=
  ∀ s t : State, memoryKept s → step s = .next t → memoryKept t

/-- Every step keeps the Calendar's counters in their ranges (chapter 3, R38, R43). -/
def Obligations.CalendarStaysInRange : Prop :=
  ∀ s t : State, calendarInRange s → step s = .next t → calendarInRange t

/-- The escrow list never holds more than ten entries (R76). -/
def Obligations.EscrowNeverPassesTen : Prop :=
  ∀ s t : State, laneHolds s → step s = .next t → laneHolds t

/-- The Post Queue never holds more than sixteen entries (R12). -/
def Obligations.PostQueueNeverPassesSixteen : Prop :=
  ∀ s t : State, postsHold s → step s = .next t → postsHold t

/-- The Event Ring never holds more than 32 unread records, the Call Record Ring never more than 64
(R30, R165, R167). -/
def Obligations.RingsNeverOverfill : Prop :=
  ∀ s t : State, ringsHold s → step s = .next t → ringsHold t

/-- No command faults, is refused, or touches the queue of commands behind it (log 34). -/
def Obligations.EveryCommandCompletes : Prop :=
  ∀ (c : Instr) (s : State), ∃ t, exec c s = .next t ∧ t.pending = s.pending

/-! ### Arithmetic -/

/-- The effective unit charge (R119): U times M over 100 rounded up, then up to a multiple of Q;
its greatest value; and the multiplier the Metering Unit takes. -/
def Obligations.UnitChargeRoundsUp : Prop :=
  (∀ u m q, u ≤ 9999 → 25 ≤ m → m ≤ 400 → 1 ≤ q → q ≤ 250 →
    (u * m ≤ 100 * rawCharge u m ∧ 100 * rawCharge u m < u * m + 100)
    ∧ q ∣ unitCharge u m q ∧ rawCharge u m ≤ unitCharge u m q
    ∧ (∀ k, q ∣ k → rawCharge u m ≤ k → unitCharge u m q ≤ k)
    ∧ unitCharge u m q < rawCharge u m + q
    ∧ (u = 0 → rawCharge u m = 0 ∧ unitCharge u m q = 0)
    ∧ (m = 100 → rawCharge u m = u)
    ∧ rawCharge u m ≤ 39996 ∧ unitCharge u m q ≤ 40222)
  ∧ unitCharge 9999 400 238 = 40222
  ∧ (∀ (m : Metered) (s : State),
      nextCharge m s = unitCharge m.u (if m.timed then bandMult s s.cal.band else 100) m.q)

/-- A tenth tick below the carry (R37): the sub-second count rises by 1; while RUNNING the drop,
clearing guard, force, next attempt, visit and hook timers lose 100 ms and the call timers of a
metered, ringing or answered call rise by a tenth (R100, R101, R121); memory, counts and orders are
left. The talk duration that rises is handed over for the Live Image, whose rewrite is given with that
field (R14, R88); a tenth at which no call timer rises gives nothing, nor does the wait of a call not
answered, which the image shows as 0 (log 38; that a cause changing no field gives no rewrite is log
12). A second carry (R37, R38), from second to minute to hour to day, month and year, with the weekday
and the flag, and the year wrap with its weekday and cleared flag (R39, R40); in every part state. The
weekday computed from a date (R39) follows the day carry (R38): one more each day, from Saturday to
Sunday, and Saturday after the year wrap; with the two dates R39 works out. Timers are held in
milliseconds (log 6). -/
def Obligations.CalendarCountsTicksAndSeconds : Prop :=
  (∀ s : State, s.cal.sub < 9 →
     ∃ t, exec .tenthTick s = .next t ∧ t.cal = { s.cal with sub := s.cal.sub + 1 }
       ∧ t.mem = s.mem ∧ t.tally = s.tally ∧ t.orders = s.orders ∧ t.ev = s.ev
       ∧ t.coin.escrow = s.coin.escrow ∧ t.meter.purse = s.meter.purse
       ∧ (s.sys.part ≠ .running → t.gate = s.gate ∧ t.coin = s.coin ∧ t.meter = s.meter ∧ t.call = s.call
           ∧ t.line = s.line ∧ t.tamper = s.tamper ∧ t.report = s.report)
       ∧ (s.sys.part = .running →
         t.meter.t = (if s.meter.metered.isSome then s.meter.t + 1 else s.meter.t)
         ∧ t.coin.dropTimer = s.coin.dropTimer.map (· - 100)
         ∧ t.line.guard = s.line.guard.map (· - 100)
         ∧ t.tamper.force = s.tamper.force.map (· - 100)
         ∧ t.report.nextDue = s.report.nextDue.map (· - 100)
         ∧ t.visit.timer = s.visit.timer.map (· - 100)
         ∧ t.call.hookTimer = s.call.hookTimer.map (· - 100)
         ∧ (s.call.station ≠ .ringback →
             (s.call.station ≠ .talking ∧ s.call.station ≠ .talkingIn)
               ∨ s.call.cur.any (·.answered) = false →
             t.gate = s.gate)
         ∧ ∀ c, s.call.cur = some c → (∃ c', t.call.cur = some c'
             ∧ c'.wait = (if s.call.station = .ringback then min 65535 (c.wait + 1) else c.wait)
             ∧ (s.call.station = .talking ∨ s.call.station = .talkingIn → c.answered = true →
                 c.talk < 4294967295 → c'.talk = c.talk + 1))
           ∧ (s.call.station = .ringback → c.answered = false →
               s.img.live.shown = liveFields s → t.gate = s.gate)
           ∧ (∀ p n, s.gate.profile = some p → roomy s → standing .live s < 2 →
               s.img.live = ⟨n, none, false, true, liveFields s⟩ →
               s.call.station = .talking ∨ s.call.station = .talkingIn → c.answered = true →
               c.talk < 16777215 →
               t.gate.queue = s.gate.queue
                 ++ [.write p.liveBase [n + 1] .plain,
                   .write (p.liveBase + 65) [BitVec.ofNat 8 (c.talk + 1),
                     BitVec.ofNat 8 ((c.talk + 1) / 256),
                     BitVec.ofNat 8 ((c.talk + 1) / 65536)] .plain,
                   .write (p.liveBase + 95) [n + 2] .plain,
                   .write p.liveBase [n + 2] (.imageEnd .live)])))
  ∧ (∀ s : State, s.cal.sub = 9 →
     ∃ t, exec .secondCarry s = .next t ∧ t.cal.sub = 0 ∧ t.mem = s.mem ∧ t.orders = s.orders
       ∧ t.coin.escrow = s.coin.escrow
       ∧ (s.cal.time.second < 59 →
           t.cal.time = { s.cal.time with second := s.cal.time.second + 1 }
           ∧ t.cal.weekday = s.cal.weekday ∧ t.cal.valid = s.cal.valid)
       ∧ (s.cal.time.second = 59 → s.cal.time.minute < 59 →
           t.cal.time = { s.cal.time with second := 0, minute := s.cal.time.minute + 1 }
           ∧ t.cal.weekday = s.cal.weekday ∧ t.cal.valid = s.cal.valid)
       ∧ (s.cal.time.second = 59 → s.cal.time.minute = 59 → s.cal.time.hour < 23 →
           t.cal.time = { s.cal.time with second := 0, minute := 0, hour := s.cal.time.hour + 1 }
           ∧ t.cal.weekday = s.cal.weekday ∧ t.cal.valid = s.cal.valid)
       ∧ (s.cal.time.second = 59 → s.cal.time.minute = 59 → s.cal.time.hour = 23 →
           t.cal.time.second = 0 ∧ t.cal.time.minute = 0 ∧ t.cal.time.hour = 0
           ∧ (s.cal.time.day < monthLength s.cal.time.year s.cal.time.month →
               t.cal.time.day = s.cal.time.day + 1 ∧ t.cal.time.month = s.cal.time.month
               ∧ t.cal.time.year = s.cal.time.year ∧ t.cal.valid = s.cal.valid
               ∧ t.cal.weekday = if s.cal.weekday < 6 then s.cal.weekday + 1 else 0)
           ∧ (s.cal.time.day = monthLength s.cal.time.year s.cal.time.month →
               s.cal.time.month < 12 →
               t.cal.time.day = 1 ∧ t.cal.time.month = s.cal.time.month + 1
               ∧ t.cal.time.year = s.cal.time.year ∧ t.cal.valid = s.cal.valid
               ∧ t.cal.weekday = if s.cal.weekday < 6 then s.cal.weekday + 1 else 0)
           ∧ (s.cal.time.day = 31 → s.cal.time.month = 12 → s.cal.time.year < 99 →
               t.cal.time.day = 1 ∧ t.cal.time.month = 1
               ∧ t.cal.time.year = s.cal.time.year + 1 ∧ t.cal.valid = s.cal.valid
               ∧ t.cal.weekday = if s.cal.weekday < 6 then s.cal.weekday + 1 else 0)
           ∧ (s.cal.time.day = 31 → s.cal.time.month = 12 → s.cal.time.year = 99 →
               t.cal.time = ⟨0, 1, 1, 0, 0, 0⟩ ∧ t.cal.weekday = 6 ∧ t.cal.valid = false)))
  ∧ ((∀ t : FullTime, timeFault t = none →
     weekdayOf (nextDay t).1 = if (nextDay t).2 then 6 else (weekdayOf t + 1) % 7)
   ∧ (∀ t : FullTime, weekdayOf t < 7)
   ∧ weekdayOf ⟨24, 3, 15, 0, 0, 0⟩ = 5 ∧ weekdayOf ⟨99, 12, 31, 0, 0, 0⟩ = 4)

/-- The match of a band entry (R48) and the current band, that of the first entry that matches
(R49). -/
def Obligations.BandOfTheFirstMatch : Prop :=
  (∀ (e : BandEntry) (c : Calendar), bandMatches e c = true ↔
    (e.days.getLsbD c.weekday = true ∧ (e.day = 0 ∨ e.day = c.time.day)
      ∧ (e.month = 0 ∨ e.month = c.time.month)
      ∧ (e.start < e.stop → e.start ≤ c.time.hour * 60 + c.time.minute
          ∧ c.time.hour * 60 + c.time.minute < e.stop)
      ∧ (e.stop < e.start → e.start ≤ c.time.hour * 60 + c.time.minute
          ∨ c.time.hour * 60 + c.time.minute < e.stop)))
  ∧ (∀ c : Calendar, chooseBand none c = 0)
  ∧ (∀ (bank : Bank) (t : Tables) (c : Calendar), c.valid = false →
      chooseBand (some (bank, t)) c = 0)
  ∧ (∀ (bank : Bank) (t : Tables) (c : Calendar), (∀ e ∈ t.bands, bandMatches e c = false) →
      chooseBand (some (bank, t)) c = 0)
  ∧ (∀ (bank : Bank) (t : Tables) (c : Calendar) (l : List BandEntry) (e : BandEntry)
      (l' : List BandEntry), c.valid = true → t.bands = l ++ e :: l' →
      (∀ f ∈ l, bandMatches f c = false) → bandMatches e c = true →
      chooseBand (some (bank, t)) c = e.band)

/-! ### Station-processor writes -/

/-- How the gate treats a byte while the part is RUNNING (R3, R8, R9, R10): the part's own anchor
bytes, the slots, the rings, a guarded bank, and an address in no area. -/
def Obligations.GateFollowsTheMap : Prop :=
  ∀ (s : State) (p : Profile) (a : Nat), s.sys.part = .running → s.gate.profile = some p →
    (a = 0xFFFE ∨ a = 0xFFFF → gateClass s a = .guarded)
    ∧ (a < 0xFFFE → ∀ n : Fin 16, ∀ k < 32, a = p.slotsBase + 32 * n.val + k →
        gateClass s a =
          if s.gate.slotGuard.getLsbD n.val then .guarded
          else if k = 0 then .orderCode n
          else if k < 28 then .plain
          else .guarded)
    ∧ (a < 0xFFFE → (a < p.slotsBase ∨ p.slotsBase + 512 ≤ a) →
        ∀ k < 528, a = p.eventsBase + k →
          gateClass s a = if k = 1 then .eventRead else .guarded)
    ∧ (a < 0xFFFE → (a < p.slotsBase ∨ p.slotsBase + 512 ≤ a) →
        (a < p.eventsBase ∨ p.eventsBase + 528 ≤ a) →
        ∀ k < 2576, a = p.callsBase + k →
          gateClass s a = if k = 1 then .callRead else .guarded)
    ∧ (a < 0xFFFE → (a < p.slotsBase ∨ p.slotsBase + 512 ≤ a) →
        (a < p.eventsBase ∨ p.eventsBase + 528 ≤ a) →
        (a < p.callsBase ∨ p.callsBase + 2576 ≤ a) →
        gateClass s a =
          if (p.clockBase ≤ a ∧ a < p.clockBase + 16) ∨ (p.liveBase ≤ a ∧ a < p.liveBase + 96)
            ∨ (p.tallyBase ≤ a ∧ a < p.tallyBase + 192)
            ∨ (p.tamperBase ≤ a ∧ a < p.tamperBase + 144)
            ∨ (s.gate.guardA = true ∧ p.bankABase ≤ a ∧ a < p.bankABase + 2048)
            ∨ (s.gate.guardB = true ∧ p.bankBBase ≤ a ∧ a < p.bankBBase + 2048)
          then .guarded else .plain)

/-- A write of a byte neither guarded nor watched reaches memory, which is unchanged elsewhere (R1). Of
the rest, what is said to stand is the steady part: every field that the judgments at the end of every
step never write. -/
def Obligations.PlainWriteReachesMemory : Prop :=
  ∀ (s : State) (a : Addr) (v : Byte), memoryKept s → suppressed s = false → s.gate.held = [] →
    s.gate.queue.length < 12 → gateClass s a.toNat = .plain →
    leadsWith (.stationProcessorWrite a v) s { s with mem := Memory.write s.mem a.toNat v }
      (fun t => ∀ x < 65536,
        Memory.read t.mem x = if x = a.toNat then v else Memory.read s.mem x)

/-- A guarded write leaves memory alone and is counted, the count saturating (R1, R11). A write of any
kind under the power-fail inhibit or HRESET is suppressed, not counted and not acted on (R1, R16, R17).
A write that arrives while the Post Queue holds 12 entries or more is held by WAIT, a watched byte's as
any other that is not guarded: an order code, a read index, the restart byte (R3, R8, R9, R15); a cycle
behind it waits too (log 9). A guarded write raises GUARD with the address and the value, its body
written and the guard-event flag set with the record's index, unless the flag is set; with the ring
full the event is dropped and counted and the flag stays clear (R11, R30, R32). Here GUARD is the
step's only event: the mode stands, no swap is pending, and no purse is there to be judged. -/
def Obligations.GuardedAndHeldWritesLeaveMemory : Prop :=
  (∀ (s : State) (a : Addr) (v : Byte), s.sys.part = .running → s.gate.inhibit = false →
     s.gate.hreset = false → s.gate.held = [] → gateClass s a.toNat = .guarded →
     leads (.stationProcessorWrite a v) s
       { s with tally := { s.tally with refusedHost := min 65535 (s.tally.refusedHost + 1) } })
  ∧ (∀ (s : State) (a : Addr) (v : Byte) (n : Fin 16),
     s.gate.inhibit = true ∨ s.gate.hreset = true →
     leads (.stationProcessorWrite a v) s s ∧ leads (.orderPosted n v) s s
       ∧ leads (.slotFreed n) s s ∧ leads (.restartByteWrite v) s s
       ∧ leads (.eventReadIndexWrite v) s s ∧ leads (.callRingReadIndexWrite v) s s)
  ∧ (∀ (s : State) (a : Addr) (v : Byte), suppressed s = false →
     (s.gate.held = [] → 12 ≤ s.gate.queue.length →
       (∀ c, gateClass s a.toNat = c → c ≠ .guarded →
         leads (.stationProcessorWrite a v) s
           { s with gate := { s.gate with held := [⟨a, v, some c⟩] } })
       ∧ (∀ p, s.gate.profile = some p →
         (∀ n : Fin 16, a = BitVec.ofNat 16 (p.slotsBase + 32 * n.val) →
           gateClass s a.toNat = .orderCode n →
           (v ≠ 0 → leads (.orderPosted n v) s
             { s with gate := { s.gate with held := [⟨a, v, some (.orderCode n)⟩] } })
           ∧ leads (.slotFreed n) s
             { s with gate := { s.gate with held := [⟨a, 0, some (.orderCode n)⟩] } })
         ∧ (a = BitVec.ofNat 16 (p.eventsBase + 1) → gateClass s a.toNat = .eventRead →
           leads (.eventReadIndexWrite v) s
             { s with gate := { s.gate with held := [⟨a, v, some .eventRead⟩] } })
         ∧ (a = BitVec.ofNat 16 (p.callsBase + 1) → gateClass s a.toNat = .callRead →
           leads (.callRingReadIndexWrite v) s
             { s with gate := { s.gate with held := [⟨a, v, some .callRead⟩] } }))
       ∧ (s.sys.part = .unconfigured → s.gate.profile = none →
         leads (.restartByteWrite v) s
           { s with gate := { s.gate with held := [⟨0xFFFF, v, some .restartByte⟩] } }))
     ∧ (s.gate.held ≠ [] → leads (.stationProcessorWrite a v) s
         { s with gate := { s.gate with held := s.gate.held ++ [⟨a, v, none⟩] } }))
  ∧ (∀ (s u : State) (p : Profile) (a : Addr) (v : Byte), s.sys.part = .running →
     s.gate.profile = some p → s.gate.inhibit = false → s.gate.hreset = false → s.gate.held = [] →
     gateClass s a.toNat = .guarded → roomy s → s.gate.queue.length ≤ 4 → noReport s →
     s.call.mode = modeOf s → s.tariff.swap = .idle → s.meter.purse.state = .absent →
     s.ev.outbox = [] →
     u = { s with tally := { s.tally with refusedHost := min 65535 (s.tally.refusedHost + 1) } } →
     (s.ev.guardFlag = true →
       leadsWith (.stationProcessorWrite a v) s u (fun t => t.ev.guardFlag = true
         ∧ t.ev.guardIdx = s.ev.guardIdx ∧ t.ev.w = s.ev.w ∧ t.ev.seq = s.ev.seq
         ∧ t.ev.dropped = s.ev.dropped))
     ∧ (s.ev.guardFlag = false → (s.ev.w - s.ev.r).toNat < 32 →
       leadsWith (.stationProcessorWrite a v) s u (fun t => t.ev.guardFlag = true
         ∧ t.ev.guardIdx = s.ev.w ∧ t.ev.w = s.ev.w + 1 ∧ t.ev.seq = s.ev.seq + 1
         ∧ postedTogether [.write (p.eventsBase + 16 + 16 * (s.ev.w.toNat % 32))
             [s.ev.seq, 26, BitVec.ofNat 8 s.cal.time.month, BitVec.ofNat 8 s.cal.time.day,
               BitVec.ofNat 8 s.cal.time.hour, BitVec.ofNat 8 s.cal.time.minute,
               BitVec.ofNat 8 s.cal.time.second, BitVec.ofNat 8 a.toNat,
               BitVec.ofNat 8 (a.toNat / 256), v, 0, 0, 0, 0, 0, 0] .plain,
             .write p.eventsBase [s.ev.w + 1] (.eventIndex (s.ev.w + 1))] s t))
     ∧ (s.ev.guardFlag = false → 32 ≤ (s.ev.w - s.ev.r).toNat → s.ev.dropped ≤ 255 →
       leadsWith (.stationProcessorWrite a v) s u (fun t => t.ev.guardFlag = false
         ∧ t.ev.w = s.ev.w ∧ t.ev.seq = s.ev.seq + 1
         ∧ t.ev.dropped = min 255 (s.ev.dropped + 1))))

/-- A non-zero order code in a slot not guarded posts the order: the code reaches memory, the slot
is held POSTED and guarded, it joins the Order Queue, and the run of NONE, 0 and POSTED is given
(R9, R19). A code of zero in a slot held DONE makes it FREE and gives the run of FREE; in a slot
held FREE it reaches memory alone (R20). -/
def Obligations.OrderCodesPostAndFree : Prop :=
  (∀ (s : State) (p : Profile) (n : Fin 16) (code : Byte), watchedSlot s p n → code ≠ 0 →
     leadsWith (.orderPosted n code) s
       { s with
         mem := Memory.write s.mem (p.slotsBase + 32 * n.val) code,
         gate := { s.gate with slotGuard := s.gate.slotGuard ||| BitVec.twoPow 16 n.val },
         orders := { s.orders with
           slots := s.orders.slots.set n .posted, queue := s.orders.queue ++ [n] } }
       (posted (.write (p.slotsBase + 32 * n.val + 28) [0, 0, 0, 1] .plain) s))
  ∧ (∀ (s : State) (p : Profile) (n : Fin 16), watchedSlot s p n →
     (s.orders.slots[n] = .done →
       leadsWith (.slotFreed n) s
         { s with
           mem := Memory.write s.mem (p.slotsBase + 32 * n.val) 0,
           orders := { s.orders with slots := s.orders.slots.set n .free } }
         (posted (.write (p.slotsBase + 32 * n.val + 31) [0] .plain) s))
     ∧ (s.orders.slots[n] = .free →
       leads (.slotFreed n) s { s with mem := Memory.write s.mem (p.slotsBase + 32 * n.val) 0 }))

/-- A write of the Event Ring's read index is judged (R31): taken when it passes no more than the
unread records, otherwise the write index is taken; the run of the header's read index is given; ATTN
is asserted while the index taken differs from the write index last written to memory and released when
it is that one, once the index carrying START-UP has been written there (R33, R34). The guard-event flag is cleared when the
noted record is no longer between the index taken and the write index (R32). A write of the Call Record
Ring's read index is judged as the Event Ring's is; a pending record is placed, body first and write
index after, and its slot emptied, once fewer than 64 are unread, and otherwise kept (R165, R167). In a
start-up whose header is not yet read the pending record keeps its slot until it is, which is the
model's choice (log 31). -/
def Obligations.ReadIndexesAreJudged : Prop :=
  (∀ (s : State) (p : Profile) (v : Byte), s.sys.part = .running → s.gate.profile = some p →
     suppressed s = false → s.gate.held = [] → p.eventsBase + 528 ≤ 0xFFF0 →
     (p.eventsBase + 1 < p.slotsBase ∨ p.slotsBase + 512 ≤ p.eventsBase + 1) → roomy s →
     ∀ r, r = (if (v - s.ev.r).toNat ≤ (s.ev.w - s.ev.r).toNat then v else s.ev.w) →
     leadsWith (.eventReadIndexWrite v) s
       { s with
         mem := Memory.write s.mem (p.eventsBase + 1) v,
         ev := { s.ev with r := r, attn := s.ev.announced && decide (r ≠ s.ev.lastW) } }
       (fun t => posted (.write (p.eventsBase + 1) [r] .plain) s t
         ∧ (s.ev.outbox = [] → t.ev.guardFlag = (s.ev.guardFlag
             && decide ((s.ev.guardIdx - r).toNat < (s.ev.w - r).toNat)))))
  ∧ (∀ (s : State) (p : Profile) (v : Byte), s.sys.part = .running → s.gate.profile = some p →
     suppressed s = false → s.gate.held = [] → p.callsBase + 2576 ≤ 0xFFF0 →
     (p.callsBase + 1 < p.slotsBase ∨ p.slotsBase + 512 ≤ p.callsBase + 1) →
     (p.callsBase + 1 < p.eventsBase ∨ p.eventsBase + 528 ≤ p.callsBase + 1) → roomy s →
     s.ring.slot = none →
     ∀ r, r = (if (v - s.ring.r).toNat ≤ (s.ring.w - s.ring.r).toNat then v else s.ring.w) →
     leadsWith (.callRingReadIndexWrite v) s
       { s with
         mem := Memory.write s.mem (p.callsBase + 1) v, ring := { s.ring with r := r } }
       (posted (.write (p.callsBase + 1) [r] .plain) s))
  ∧ (∀ (s : State) (p : Profile) (v : Byte) (c : CallRecord), s.sys.part = .running →
     s.gate.profile = some p → suppressed s = false → s.gate.held = [] →
     p.callsBase + 2576 ≤ 0xFFF0 →
     (p.callsBase + 1 < p.slotsBase ∨ p.slotsBase + 512 ≤ p.callsBase + 1) →
     (p.callsBase + 1 < p.eventsBase ∨ p.eventsBase + 528 ≤ p.callsBase + 1) → roomy s →
     s.ring.slot = some c →
     ∀ r, r = (if (v - s.ring.r).toNat ≤ (s.ring.w - s.ring.r).toNat then v else s.ring.w) →
     ((s.ring.w - r).toNat < 64 →
       leadsWith (.callRingReadIndexWrite v) s
         { s with
           mem := Memory.write s.mem (p.callsBase + 1) v,
           ring := { s.ring with r := r, w := s.ring.w + 1, slot := none } }
         (postedTogether [.write (p.callsBase + 1) [r] .plain,
           .write (p.callsBase + 16 + 40 * (s.ring.w.toNat % 64)) (callBytes c) .plain,
           .write p.callsBase [s.ring.w + 1] .plain] s))
     ∧ (64 ≤ (s.ring.w - r).toNat →
       leadsWith (.callRingReadIndexWrite v) s
         { s with
           mem := Memory.write s.mem (p.callsBase + 1) v, ring := { s.ring with r := r } }
         (posted (.write (p.callsBase + 1) [r] .plain) s)))
  ∧ (∀ (s : State) (p : Profile) (v : Byte), s.sys.part = .starting → s.sys.accepted = true →
     s.sys.callDone = false → s.gate.profile = some p → suppressed s = false → s.gate.held = [] →
     p.callsBase + 2576 ≤ 0xFFF0 →
     (p.callsBase + 1 < p.slotsBase ∨ p.slotsBase + 512 ≤ p.callsBase + 1) →
     (p.callsBase + 1 < p.eventsBase ∨ p.eventsBase + 528 ≤ p.callsBase + 1) → roomy s →
     ∀ r, r = (if (v - s.ring.r).toNat ≤ (s.ring.w - s.ring.r).toNat then v else s.ring.w) →
     leadsWith (.callRingReadIndexWrite v) s
       { s with
         mem := Memory.write s.mem (p.callsBase + 1) v, ring := { s.ring with r := r } }
       (posted (.write (p.callsBase + 1) [r] .plain) s))

/-- While the part is UNCONFIGURED, any value written to the restart byte reaches memory and reruns
start-up from the anchor; while it is RUNNING the byte is guarded (R3). The restart proper begins
once every post given before the RESTART has completed: start-up is at its anchor check again, the
old map holding until the new profile is judged (R18, R26, R182). That a rerun lets every write pass is
log 36, and that it keeps the slots is log 19. -/
def Obligations.StartUpIsRunAgain : Prop :=
  ((∀ (s : State) (v : Byte), s.sys.part = .unconfigured → s.gate.profile = none →
     s.gate.inhibit = false → s.gate.hreset = false → s.gate.held = [] → roomy s →
     ∃ t, exec (.restartByteWrite v) s = .next t ∧ t.sys.part = .starting
       ∧ t.sys.stage = .anchor ∧ t.sys.kind = s.sys.kind ∧ t.sys.accepted = false
       ∧ t.mem = Memory.write s.mem 0xFFFF v ∧ t.cal = s.cal ∧ t.tally = s.tally
       ∧ t.orders = s.orders ∧ t.coin.escrow = s.coin.escrow
       ∧ posted (.read 0xFFF0 2 .anchor) s t)
   ∧ (∀ (s : State) (p : Profile) (v : Byte), s.sys.part = .running →
     s.gate.profile = some p → s.gate.inhibit = false → s.gate.hreset = false → s.gate.held = [] →
     leads (.restartByteWrite v) s
       { s with tally := { s.tally with refusedHost := min 65535 (s.tally.refusedHost + 1) } }))
  ∧ (∀ s : State, s.sys.part = .starting → s.sys.waitRestart = true → s.gate.queue = [] →
     s.gate.waiters = [] →
     ∃ t, exec .restartProperBegins s = .next t ∧ t.sys.part = .starting
       ∧ t.sys.stage = .anchor ∧ t.sys.waitRestart = false ∧ t.sys.accepted = false
       ∧ t.sys.restart = s.sys.restart ∧ t.gate.profile = s.gate.profile
       ∧ t.mem = s.mem ∧ t.tally = s.tally ∧ t.coin.escrow = s.coin.escrow ∧ t.orders = s.orders
       ∧ posted (.read 0xFFF0 2 .anchor) s t)

/-! ### The Post Engine -/

/-- A write run at the head completes (R13): its bytes stand in memory, every other byte as before; and its
owner hears of it: a slot's outcome run makes the slot DONE, clears its guard and frees the Order Unit (R9,
R23), a write index in memory sets ATTN (R33). The read run of a taken slot completes and its bytes are handed
to the Order Unit; memory is only read (R13, R21). The first producer in line has its entry appended at the
tail; an image's run is built then (R12, R47). In STARTING the next stage begins once every post of the stage
has its place: behind a cold power-on's stage 3 the load's reads, behind stage 6 RUNNING (R177, R179; log 60).
A lane to be flushed is then FLUSHING on an emptied list, the gate TO BOX and the 2 s begun, and the Live
Image is rewritten to show it, at once or behind a rewrite under way (R14, R76, R87); any other lane that is
not FLUSHING has its start-up complete (R85). A station-processor write held by WAIT is served behind the
completion with the treatment it was given when it arrived, and reaches memory (R15; that it is not judged
again is log 9). A rewrite's runs are the leading count odd, the fields that change in runs of at most 40
bytes, the trailing count and the leading count, the owner then holding n + 2; the Clock Image's fields are
one run (R14, R46). A cause folds into a rewrite whose fields are still to come; otherwise a rewrite begins
while fewer than two of the image stand in the queue, and else is owed and begins when the older completes
(R47, log 41). That this command makes all the byte cycles left is log 8, what counts as a field log 12. -/
def Obligations.PostEngineServesTheQueue : Prop :=
  (∀ (s : State) (a : Nat) (d : List Byte) (tag : WriteTag) (q : List PostEntry), memoryKept s →
     s.gate.queue = .write a d tag :: q → s.gate.held = [] → s.gate.done ≤ d.length →
     a + d.length ≤ 65536 →
     (∃ t, exec .postEntryComplete s = .next t ∧
       ∀ x < 65536, Memory.read t.mem x =
         if a + s.gate.done ≤ x ∧ x < a + d.length then d.getD (x - a) 0 else Memory.read s.mem x)
     ∧ (s.sys.part = .running →
       ∀ m, m = Memory.writeRun s.mem (a + s.gate.done) (d.drop s.gate.done) →
       (tag = .plain → leads .postEntryComplete s { headGone s with mem := m })
       ∧ (∀ n, tag = .slotDone n →
         leads .postEntryComplete s { headGone s with
           mem := m,
           gate := { (headGone s).gate with
             slotGuard := s.gate.slotGuard &&& ~~~ (BitVec.twoPow 16 n.val) },
           orders := { s.orders with
             slots := s.orders.slots.set n .done,
             busy := if s.orders.busy = some n then none else s.orders.busy,
             data := if s.orders.busy = some n then none else s.orders.data } })
       ∧ (∀ w, tag = .eventIndex w →
         leads .postEntryComplete s { headGone s with
           mem := m, ev := { s.ev with lastW := w, announced := true, attn := decide (w ≠ s.ev.r) } })
       ∧ (∀ i, tag = .imageEnd i →
         leadsWith .postEntryComplete s { headGone s with mem := m }
           (fun t => ∀ p x, s.gate.profile = some p → getImage i s = x → s.gate.waiters = [] →
             q.length < 16 → x.pos = none → x.owed = true → standing i (headGone s) < 2 →
             q ++ [imageRun i p x .lead s] <+: t.gate.queue))))
  ∧ (∀ (s : State) (d : List Byte) (n : Fin 16), s.sys.part = .running → handed (.order n) d s →
     s.orders.busy = some n →
     leads .postEntryComplete s { headGone s with orders := { s.orders with data := some d } })
  ∧ ((∀ (s : State) (w : Producer) (e : PostEntry) (ws : List Waiter),
     s.gate.waiters = ⟨w, [.entry e]⟩ :: ws → s.gate.queue.length < 16 →
     ∃ t, exec .producerAdmitted s = .next t ∧ s.gate.queue ++ [e] <+: t.gate.queue
       ∧ t.mem = s.mem ∧ (s.sys.part ≠ .starting → steady t = steady s))
   ∧ (∀ (s : State) (p : Profile) (i : ImageId) (k : RewriteStep) (ws : List Waiter),
     s.gate.waiters = ⟨.image i, [.imageRun i]⟩ :: ws → s.gate.queue.length < 16 →
     s.gate.profile = some p → (getImage i s).pos = some k →
     ∃ t, exec .producerAdmitted s = .next t
       ∧ s.gate.queue ++ [imageRun i p (getImage i s) k s] <+: t.gate.queue
       ∧ t.mem = s.mem ∧ (s.sys.part ≠ .starting → steady t = steady s))
   ∧ (∀ (s : State) (p : Profile) (e : PostEntry), s.sys.part = .starting →
     s.gate.profile = some p → s.gate.waiters = [⟨.record, [.entry e]⟩] →
     s.gate.queue.length < 16 →
     (s.sys.stage = .records → s.sys.kind = .cold → s.sys.evDone = true → s.sys.callDone = true →
       s.sys.tallyDone = true → s.sys.tamperDone = true →
       ∃ t, exec .producerAdmitted s = .next t ∧ t.sys.part = .starting ∧ t.sys.stage = .tariff
         ∧ t.tariff.startLoad = some p.initial
         ∧ (s.gate.queue.length < 15 → s.gate.queue
             ++ [e, .read (if p.initial = .a then p.bankABase else p.bankBBase) 64 (.bank false)]
             <+: t.gate.queue))
     ∧ (s.sys.stage = .announce →
       ∃ t, exec .producerAdmitted s = .next t ∧ t.sys.part = .running
         ∧ s.gate.queue ++ [e] <+: t.gate.queue
         ∧ (s.coin.mustFlush = true → t.coin.lane = .flushing ∧ t.coin.gatePos = .toBox
           ∧ t.coin.flushTimer = some 2000 ∧ t.coin.escrow = []
           ∧ (s.img.live.on = true → u8 s.img.live.shown 1 / 16 % 8 ≠ 4 →
             posted (imageRun .live p s.img.live .lead s) s t
               ∨ t.img.live.pos ≠ none ∨ t.img.live.owed = true))
         ∧ (s.coin.mustFlush = false → s.coin.lane ≠ .flushing → t.coin.started = true)))
   ∧ (∀ (s : State) (e e' : PostEntry) (l : List Offer) (ws : List Waiter),
     s.sys.part = .starting → s.gate.waiters = ⟨.record, .entry e :: .entry e' :: l⟩ :: ws →
     s.gate.queue.length = 15 →
     ∃ t, exec .producerAdmitted s = .next t ∧ t.sys = s.sys ∧ t.tariff = s.tariff
       ∧ s.gate.queue ++ [e] <+: t.gate.queue))
  ∧ (∀ (s : State) (a : Nat) (d : List Byte) (q : List PostEntry) (h : Addr) (v : Byte),
     memoryKept s → s.sys.part = .running → s.gate.queue = .write a d .plain :: q →
     s.gate.held = [⟨h, v, some .plain⟩] → s.gate.done ≤ d.length → a + d.length ≤ 65536 →
     leadsWith .postEntryComplete s
       { headGone s with
         mem := Memory.write (Memory.writeRun s.mem (a + s.gate.done) (d.drop s.gate.done)) h.toNat v,
         gate := { (headGone s).gate with held := [] } }
       (fun t => ∀ x < 65536, Memory.read t.mem x =
         if x = h.toNat then v
         else if a + s.gate.done ≤ x ∧ x < a + d.length then d.getD (x - a) 0
         else Memory.read s.mem x))
  ∧ (∀ (i : ImageId) (p : Profile) (x : Image) (s : State), getImage i s = x → x.on = true →
     rewriteDue i x s = true → s.gate.profile = some p →
     (x.pos = none → standing i s < 2 → s.gate.waiters = [] → s.gate.queue.length < 16 →
       s.gate.queue ++ [imageRun i p x .lead s] <+: (giveRewrite i s).gate.queue)
     ∧ ((x.pos = none ∧ 2 ≤ standing i s) ∨ x.pos = some .trail ∨ x.pos = some .last →
       giveRewrite i s = setImage i { x with owed := true } s)
     ∧ (x.pos = some .lead ∨ x.pos = some .fields → giveRewrite i s = s))
  ∧ (∀ (i : ImageId) (p : Profile) (x : Image) (s : State),
     imageRun i p x .lead s = .write (imageBase p i) [x.count + 1] .plain
     ∧ imageRun i p x .trail s
         = .write (imageBase p i + (imageFields i s).length + 1) [x.count + 2] .plain
     ∧ imageRun i p x .last s = .write (imageBase p i) [x.count + 2] (.imageEnd i)
     ∧ (∃ o n, imageRun i p x .fields s
         = .write (imageBase p i + 1 + o) (((imageFields i s).drop o).take n) .plain
         ∧ 0 < n ∧ n ≤ 40 ∧ o + n ≤ (imageFields i s).length)
     ∧ imageRun .clock p x .fields s = .write (p.clockBase + 1)
         [BitVec.ofNat 8 s.cal.time.year, BitVec.ofNat 8 s.cal.time.month,
           BitVec.ofNat 8 s.cal.time.day, BitVec.ofNat 8 s.cal.time.hour,
           BitVec.ofNat 8 s.cal.time.minute, BitVec.ofNat 8 s.cal.time.second,
           BitVec.ofNat 8 s.cal.weekday, (if s.cal.valid then 1 else 0),
           BitVec.ofNat 8 s.cal.band, 0, 0, 0, 0, 0] .plain
     ∧ (afterRun i x .lead s).pos = some .fields ∧ (afterRun i x .trail s).pos = some .last
     ∧ afterRun i x .last s = { x with count := x.count + 2, pos := none }
     ∧ (afterRun .clock x .fields s).pos = some .trail
     ∧ (∀ o n, (o, n) ∈ spansFrom 0 (fieldLens i) → ∀ shown,
         shown.length = (imageFields i s).length → shown ≠ imageFields i s →
         (∀ k, k < o ∨ o + n ≤ k → shown.getD k 0 = (imageFields i s).getD k 0) →
         imageRun i p { x with shown := shown } .fields s
             = .write (imageBase p i + 1 + o) (((imageFields i s).drop o).take n) .plain
           ∧ (afterRun i { x with shown := shown } .fields s).pos = some .trail))

/-! ### Start-up -/

/-- The anchor is valid when its second byte is the first inverted and the first is not 0xFF; then
the four runs of the profile page are given. Otherwise the profile is refused ANCHOR INVALID: the
part is UNCONFIGURED with no map, and the status byte is posted (R2, R4). A profile whose first
failing check has a code is refused with it: UNCONFIGURED, no map, the status byte posted. One that
passes is accepted: its clamped fields are the working copy, the status says whether any was
clamped, which is so exactly when a field of R6 is out of its range, the class inhibits follow it, and the
part is in stage 3, the bank's load not begun (R4, R5, R6, R69, R179; log 60). The checks and their order are those of
R4, and the fields and their ranges those of R6 and section 13.2. The command makes the last byte cycles
of its read run (log 8). -/
def Obligations.AnchorAndProfileAreJudged : Prop :=
  (∀ (s : State) (d : List Byte), s.sys.part = .starting → handed .anchor d s → roomy s →
     (d.getD 1 0 = d.getD 0 0 ^^^ 0xFF → d.getD 0 0 ≠ 0xFF →
       leadsWith .anchorRead s
         { headGone s with
           sys := { s.sys with stage := .profile },
           gate := { (headGone s).gate with page := (d.getD 0 0).toNat, profileBuf := [] } }
         (fun t => ∀ k < 4,
           posted (.read ((d.getD 0 0).toNat * 256 + 64 * k) 64 (.profile (k == 3)))
             (headGone s) t))
     ∧ (d.getD 1 0 ≠ d.getD 0 0 ^^^ 0xFF ∨ d.getD 0 0 = 0xFF →
       leadsWith .anchorRead s
         { headGone s with
           sys := { s.sys with part := .unconfigured, accepted := false, status := 0x81,
                               heldRefused := 0 },
           gate := { (headGone s).gate with profile := none, slotGuard := 0 } }
         (posted (.write 0xFFFE [0x81] .plain) (headGone s))))
  ∧ (∀ (s : State) (d : List Byte), s.sys.part = .starting → handed (.profile true) d s → roomy s →
     ∀ bs, bs = s.gate.profileBuf ++ d →
     (∀ code, profileFault s.gate.page bs = some code →
       leadsWith .profileCheck s
         { headGone s with
           sys := { s.sys with part := .unconfigured, accepted := false, status := code,
                               heldRefused := 0 },
           gate := { (headGone s).gate with profile := none, slotGuard := 0 } }
         (posted (.write 0xFFFE [code] .plain) (headGone s)))
     ∧ (profileFault s.gate.page bs = none →
       ∃ t, exec .profileCheck s = .next t ∧ t.sys.part = .starting ∧ t.sys.accepted = true
         ∧ t.gate.profile = some (readProfile bs)
         ∧ t.sys.status = (if profileClamped bs then 2 else 1)
         ∧ t.coin.inhibits = inhibitsOf (readProfile bs)
         ∧ t.sys.stage = .records ∧ t.tariff.startLoad = s.tariff.startLoad
         ∧ t.mem = s.mem ∧ t.cal.time = s.cal.time ∧ t.orders = s.orders
         ∧ t.coin.escrow = s.coin.escrow ∧ t.meter = s.meter ∧ t.call = s.call))
  ∧ (∀ (page : Nat) (bs : List Byte), bs.length = 256 →
     ((bs.map (·.toNat)).sum % 256 ≠ 0 → profileFault page bs = some 0x82)
     ∧ ((bs.map (·.toNat)).sum % 256 = 0 →
       (u8 bs 0 ≠ 1 → profileFault page bs = some 0x83)
       ∧ (u8 bs 0 = 1 →
         (¬ areasFit page bs → profileFault page bs = some 0x84)
         ∧ (areasFit page bs →
           (¬ classesFit bs → profileFault page bs = some 0x85)
           ∧ (classesFit bs →
             (¬ stationFits bs → profileFault page bs = some 0x86)
             ∧ (stationFits bs →
               (¬ emergencyFits bs → profileFault page bs = some 0x87)
               ∧ (emergencyFits bs → profileFault page bs = none)))))))
  ∧ (∀ (bs : List Byte) (p : Profile), bs.length = 256 → p = readProfile bs →
     p.slotsBase = u16 bs 5 ∧ p.eventsBase = u16 bs 7 ∧ p.callsBase = u16 bs 9
     ∧ p.clockBase = u16 bs 11 ∧ p.liveBase = u16 bs 13 ∧ p.tallyBase = u16 bs 15
     ∧ p.tamperBase = u16 bs 17 ∧ p.bankABase = u16 bs 19 ∧ p.bankBBase = u16 bs 21
     ∧ p.station = (List.range 8).map (digitCode bs 1)
     ∧ p.classes = (List.range 6).map (fun i => (u16 bs (23 + 3 * i), u8 bs (25 + 3 * i) != 0))
     ∧ p.pulse = (u8 bs 41 == 2) ∧ p.incoming = (u8 bs 42 != 0)
     ∧ p.initial = (if u8 bs 43 = 2 then .b else .a)
     ∧ p.threshold = min 3 (u8 bs 44)
     ∧ p.severities = (List.range 7).map (fun i => min 3 (u8 bs (45 + i)))
     ∧ p.primary = (List.range (min 16 (u8 bs 52))).map (fun j => min 12 (digitCode bs 53 j))
     ∧ p.secondary = (List.range (min 16 (u8 bs 61))).map (fun j => min 12 (digitCode bs 62 j))
     ∧ (∀ i < 4, u8 bs (70 + 4 * i) ≤ 6 → p.emergency[i]?
         = some ((List.range (u8 bs (70 + 4 * i))).map (digitCode bs (71 + 4 * i))))
     ∧ p.passageMs = max 100 (min 1500 (u16 bs 86)) ∧ p.dropMs = max 200 (min 2000 (u16 bs 88))
     ∧ p.slotBlockS = max 1 (min 10 (u16 bs 90)) ∧ p.dialToneS = max 1 (min 10 (u16 bs 92))
     ∧ p.interDigitS = max 4 (min 30 (u16 bs 94)) ∧ p.creditHoldS = max 10 (min 120 (u16 bs 96))
     ∧ p.answerS = max 30 (min 180 (u16 bs 98)) ∧ p.guardS = max 1 (min 5 (u16 bs 100))
     ∧ p.reportBaseS = max 30 (min 600 (u16 bs 102)) ∧ p.forceS = max 10 (min 120 (u16 bs 104))
     ∧ p.shockCount = max 1 (min 50 (u16 bs 106)) ∧ p.visitDoorS = max 30 (min 300 (u16 bs 108))
     ∧ (profileClamped bs = true ↔ someFieldOut bs))

/-- The slot scan treats a slot neither posted since acceptance nor the RESTART's own by the state byte
found (R27). The two ring headers are taken; one that shows more unread records than its ring has
places is emptied, and a record still pending is placed where there is room (R28, R166, R168; that a
record kept pending through a soft restart is placed at this read is log 31). The command makes the
last byte cycles of its read run (log 8). -/
def Obligations.SlotsAndRingHeadersAreTaken : Prop :=
  (∀ (s : State) (p : Profile) (n : Fin 16) (d : List Byte), s.sys.part = .starting →
     handed (.slotState n) d s → roomy s → s.gate.profile = some p →
     s.orders.slots[n] ≠ .posted → s.orders.slots[n] ≠ .taken →
     (∀ r, s.sys.restart = some r → r.slot ≠ n) →
     (d.getD 0 0 = 0 → leads .slotScan s { headGone s with
       orders := { s.orders with slots := s.orders.slots.set n .free } })
     ∧ (d.getD 0 0 = 3 → leads .slotScan s { headGone s with
       orders := { s.orders with slots := s.orders.slots.set n .done } })
     ∧ (d.getD 0 0 = 1 ∨ d.getD 0 0 = 2 → leadsWith .slotScan s { headGone s with
       orders := { s.orders with slots := s.orders.slots.set n .done } }
       (posted (.write (p.slotsBase + 32 * n.val + 28)
         [8, BitVec.ofNat 8 (kindCode s.sys.kind), 0, 3] .plain) (headGone s)))
     ∧ (3 < (d.getD 0 0).toNat → leadsWith .slotScan s { headGone s with
       orders := { s.orders with slots := s.orders.slots.set n .free } }
       (posted (.write (p.slotsBase + 32 * n.val + 31) [0] .plain) (headGone s))))
  ∧ (∀ (s : State) (p : Profile) (d : List Byte), s.sys.part = .starting → s.gate.profile = some p →
     (handed .eventHeader d s →
       ∃ t, exec .eventRingHeaderRead s = .next t ∧ t.sys.evDone = true
         ∧ t.ev.w = d.getD 0 0 ∧ t.ev.dropped = (d.getD 2 0).toNat
         ∧ t.ev.r = (if 32 < (d.getD 0 0 - d.getD 1 0).toNat then d.getD 0 0 else d.getD 1 0)
         ∧ t.ev.seq = s.ev.seq ∧ t.ring = s.ring ∧ t.mem = s.mem ∧ t.tally = s.tally)
     ∧ (handed .callHeader d s →
       ∃ t, exec .callRingHeaderRead s = .next t ∧ t.sys.callDone = true
         ∧ t.ring.notKept = (d.getD 2 0).toNat
         ∧ t.ring.r = (if 64 < (d.getD 0 0 - d.getD 1 0).toNat then d.getD 0 0 else d.getD 1 0)
         ∧ (s.ring.slot = none ∨ (d.getD 0 0 - d.getD 1 0).toNat = 64 →
             t.ring.w = d.getD 0 0 ∧ t.ring.slot = s.ring.slot)
         ∧ (∀ rec, s.ring.slot = some rec → (d.getD 0 0 - d.getD 1 0).toNat ≠ 64 →
             t.ring.w = d.getD 0 0 + 1 ∧ t.ring.slot = none
               ∧ (roomy s → postedTogether [.write (p.callsBase + 16
                   + 40 * ((d.getD 0 0).toNat % 64)) (callBytes rec) .plain,
                   .write p.callsBase [d.getD 0 0 + 1] .plain] (headGone s) t))
         ∧ t.ring.seq = s.ring.seq ∧ t.ev = s.ev ∧ t.mem = s.mem ∧ t.tally = s.tally))

/-- A Tally Area whose change counts are equal and even is taken; any other zeroes the Tally, ends
the visit and is reported by the tally-reset flag. Refused host writes held meanwhile are added
(R14, R169, R171). A usable Tamper Area gives the eight channels; an unusable one begins them
afresh at their base severities, FORCE at 3 (R149). Each count, the visit in progress, the newest
visit record and each channel are read at the places of section 13.5, and what the part writes of both
areas stands at those places, saturated where a field is narrower (R186); the kind of no visit, written
0, is log 4, the saturated sums of a visit are log 47, and that a bank byte other than 1 and 2 is read as
none is the model's choice (log 54). That held refused writes are added at the read is log 27, and that the
command makes the last byte cycles of its read run is log 8. -/
def Obligations.TallyAndTamperAreaAreTaken : Prop :=
  (∀ (s : State) (d : List Byte), s.sys.part = .starting → handed (.tally true) d s →
     ∀ bs, bs = s.sys.tallyBuf ++ d →
     (bs.getD 0 0 = bs.getD 191 0 ∧ (bs.getD 0 0).toNat % 2 = 0 →
       ∃ t, exec .tallyRead s = .next t ∧ t.sys.tallyReset = false ∧ t.sys.tallyDone = true
         ∧ t.tally = { readTally bs with
             refusedHost := min 65535 ((readTally bs).refusedHost + s.sys.heldRefused) }
         ∧ (u8 bs 98 = 0 → t.visit.state = .closed) ∧ (u8 bs 98 = 1 → t.visit.state = .awaitingDoor)
         ∧ (u8 bs 98 = 2 → t.visit.state = .doorOpen) ∧ (u8 bs 98 = 3 → t.visit.state = .boxOut)
         ∧ (u8 bs 99 % 128 = 1 → t.visit.kind = .collection)
         ∧ (u8 bs 99 % 128 = 2 → t.visit.kind = .service) ∧ t.visit.left = decide (128 ≤ u8 bs 99)
         ∧ t.visit.opened = packedAt bs 102 ∧ t.visit.value = u24 bs 106
         ∧ t.visit.coins = u16 bs 109 ∧ t.ring.seq = u16 bs 96
         ∧ t.sys.tallyMarker = (u8 bs 66 != 0)
         ∧ t.mem = s.mem ∧ t.coin.escrow = s.coin.escrow ∧ t.ev = s.ev)
     ∧ (¬ (bs.getD 0 0 = bs.getD 191 0 ∧ (bs.getD 0 0).toNat % 2 = 0) →
       ∃ t, exec .tallyRead s = .next t ∧ t.sys.tallyReset = true ∧ t.sys.tallyDone = true
         ∧ t.tally = { Tally.zero with refusedHost := min 65535 s.sys.heldRefused }
         ∧ t.visit.state = .closed ∧ t.ring.seq = 0 ∧ t.mem = s.mem ∧ t.ev = s.ev))
  ∧ (∀ (s : State) (p : Profile) (d : List Byte), s.sys.part = .starting → handed (.tamper true) d s →
     s.gate.profile = some p → ∀ bs, bs = s.sys.tamperBuf ++ d →
     (tamperGood bs = true →
       ∃ t, exec .tamperAreaRead s = .next t ∧ t.tamper.chans = readChans bs
         ∧ t.sys.tamperDone = true ∧ t.mem = s.mem ∧ t.tally = s.tally)
     ∧ (tamperGood bs = false →
       ∃ t, exec .tamperAreaRead s = .next t ∧ t.sys.tamperDone = true ∧ t.mem = s.mem
         ∧ t.tally = s.tally
         ∧ ∀ ch, (getChan ch t).state = .quiet ∧ (getChan ch t).trips = 0
             ∧ (getChan ch t).first = ⟨0, 0, 0, 0, 0⟩ ∧ (getChan ch t).last = ⟨0, 0, 0, 0, 0⟩
             ∧ (getChan ch t).raw = 0 ∧ (getChan ch t).status = .idle
             ∧ (getChan ch t).severity = if ch = .force then 3
                 else p.severities.getD (channelCode ch - 1) 0))
  ∧ (∀ (bs : List Byte) (x : Tally), x = readTally bs →
     (∀ i : Fin 6, x.classes[i] = ⟨u16 bs (1 + 8 * i.val), u16 bs (3 + 8 * i.val),
       u16 bs (5 + 8 * i.val), u16 bs (7 + 8 * i.val)⟩)
     ∧ x.boxValue = u24 bs 49 ∧ x.boxCoins = u16 bs 52 ∧ x.stranded = u16 bs 54
     ∧ x.foreign = u16 bs 56 ∧ x.refused = u16 bs 58 ∧ x.unattended = u16 bs 60
     ∧ x.fault = u16 bs 62 ∧ x.flushed = u16 bs 64
     ∧ (∀ i : Fin 5, x.kinds[i] = u16 bs (67 + 2 * i.val))
     ∧ x.chargeTotal = u24 bs 77 ∧ x.forfeited = u24 bs 80 ∧ x.refusedHost = u16 bs 83
     ∧ x.lineLost = u16 bs 85 ∧ x.stray = u16 bs 87 ∧ x.notKept = u16 bs 89
     ∧ x.visits = u16 bs 91 ∧ x.edition = u16 bs 94
     ∧ x.bank = (if u8 bs 93 = 1 then some .a else if u8 bs 93 = 2 then some .b else none)
     ∧ (u8 bs 123 % 64 = 1 ∨ u8 bs 123 % 64 = 2 → ∃ v, x.history.head? = some v
         ∧ v.kind = (if u8 bs 123 % 64 = 1 then .collection else .service)
         ∧ v.left = (u8 bs 123 / 64 % 2 == 1) ∧ v.lapsed = decide (128 ≤ u8 bs 123)
         ∧ v.opened = packedAt bs 126 ∧ v.closed = packedAt bs 130 ∧ v.value = u24 bs 134
         ∧ v.coins = u16 bs 137))
  ∧ (∀ bs : List Byte, tamperGood bs = true ↔
     (u8 bs 0 = u8 bs 143 ∧ u8 bs 0 % 2 = 0
       ∧ ∀ i < 8, u8 bs (16 + 16 * i) ≤ 2 ∧ u8 bs (17 + 16 * i) ≤ 3 ∧ u8 bs (30 + 16 * i) ≤ 3))
  ∧ (∀ (bs : List Byte) (ch : Channel) (x : ChanRec) (o : Nat), x = (readChans bs).get ch →
     o = 16 * channelCode ch →
     (u8 bs o = 0 → x.state = .quiet) ∧ (u8 bs o = 1 → x.state = .active)
     ∧ (u8 bs o = 2 → x.state = .latched) ∧ x.severity = u8 bs (o + 1)
     ∧ x.trips = u16 bs (o + 2) ∧ x.first = packedAt bs (o + 4) ∧ x.last = packedAt bs (o + 8)
     ∧ x.raw = BitVec.ofNat 16 (u16 bs (o + 12))
     ∧ (u8 bs (o + 14) = 0 → x.status = .idle) ∧ (u8 bs (o + 14) = 1 → x.status = .queued)
     ∧ (u8 bs (o + 14) = 2 → x.status = .sent) ∧ (u8 bs (o + 14) = 3 → x.status = .failed))
  ∧ (∀ (s : State) (x : Byte), tallyLaid s (x :: imageFields .tally s))
  ∧ (∀ (s : State) (x : Byte), tamperLaid s (x :: imageFields .tamper s))

/-- A usable Live Image gives back the escrow list, the arrival counter, a jammed lane, the purse and the
ordered closure; one that shows FLUSHING gives an empty list and leaves the lane to be flushed (R86, R87, R88,
R134, R184), the lane being CLEAR until then (log 4). An unusable one restores nothing, yields no record and
leaves the lane to be flushed (R184). When an image is usable, its purse and its escrow entries are those of
R184, R188 and section 13.5. The marker is set by the image, the Tally, an action found in flight or an image
whose interrupted marker is clear (R86, R184). A pending record is restored, and placed where the ring has
room (R168); a seized call yields a POWER LOST record (R185), handed over behind it: placed, pending or not
kept by the places left (R165, R166). With room for the posts of stage 4 the load begins (R179). The model's
choices are these: that the purse is given back also beside FLUSHING, where R87 has it NONE (log 56); that an
arrival counter byte of 0 is taken as 0 (log 57); that D less C is 0 where C is above D (log 59); that a gated
pending record stays against a gated POWER LOST record (log 62); that an unusable image too counts as stage 4
taken (log 49); that the record's credit is D less C also for kind REPORT (log 24). What the part writes of
the Live Image stands at the places of section 13.5 (R186), with the wait of a call not answered 0 (log 38)
and the zone bits 0 beside the none flag (log 63). Arrival years are log 38, the read run's last byte cycles
log 8. -/
def Obligations.LiveImageIsRestored : Prop :=
  ∀ (s : State) (p : Profile) (d : List Byte), s.sys.part = .starting → handed (.live true) d s →
    s.gate.profile = some p → ∀ bs, bs = s.sys.liveBuf ++ d →
    (liveGood bs = true →
      ∃ t, exec .liveImageRead s = .next t ∧ t.sys.imageTaken = true
        ∧ t.coin.escrow
            = (if bitsOf (natAt bs 2) 4 3 = 4 then [] else liveEscrow s.cal.time bs)
        ∧ t.coin.arrival = natAt bs 3 ∧ t.coin.mustFlush = (bitsOf (natAt bs 2) 4 3 == 4)
        ∧ t.coin.lane = (if bitsOf (natAt bs 2) 4 3 = 3 then .jammed else .clear)
        ∧ t.meter.purse = livePurse bs ∧ t.call.ordered = bitSet (natAt bs 1) 6
        ∧ (s.sys.stage = .live → s.gate.waiters = [] → s.gate.queue.length ≤ 5 →
            t.sys.stage = .tariff)
        ∧ t.mem = s.mem)
    ∧ (liveGood bs = false →
      ∃ t, exec .liveImageRead s = .next t ∧ t.sys.imageTaken = true
        ∧ (s.sys.stage = .live → s.gate.waiters = [] → s.gate.queue.length ≤ 9 →
            t.sys.stage = .tariff)
        ∧ t.coin.mustFlush = true ∧ t.coin.escrow = s.coin.escrow ∧ t.meter.purse = s.meter.purse
        ∧ t.call.ordered = s.call.ordered ∧ t.ring = s.ring
        ∧ t.sys.powerLost = s.sys.powerLost ∧ t.mem = s.mem)
    ∧ (liveGood bs = true ↔ imageUsable bs)
    ∧ (livePurse bs).d = u24 bs 9 ∧ (livePurse bs).c = u24 bs 12 ∧ (livePurse bs).k = u24 bs 15
    ∧ (livePurse bs).r = u24 bs 18 ∧ (livePurse bs).x = u24 bs 21
    ∧ (livePurse bs).state = (if u8 bs 2 % 4 = 0 then .absent else if u8 bs 2 % 4 = 1 then .opened
        else if u8 bs 2 % 4 = 2 then .settling else .held)
    ∧ (liveEscrow s.cal.time bs).length = escrowCount bs
    ∧ (∀ i e, (liveEscrow s.cal.time bs)[i]? = some e → i < 10 → 1 ≤ u8 bs 4 →
        e.value = (escrowAt bs i).1 ∧ e.cls = (escrowAt bs i).2
        ∧ e.seq = (if u8 bs 4 + i ≤ 255 then u8 bs 4 + i else u8 bs 4 + i - 255)
        ∧ (i = 0 → e.time.short = packedAt bs 24))
    ∧ (liveGood bs = true → ∀ marked : Bool,
        marked = (decide (128 ≤ u8 bs 2) || s.sys.tallyMarker || u8 bs 2 / 16 % 8 == 1
          || u8 bs 2 / 16 % 8 == 2 || decide (u8 bs 1 < 128)) →
        ∃ t, exec .liveImageRead s = .next t ∧ (marked = true → t.coin.uncertain = true)
          ∧ ((∀ i : Fin 6, s.tally.classes[i].collected + s.tally.classes[i].returned
              + s.tally.classes[i].cleared + 10 ≤ 65535) → t.coin.uncertain = marked)
          ∧ (u8 bs 57 / 8 % 2 = 0 → u8 bs 75 < 128 →
              t.ring = { s.ring with slot := none } ∧ t.sys.powerLost = s.sys.powerLost)
          ∧ (u8 bs 57 / 8 % 2 = 0 → 128 ≤ u8 bs 75 →
            (64 ≤ (s.ring.w - s.ring.r).toNat → ∃ c, t.ring = { s.ring with slot := some c }
              ∧ c.seq = u16 bs 73 ∧ callKindCode c.kind = u8 bs 75 % 8
              ∧ outcomeCode c.outcome = u8 bs 75 / 8 % 16
              ∧ c.zone = (if u8 bs 76 / 16 % 2 = 1 then none else some (u8 bs 76 % 16))
              ∧ c.gatePassed = (u8 bs 76 / 64 % 2 == 1) ∧ c.start.short = packedAt bs 77
              ∧ c.digitCount = u32 bs 77 / 67108864 % 32
              ∧ c.clockInvalid = decide (2147483648 ≤ u32 bs 77)
              ∧ c.wait = u16 bs 81 ∧ c.talk = u24 bs 83 ∧ c.units = u16 bs 86
              ∧ c.charge = u24 bs 88 ∧ c.credit = u24 bs 91
              ∧ c.edition = (if 128 ≤ u8 bs 76 then 0 else u16 bs 7))
            ∧ ((s.ring.w - s.ring.r).toNat < 64 →
              t.ring = { s.ring with w := s.ring.w + 1, slot := none }))
          ∧ (u8 bs 57 / 8 % 2 = 1 → u8 bs 75 < 128 → (s.ring.w - s.ring.r).toNat < 64 →
              t.ring = { s.ring with
                w := s.ring.w + 1, slot := none, seq := (s.ring.seq + 1) % 65536 }
              ∧ ∃ l, t.sys.powerLost = some l ∧ l.place = .placed s.ring.w
                  ∧ l.charge = u24 bs 70)
          ∧ (u8 bs 57 / 8 % 2 = 1 → u8 bs 75 < 128 → 64 ≤ (s.ring.w - s.ring.r).toNat →
              t.ring = { s.ring with
                slot := some { lostRecord s.cal.time bs with seq := s.ring.seq },
                seq := (s.ring.seq + 1) % 65536 }
              ∧ ∃ l, t.sys.powerLost = some l ∧ l.place = .pending ∧ l.charge = u24 bs 70)
          ∧ (u8 bs 57 / 8 % 2 = 1 → 128 ≤ u8 bs 75 → ∀ unread pend lost,
              unread = (s.ring.w - s.ring.r).toNat → pend = livePendRecord s.cal.time bs →
              lost = { lostRecord s.cal.time bs with seq := s.ring.seq } →
              t.ring.seq = (s.ring.seq + 1) % 65536
              ∧ ∃ l, t.sys.powerLost = some l ∧ l.charge = u24 bs 70
                ∧ (unread < 63 → t.ring.w = s.ring.w + 2 ∧ t.ring.slot = none
                    ∧ l.place = .placed (s.ring.w + 1))
                ∧ (unread = 63 → t.ring.w = s.ring.w + 1 ∧ t.ring.slot = some lost
                    ∧ l.place = .pending)
                ∧ (64 ≤ unread → t.ring.w = s.ring.w
                    ∧ if ¬ (pend.kind = .paid ∧ pend.gatePassed = true)
                        ∧ lost.kind = .paid ∧ lost.gatePassed = true
                      then t.ring.slot = some lost ∧ l.place = .pending
                      else t.ring.slot = some pend ∧ l.place = .notKept)))
    ∧ (∀ c, c = lostRecord s.cal.time bs →
        c.outcome = .powerLost ∧ c.credit = u24 bs 9 - u24 bs 12 ∧ c.units = u16 bs 68
        ∧ c.charge = u24 bs 70 ∧ c.band.toNat = u8 bs 57 / 32
        ∧ c.edition = (if u8 bs 58 / 32 % 2 = 1 then 0 else u16 bs 7)
        ∧ c.clockInvalid = decide (2147483648 ≤ u32 bs 59)
        ∧ c.digits = List.replicate (min 20 c.digitCount) 15
        ∧ (u8 bs 1 % 16 = 8 → c.kind = .report ∧ c.digitCount = 0 ∧ c.zone = none
            ∧ c.wait = 0 ∧ c.talk = 0 ∧ c.gatePassed = false)
        ∧ (u8 bs 1 % 16 ≠ 8 → c.digitCount = u32 bs 59 / 67108864 % 32
            ∧ c.start.short = packedAt bs 59 ∧ c.wait = u16 bs 63 ∧ c.talk = u24 bs 65
            ∧ c.gatePassed = (u8 bs 57 / 16 % 2 == 1)
            ∧ (u8 bs 57 % 8 = 0 → c.kind = .paid ∧ c.zone = none)
            ∧ (1 ≤ u8 bs 57 % 8 → u8 bs 57 % 8 ≤ 5 → callKindCode c.kind = u8 bs 57 % 8
                ∧ c.zone = (if u8 bs 58 / 16 % 2 = 1 then none else some (u8 bs 58 % 16)))))
    ∧ (∀ (w : State) (x : Byte), liveLaid w (x :: imageFields .live w))

/-- The end of a bank load. A SWAP TARIFF's bank that fails its checks is let go and the order
answered INVALID BANK with section and entry; one that passes is PENDING and the order answered
DONE with the count of clamped multipliers (R55, R56); at a call boundary, once its time is reached, it
becomes active at once: its tables, the band, the other bank let go, bank and edition in the Tally (R57,
R58, R59). Behind a start-up load stage 6 begins: the bank active if it passed, the status byte posted, and
RUNNING once the stage's posts have their places (R62, R177, R179; log 60). The checks are R55's in their order, the fields those of section 13.6, clamped as
R56 says. The command makes the last byte cycles of its read run (log 8). -/
def Obligations.BankLoadEnds : Prop :=
  ∀ (s : State) (p : Profile) (d : List Byte) (bank : Bank), handed (.bank true) d s →
    s.gate.profile = some p → roomy s → ∀ bs, bs = s.tariff.buf ++ d →
    (∀ eff o, s.sys.part = .running → s.tariff.startLoad = none →
      s.tariff.swap = .loading bank eff o →
      (∀ sec idx, bankFault bs = some (sec, idx) →
        ∃ t, exec .bankLoadCheck s = .next t ∧ t.tariff.swap = .idle
          ∧ t.tariff.active = s.tariff.active
          ∧ (bank = .a → t.gate.guardA = false ∧ t.gate.guardB = s.gate.guardB)
          ∧ (bank = .b → t.gate.guardB = false ∧ t.gate.guardA = s.gate.guardA)
          ∧ t.mem = s.mem ∧ posted (outcomeRun p o.slot 7 (sec + 256 * idx)) (headGone s) t)
      ∧ (bankFault bs = none → s.call.station = .talking →
        ∃ t, exec .bankLoadCheck s = .next t
          ∧ t.tariff.swap = .pending bank eff (readTables bs)
          ∧ t.tariff.active = s.tariff.active
          ∧ t.gate.guardA = s.gate.guardA ∧ t.gate.guardB = s.gate.guardB
          ∧ t.mem = s.mem ∧ posted (outcomeRun p o.slot 1 (multsClamped bs)) (headGone s) t)
      ∧ (bankFault bs = none → s.call.station = .idle ∨ s.call.station = .ready →
        s.ring.slot = none →
        (eff = none ∨ (∃ e, eff = some e ∧ s.cal.valid = true ∧ e.le s.cal.time = true) →
          ∃ t, exec .bankLoadCheck s = .next t ∧ t.tariff.swap = .idle
            ∧ t.tariff.active = some (bank, readTables bs)
            ∧ t.cal.band = chooseBand (some (bank, readTables bs)) s.cal
            ∧ (bank = .a → t.gate.guardA = s.gate.guardA
                ∧ t.gate.guardB = (s.gate.guardB && s.tariff.active.map (·.1) != some .b))
            ∧ (bank = .b → t.gate.guardB = s.gate.guardB
                ∧ t.gate.guardA = (s.gate.guardA && s.tariff.active.map (·.1) != some .a))
            ∧ t.tally.bank = some bank ∧ t.tally.edition = (readTables bs).edition
            ∧ t.mem = s.mem ∧ posted (outcomeRun p o.slot 1 (multsClamped bs)) (headGone s) t)
        ∧ ((∃ e, eff = some e ∧ (s.cal.valid = false ∨ e.le s.cal.time = false)) →
          ∃ t, exec .bankLoadCheck s = .next t
            ∧ t.tariff.swap = .pending bank eff (readTables bs)
            ∧ t.tariff.active = s.tariff.active ∧ t.mem = s.mem)))
    ∧ (s.sys.part = .starting → s.tariff.startLoad = some bank → s.tariff.swap = .idle →
      ∃ t, exec .bankLoadCheck s = .next t ∧ t.mem = s.mem ∧ t.tariff.startLoad = none
        ∧ (t.sys.part = .running ∨ t.sys.part = .starting ∧ t.sys.stage = .announce)
        ∧ (s.gate.queue.length ≤ 4 → t.sys.part = .running)
        ∧ t.tariff.active
            = (if bankFault bs = none then some (bank, readTables bs) else s.tariff.active)
        ∧ posted (.write 0xFFFE [s.sys.status] .plain) (headGone s) t)
    ∧ (bs.length = 2048 →
      (((bs.take 8 ++ bs.drop 10).map (·.toNat)).sum % 65536 ≠ u16 bs 8 →
        bankFault bs = some (1, 0))
      ∧ (((bs.take 8 ++ bs.drop 10).map (·.toNat)).sum % 65536 = u16 bs 8 →
        (u8 bs 2 < 1 ∨ 16 < u8 bs 2 → bankFault bs = some (2, 1))
        ∧ (1 ≤ u8 bs 2 → u8 bs 2 ≤ 16 →
          (128 < u8 bs 3 → bankFault bs = some (2, 2))
          ∧ (u8 bs 3 ≤ 128 → (16 < u8 bs 4 → bankFault bs = some (2, 3))
            ∧ (u8 bs 4 ≤ 16 → (u8 bs 6 < 1 ∨ 250 < u8 bs 6 → bankFault bs = some (2, 4))
              ∧ (1 ≤ u8 bs 6 → u8 bs 6 ≤ 250 → u8 bs 2 ≤ u8 bs 5 →
                  bankFault bs = some (2, 5)))))
        ∧ (headerFits bs →
          (∀ i < u8 bs 2, (∀ j < i, zoneFits bs j) → ¬ zoneFits bs i →
            bankFault bs = some (3, i))
          ∧ ((∀ i < u8 bs 2, zoneFits bs i) →
            (∀ i < u8 bs 3, (∀ j < i, prefixFits bs j) → ¬ prefixFits bs i →
              bankFault bs = some (4, i))
            ∧ ((∀ i < u8 bs 3, prefixFits bs i) →
              (∀ i < u8 bs 3, (∀ j < i, ∀ k < j, ¬ prefixesEqual bs k j) →
                (∃ k < i, prefixesEqual bs k i) → bankFault bs = some (5, i))
              ∧ ((∀ i < u8 bs 3, ∀ k < i, ¬ prefixesEqual bs k i) →
                (∀ i < u8 bs 4, (∀ j < i, bandFits bs j) → ¬ bandFits bs i →
                  bankFault bs = some (6, i))
                ∧ ((∀ i < u8 bs 4, bandFits bs i) → bankFault bs = none))))))
      ∧ (bankFault bs = none → ∀ x, x = readTables bs →
        x.edition = u16 bs 0 ∧ x.defaultZone = u8 bs 5 ∧ x.q = u8 bs 6
        ∧ x.zones.length = u8 bs 2 ∧ x.prefixes.length = u8 bs 3 ∧ x.bands.length = u8 bs 4
        ∧ x.mults = (List.range 8).map (fun i => max 25 (min 400 (u16 bs (1104 + 2 * i))))
        ∧ multsClamped bs = ((List.range 8).filter (fun i =>
            u16 bs (1104 + 2 * i) < 25 || 400 < u16 bs (1104 + 2 * i))).length
        ∧ (∀ i z, x.zones[i]? = some z →
            z.s = u16 bs (17 + 12 * i) ∧ z.u = u16 bs (19 + 12 * i) ∧ z.l = u16 bs (21 + 12 * i)
            ∧ z.f = u16 bs (23 + 12 * i) ∧ z.maxLen = u8 bs (25 + 12 * i)
            ∧ z.kind = (if u8 bs (16 + 12 * i) = 1 then .timed
                else if u8 bs (16 + 12 * i) = 2 then .pulsed
                else if u8 bs (16 + 12 * i) = 3 then .free else .barred))
        ∧ (∀ i e, x.prefixes[i]? = some e → e.zone = u8 bs (213 + 6 * i)
            ∧ e.digits = (List.range (u8 bs (208 + 6 * i))).map (digitCode bs (209 + 6 * i)))
        ∧ (∀ i b, x.bands[i]? = some b → b.days = BitVec.ofNat 7 (u8 bs (976 + 8 * i))
            ∧ b.day = u8 bs (977 + 8 * i) ∧ b.month = u8 bs (978 + 8 * i)
            ∧ b.start = u16 bs (979 + 8 * i) ∧ b.stop = u16 bs (981 + 8 * i)
            ∧ b.band = u8 bs (983 + 8 * i))))

/-! ### The supply and the clock -/

/-- PWRGOOD falling while the part is RUNNING: FAILING with the inhibit set, the entry in progress kept
and the final Live Image begun; the lane held, a cut action marked, passages dropped, no more charging,
the purse kept, SEIZE open; memory as it is (R16, R84, R115, R134, R183). In STARTING the final Live
Image is given once the part has taken its state from stage 4, or at a soft restart; before that, and
in UNCONFIGURED, none is given, and the part goes DARK once the entry in progress is carried out (R16,
R177, R183). While DARK only the inhibit is set. HRESET, from any state but DARK, and the death of the
supply in FAILING leave the part DARK: the Post Queue discarded, memory, calendar and battery note
kept, ATTN released (R17, R34, R177, R183). The head entry counts as the one in progress (log 10); the
details of DARK and HRESET are log 25. -/
def Obligations.PowerFailureAndResetStopThePart : Prop :=
  ((∀ (s : State) (p : Profile), s.sys.part = .running → s.gate.profile = some p →
     ∃ t, exec .powerFail s = .next t ∧ t.sys.part = .failing ∧ t.gate.inhibit = true
       ∧ t.img.final = true
       ∧ s.gate.queue.take 1 ++ [.write p.liveBase [s.img.live.count + 1] .plain]
           <+: t.gate.queue
       ∧ t.coin.passages = []
       ∧ t.coin.escrow = (if s.coin.lane = .flushing then [] else s.coin.escrow)
       ∧ t.coin.lane = (if s.coin.lane = .jammed then .jammed else .clear)
       ∧ t.coin.gatePos = .hold
       ∧ t.coin.uncertain
           = (s.coin.uncertain || s.coin.lane == .toBox || s.coin.lane == .toReturn)
       ∧ t.meter.purse = s.meter.purse ∧ t.meter.units = s.meter.units
       ∧ t.meter.charge = s.meter.charge ∧ t.meter.metered = none
       ∧ t.line.seize = false ∧ t.ev.attn = s.ev.attn
       ∧ t.mem = s.mem ∧ t.cal = s.cal ∧ t.tally = s.tally ∧ t.pins = s.pins)
   ∧ (∀ s : State, s.sys.part = .dark → exec .powerFail s
       = .next { s with gate := { s.gate with inhibit := true, pwrgood := false } })
   ∧ (∀ (s : State) (p : Profile), s.sys.part = .starting → s.gate.profile = some p →
     s.sys.kind = .soft ∨ s.sys.imageTaken = true →
     ∃ t, exec .powerFail s = .next t ∧ t.sys.part = .failing ∧ t.gate.inhibit = true
       ∧ t.img.final = true
       ∧ s.gate.queue.take 1 ++ [.write p.liveBase [s.img.live.count + 1] .plain]
           <+: t.gate.queue
       ∧ t.meter.purse = s.meter.purse ∧ t.mem = s.mem ∧ t.cal = s.cal ∧ t.tally = s.tally)
   ∧ (∀ s : State, s.sys.part = .unconfigured
       ∨ (s.sys.part = .starting ∧ s.sys.kind ≠ .soft ∧ s.sys.imageTaken = false) →
     (s.gate.queue = [] →
       ∃ t, exec .powerFail s = .next t ∧ t.sys.part = .dark ∧ t.gate.inhibit = true
         ∧ t.gate.queue = [] ∧ t.mem = s.mem ∧ t.cal = s.cal ∧ t.pins = s.pins)
     ∧ (∀ e q, s.gate.queue = e :: q →
       ∃ t, exec .powerFail s = .next t ∧ t.sys.part = .failing ∧ t.gate.inhibit = true
         ∧ t.gate.queue = [e] ∧ t.gate.held = [] ∧ t.gate.done = s.gate.done
         ∧ t.mem = s.mem ∧ t.cal = s.cal ∧ t.pins = s.pins)))
  ∧ ((∀ s : State, s.sys.part ≠ .dark →
     ∃ t, exec .hresetAssert s = .next t ∧ t.sys.part = .dark ∧ t.gate.hreset = true
       ∧ t.gate.queue = [] ∧ t.gate.waiters = [] ∧ t.gate.held = [] ∧ t.ev.attn = false
       ∧ t.mem = s.mem ∧ t.cal = s.cal ∧ t.pins = s.pins)
   ∧ (∀ s : State, s.sys.part = .failing →
     ∃ t, exec .supplyDies s = .next t ∧ t.sys.part = .dark ∧ t.gate.inhibit = s.gate.inhibit
       ∧ t.gate.queue = [] ∧ t.gate.waiters = [] ∧ t.ev.attn = false
       ∧ t.mem = s.mem ∧ t.cal = s.cal ∧ t.pins = s.pins))

/-- The part leaves DARK for STARTING: cold if the battery note is set, else a hard reset if HRESET
brought the darkness, else a restoration; the calendar starts afresh at a cold power-on and is
otherwise kept with band 0; the anchor's read run is given (R16, R18, R41, R177, R178). The battery
failing while PWRGOOD is low is noted, and no byte of memory keeps its value; that each then reads
as a blank byte is the model's choice (R178, log 2). -/
def Obligations.DarkEndsAndTheBatteryIsNoted : Prop :=
  (∀ s : State, s.sys.part = .dark →
     ∃ t, exec .leaveDark s = .next t ∧ t.sys.part = .starting ∧ t.sys.stage = .anchor
       ∧ t.sys.kind = (if s.cal.note then .cold else if s.sys.darkByReset then .hard
           else .restoration)
       ∧ t.gate.inhibit = false ∧ t.gate.profile = none ∧ t.gate.slotGuard = 0
       ∧ t.gate.guardA = false ∧ t.gate.guardB = false
       ∧ t.gate.queue = [.read 0xFFF0 2 .anchor] ∧ t.mem = s.mem
       ∧ t.cal.time = (if s.cal.note then ⟨0, 1, 1, 0, 0, 0⟩ else s.cal.time)
       ∧ t.cal.sub = (if s.cal.note then 0 else s.cal.sub)
       ∧ t.cal.weekday = (if s.cal.note then 6 else s.cal.weekday)
       ∧ t.cal.valid = (if s.cal.note then false else s.cal.valid)
       ∧ t.cal.band = 0)
  ∧ (∀ s : State,
     (s.gate.pwrgood = false →
       ∃ t, exec .batteryFail s = .next t ∧ t.cal = { s.cal with note := true }
         ∧ (∀ a, Memory.read t.mem a = Memory.blank)
         ∧ t.sys = s.sys ∧ t.gate = s.gate ∧ t.tally = s.tally)
     ∧ (s.gate.pwrgood = true → exec .batteryFail s = .next s))

/-! ### Orders: taking, refusing -/

/-- While RUNNING and idle, the Order Unit takes the head of the Order Queue: the slot is TAKEN,
the unit busy, the read of bytes 0 to 27 and then the run of TAKEN are given (R21). A code that is
not one of the fifteen is answered UNKNOWN ORDER with the code (R22 step 1). -/
def Obligations.OrdersAreTakenOrUnknown : Prop :=
  (∀ (s : State) (p : Profile) (n : Fin 16) (q : List (Fin 16)), s.sys.part = .running →
     s.orders.busy = none → s.orders.queue = n :: q → s.gate.profile = some p → roomy s →
     leadsWith .orderTaken s
       { s with orders := { s.orders with
           slots := s.orders.slots.set n .taken, queue := q, busy := some n, data := none } }
       (fun t => s.gate.queue ++ [.read (p.slotsBase + 32 * n.val) 28 (.order n),
         .write (p.slotsBase + 32 * n.val + 31) [2] .plain] <+: t.gate.queue))
  ∧ (∀ (s : State) (n : Fin 16) (d : List Byte) (code : Nat), orderAt code n d s →
     s.gate.profile ≠ none → roomy s → code = 0 ∨ 15 < code →
     leadsWith .unknownOrder s (answering s) (answered n 3 code s))

/-- An order whose row's conditions are not met is answered NOT NOW, the detail naming the first
unmet condition and the station state (R22 step 2, section 13.3). -/
def Obligations.UnavailableOrderIsNotNow : Prop :=
  ∀ (s : State) (n : Fin 16) (d : List Byte), s.gate.profile ≠ none → roomy s →
    ∀ x, x = s.call.station → ∀ st, st = 256 * stationCode x →
    (orderAt 1 n d s → x ≠ .ready → x ≠ .reporting →
      leadsWith .dial s (answering s) (answered n 5 (1 + st) s))
    ∧ (orderAt 2 n d s → x ≠ .dialling → x ≠ .creditWait → x ≠ .talking → x ≠ .talkingIn →
      leadsWith .dialMore s (answering s) (answered n 5 (1 + st) s))
    ∧ (orderAt 3 n d s → x ≠ .ready → x ≠ .dialling → x ≠ .creditWait → x ≠ .ringback →
      leadsWith .returnCoins s (answering s) (answered n 5 (1 + st) s))
    ∧ (orderAt 4 n d s → x ≠ .dialling → x ≠ .creditWait → x ≠ .ringback → x ≠ .talking →
      leadsWith .nextCall s (answering s) (answered n 5 (1 + st) s))
    ∧ (orderAt 5 n d s → x ≠ .ringIn →
      leadsWith .answer s (answering s) (answered n 5 (1 + st) s))
    ∧ (orderAt 9 n d s →
      (x ≠ .idle → leadsWith .openVisit s (answering s) (answered n 5 (1 + st) s))
      ∧ (x = .idle → s.meter.purse.state = .opened ∨ s.meter.purse.state = .settling
            ∨ (s.meter.purse.state = .held ∧ s.meter.purse.hold ≠ .laneJammed) →
        leadsWith .openVisit s (answering s) (answered n 5 (2 + st) s))
      ∧ (x = .idle → s.meter.purse.state = .absent
            ∨ (s.meter.purse.state = .held ∧ s.meter.purse.hold = .laneJammed) →
        s.visit.state ≠ .closed →
        leadsWith .openVisit s (answering s) (answered n 5 (3 + st) s)))
    ∧ (orderAt 13 n d s →
      (s.visit.state = .closed ∨ s.visit.kind = .collection →
        leadsWith .clearLane s (answering s) (answered n 5 (3 + st) s))
      ∧ (s.visit.state ≠ .closed → s.visit.kind = .service → s.coin.lane ≠ .jammed →
        s.coin.uncertain = false →
        leadsWith .clearLane s (answering s) (answered n 5 (5 + st) s)))
    ∧ (orderAt 15 n d s →
      (x ≠ .idle → leadsWith .restart s (answering s) (answered n 5 (1 + st) s))
      ∧ (x = .idle → s.meter.purse.state ≠ .absent →
        leadsWith .restart s (answering s) (answered n 5 (2 + st) s))
      ∧ (x = .idle → s.meter.purse.state = .absent → s.visit.state ≠ .closed →
        leadsWith .restart s (answering s) (answered n 5 (3 + st) s))
      ∧ (x = .idle → s.meter.purse.state = .absent → s.visit.state = .closed →
        s.call.claim = .report →
        leadsWith .restart s (answering s) (answered n 5 (4 + st) s)))

/-! ### Orders of the calls -/

/-- DIAL in READY starts a call: the claim CALLER, a seizure asked, the station DIALLING, the digits in
the number and the Dial Queue, and the order answered DONE with their count (R95, R96, R110). For
digits whose analysis leaves the zone undecided, with no complete flag. DIAL MORE (R96): in DIALLING
its digits join the number and the Dial Queue (here with the zone left undecided and the line not yet
SENDING); in TALKING they join the Dial Queue while it has room and leave the number alone (here with
the sender busy). DONE carries the count accepted. A bad count, code or, in PULSE mode, star or square
is BAD PARAMETER with its offset (R95, R96). In REPORTING, DIAL is NOT NOW on-hook or for any number
but an emergency one, for which the report call gives way (R109); the count answered then is log 43,
and that the renewal marks are cleared with the snapshot marks log 46. A digit that decides the number
has the effect of R98 and R99 by the result of its analysis (R63, R64, R66); that the pause, code 12, is
never decisive, also as the first code, is the model's reading (log 21). -/
def Obligations.DialAndDialMoreAcceptDigits : Prop :=
  (∀ (s : State) (p : Profile) (n : Fin 16) (d : List Byte) (ds : List Nat), orderAt 1 n d s →
     s.gate.profile = some p → roomy s → noReport s → s.call.station = .ready →
     (s.line.state = .released ∨ s.line.state = .clearing) →
     ds = dialDigits d → natAt d 2 ≤ 24 → natAt d 3 = 0 → (∀ x ∈ ds, x ≤ 12) →
     (p.pulse = true → ∀ x ∈ ds, x ≠ 10 ∧ x ≠ 11) →
     (∀ l x, l ++ [x] <+: ds →
       analyseDigit p (s.tariff.active.map (·.2)) (l ++ [x]) x = none) →
     leadsWith .dial s (answering s) (fun t =>
       t.call.station = .dialling ∧ t.call.claim = .caller ∧ t.call.dialQueue = ds
       ∧ (∃ c, t.call.cur = some c ∧ c.number = ds ∧ c.kind = .undecided ∧ c.zone = none
           ∧ c.decided = false ∧ c.complete = false ∧ c.gatePassed = false
           ∧ c.seized = (s.line.state == .released)
           ∧ c.edition = if ds = [] then 0 else activeEdition s)
       ∧ (s.line.state = .released →
           t.line.state = .seizing ∧ t.line.seize = true ∧ t.line.loopTimer = some 500)
       ∧ (s.line.state = .clearing → t.line.state = .clearing ∧ t.line.waiting = true)
       ∧ answered n 1 ds.length s t))
  ∧ (∀ (s : State) (p : Profile) (n : Fin 16) (d : List Byte) (ds : List Nat) (c : CallInfo),
     orderAt 2 n d s → s.gate.profile = some p → roomy s → noReport s → s.call.cur = some c →
     ds = dialDigits d → natAt d 2 ≤ 24 → natAt d 3 = 0 → (∀ x ∈ ds, x ≤ 12) →
     (s.call.station = .dialling → s.line.state ≠ .sending → c.decided = false →
       c.complete = false → c.number.length + ds.length ≤ 24 →
       s.call.dialQueue.length + ds.length ≤ 24 →
       (p.pulse = true → ∀ x ∈ ds, x ≠ 10 ∧ x ≠ 11) →
       (∀ l x, l ++ [x] <+: ds →
         analyseDigit p (s.tariff.active.map (·.2)) (c.number ++ l ++ [x]) x = none) →
       leadsWith .dialMore s (answering s) (fun t =>
         t.call.station = .dialling ∧ t.call.dialQueue = s.call.dialQueue ++ ds
         ∧ (∃ c', t.call.cur = some c' ∧ c'.number = c.number ++ ds ∧ c'.decided = false)
         ∧ t.line = s.line ∧ answered n 1 ds.length s t))
     ∧ (s.call.station = .talking → s.line.sender ≠ none →
       leadsWith .dialMore s (answering s) (fun t =>
         t.call.station = .talking
         ∧ t.call.dialQueue = s.call.dialQueue ++ ds.take (24 - s.call.dialQueue.length)
         ∧ t.call.cur = some c ∧ t.line = s.line
         ∧ answered n 1 (min (24 - s.call.dialQueue.length) ds.length) s t)))
  ∧ (∀ (s : State) (p : Profile) (n : Fin 16) (d : List Byte) (c : Instr) (pulse : Bool),
     s.gate.profile = some p → roomy s → d.length = 28 →
     (c = .dial ∧ orderAt 1 n d s ∧ (s.call.station = .ready ∨ s.call.station = .reporting)
         ∧ pulse = p.pulse
       ∨ c = .dialMore ∧ orderAt 2 n d s
         ∧ ((s.call.station = .dialling ∨ s.call.station = .creditWait) ∧ pulse = p.pulse
           ∨ (s.call.station = .talking ∨ s.call.station = .talkingIn) ∧ pulse = false)) →
     (24 < u8 d 2 → leadsWith c s (answering s) (answered n 4 2 s))
     ∧ (u8 d 2 ≤ 24 → ∀ i < u8 d 2,
       (12 < digitCode d 4 i → (∀ j < i, digitCode d 4 j ≤ 12) →
         leadsWith c s (answering s) (answered n 4 (4 + i / 2) s))
       ∧ (pulse = true → (∀ j < u8 d 2, digitCode d 4 j ≤ 12) →
         digitCode d 4 i = 10 ∨ digitCode d 4 i = 11 →
         (∀ j < i, digitCode d 4 j ≠ 10 ∧ digitCode d 4 j ≠ 11) →
         leadsWith c s (answering s) (answered n 4 (4 + i / 2) s))))
  ∧ (∀ (s : State) (p : Profile) (n : Fin 16) (d : List Byte) (ds : List Nat), orderAt 1 n d s →
     s.gate.profile = some p → roomy s → s.call.station = .reporting → ds = dialDigits d →
     natAt d 2 ≤ 24 → (∀ x ∈ ds, x ≤ 12) → (p.pulse = true → ∀ x ∈ ds, x ≠ 10 ∧ x ≠ 11) →
     (s.call.hook = false →
       leadsWith .dial s (answering s) (answered n 5 (1 + 256 * 8) s))
     ∧ (s.call.hook = true → ds.filter (fun x => x != 12) ∉ p.emergency →
       leadsWith .dial s (answering s) (answered n 5 (4 + 256 * 8) s))
     ∧ (s.call.hook = true → ds.filter (fun x => x != 12) ∈ p.emergency →
       ds.filter (fun x => x != 12) ≠ [] → s.line.state ≠ .released →
       s.line.state ≠ .clearing →
       ∃ t, exec .dial s = .next t ∧ answered n 1 ds.length s t ∧ t.call.station = .dialling
         ∧ t.call.claim = .caller ∧ t.call.dialQueue = ds ∧ t.report.phase = .clearing
         ∧ t.report.queue = s.report.queue.map (fun e => { e with snap := false, renew := false })
         ∧ t.report.attempt = s.report.attempt
         ∧ t.line.state = .clearing ∧ t.line.waiting = true ∧ t.line.seize = false
         ∧ (∃ c, t.call.cur = some c ∧ c.kind = .emergency ∧ c.decided = true
             ∧ c.complete = true ∧ c.gatePassed = true ∧ c.number = ds ∧ c.zone = none)
         ∧ t.ring.seq = (if s.report.seized then (s.ring.seq + 1) % 65536 else s.ring.seq)
         ∧ t.coin.escrow = s.coin.escrow ∧ t.mem = s.mem))
  ∧ (∀ (s : State) (p : Profile) (n : Fin 16) (d : List Byte) (ds l : List Nat) (x : Nat)
     (dec : Decision), orderAt 1 n d s → s.gate.profile = some p → roomy s → noReport s →
     s.call.station = .ready → s.call.cur = none →
     (s.line.state = .released ∨ s.line.state = .clearing) →
     ds = dialDigits d → ds = l ++ [x] → natAt d 2 ≤ 24 → natAt d 3 = 0 → (∀ y ∈ ds, y ≤ 12) →
     (p.pulse = true → ∀ y ∈ ds, y ≠ 10 ∧ y ≠ 11) →
     (∀ l' y, l' ++ [y] <+: l →
       analyseDigit p (s.tariff.active.map (·.2)) (l' ++ [y]) y = none) →
     analyseDigit p (s.tariff.active.map (·.2)) ds x = some dec →
     ∀ ended : State → Prop,
     ended = (fun t => callOver .ready s t ∧ answered n 1 ds.length s t ∧ t.line.state = .clearing
       ∧ t.ring.seq = if s.line.state = .released then (s.ring.seq + 1) % 65536 else s.ring.seq) →
     (dec = .emergency →
       leadsWith .dial s (answering s) (fun t => t.call.station = .dialling
         ∧ answered n 1 ds.length s t
         ∧ ∃ c, t.call.cur = some c ∧ c.kind = .emergency ∧ c.decided = true
             ∧ c.gatePassed = true ∧ c.complete = true ∧ c.number = ds ∧ c.zone = none))
     ∧ (dec = .noTariff → ∃ t, exec .dial s = .next t ∧ ended t)
     ∧ ∀ bank tab k z need, dec = .zone k → s.tariff.active = some (bank, tab) →
       tab.zones[k]? = some z → need = z.s + unitCharge z.u
         (if z.kind = .timed then tab.mults.getD s.cal.band 100 else 100) tab.q →
       (z.kind = .barred ∨ s.meter.purse.state = .settling ∨ s.meter.purse.state = .held
           ∨ s.call.mode = .closed ∨ (s.call.mode = .freeOnly ∧ z.kind ≠ .free) →
         ∃ t, exec .dial s = .next t ∧ ended t)
       ∧ (s.meter.purse.state ≠ .settling → s.meter.purse.state ≠ .held →
         (z.kind = .free ∧ s.call.mode ≠ .closed
             ∨ (z.kind = .timed ∨ z.kind = .pulsed) ∧ s.call.mode = .full
               ∧ need ≤ s.meter.purse.d - s.meter.purse.c →
           leadsWith .dial s (answering s) (fun t => t.call.station = .dialling
             ∧ answered n 1 ds.length s t
             ∧ ∃ c, t.call.cur = some c ∧ c.decided = true ∧ c.gatePassed = true
                 ∧ c.zone = some k ∧ c.number = ds ∧ c.complete = decide (z.maxLen ≤ ds.length)
                 ∧ c.kind = if z.kind = .free then .free else .paid))
         ∧ ((z.kind = .timed ∨ z.kind = .pulsed) → s.call.mode = .full →
           s.meter.purse.d - s.meter.purse.c < need →
           leadsWith .dial s (answering s) (fun t => t.call.station = .creditWait
             ∧ t.call.creditTimer = some (p.creditHoldS * 1000) ∧ answered n 1 ds.length s t
             ∧ ∃ c, t.call.cur = some c ∧ c.decided = true ∧ c.gatePassed = false
                 ∧ c.zone = some k ∧ c.number = ds ∧ c.kind = .paid ∧ c.required = need))))
  ∧ (∀ (p : Profile) (a : Option Tables) (tab : Tables) (number str : List Nat) (x : Nat),
     analyseDigit p a number 12 = none
     ∧ analyseDigit p none number 10 = some .noTariff
     ∧ analyseDigit p none number 11 = some .noTariff
     ∧ analyseDigit p (some tab) number 10 = some (.zone tab.defaultZone)
     ∧ analyseDigit p (some tab) number 11 = some (.zone tab.defaultZone)
     ∧ (x < 10 → analyseDigit p a number x = analyse p a (number.filter (fun y => y != 12)))
     ∧ (str ∈ p.emergency → str ≠ [] → analyse p a str = some .emergency)
     ∧ (str ∉ p.emergency → (∃ e ∈ p.emergency, str <+: e ∧ e ≠ []) → analyse p a str = none)
     ∧ ((∀ e ∈ p.emergency, e ≠ [] → ¬ str <+: e) →
       analyse p none str = some .noTariff
       ∧ ((∃ e ∈ tab.prefixes, str <+: e.digits ∧ str ≠ e.digits) →
         analyse p (some tab) str = none)
       ∧ ((∀ e ∈ tab.prefixes, str <+: e.digits → str = e.digits) →
         analyse p (some tab) str = some (.zone (longestZone tab str))))
     ∧ ((∀ e ∈ tab.prefixes, ¬ e.digits <+: str) → longestZone tab str = tab.defaultZone)
     ∧ (∀ e ∈ tab.prefixes, e.digits ≠ [] → e.digits <+: str →
       (∀ f ∈ tab.prefixes, f.digits <+: str →
         f.digits.length < e.digits.length ∨ (f.digits = e.digits ∧ f.zone = e.zone)) →
       longestZone tab str = e.zone))

/-- RETURN COINS by the purse state (R132): UNCHANGED unless it is OPEN; in READY the settlement
begins, and a coin at the head of a clear lane starts on its way back, or an empty lane closes the
purse with its forfeit (R128, R129, R131); while an attempt is under way, that is abandoned first.
NEXT CALL ends the call and leaves the station READY, the purse open and its figures as they were, or
settling where a settlement was due at the end of the call (R102, R103, R126, R128, log 40). That a
forfeited total read above 9,999,999 comes down to that is log 65. -/
def Obligations.ReturnCoinsAndNextCallEndTheAttempt : Prop :=
  (∀ (s : State) (n : Fin 16) (d : List Byte), orderAt 3 n d s → s.gate.profile ≠ none →
     roomy s → noReport s →
     ((s.call.station = .ready ∨ s.call.station = .dialling ∨ s.call.station = .creditWait
         ∨ s.call.station = .ringback) → s.meter.purse.state ≠ .opened →
       leadsWith .returnCoins s (answering s) (answered n 2 0 s))
     ∧ (s.call.station = .ready → s.meter.purse.state = .opened → s.coin.started = true →
       s.coin.lane = .clear →
       (∀ e l, s.coin.escrow = e :: l → e.cls ≠ 0 → s.meter.purse.c ≤ s.meter.purse.k →
         leadsWith .returnCoins s (answering s) (fun t =>
           t.meter.purse = { s.meter.purse with state := .settling }
           ∧ t.coin.lane = .toReturn ∧ t.coin.gatePos = .toReturn
           ∧ t.coin.dropTimer = some (param (·.dropMs) s) ∧ t.coin.purseFig = .settling
           ∧ answered n 1 0 s t))
       ∧ (s.coin.escrow = [] →
         leadsWith .returnCoins s (answering s) (fun t =>
           t.meter.purse = ⟨.absent, 0, 0, 0, 0, 0, .nothing⟩ ∧ t.coin.purseFig = .absent
           ∧ t.coin.lane = .clear
           ∧ t.tally.forfeited
               = min 9999999 (s.tally.forfeited + (s.meter.purse.k - s.meter.purse.c))
           ∧ answered n 1 0 s t)))
     ∧ ((s.call.station = .dialling ∨ s.call.station = .creditWait
         ∨ s.call.station = .ringback) → s.meter.purse.state = .opened → s.call.cur ≠ none →
       ∃ t, exec .returnCoins s = .next t ∧ callOver .ready s t ∧ answered n 1 0 s t
         ∧ t.meter.purse.state ≠ .opened ∧ t.coin.escrow = s.coin.escrow ∧ t.mem = s.mem))
  ∧ (∀ (s : State) (n : Fin 16) (d : List Byte), orderAt 4 n d s → s.gate.profile ≠ none → roomy s →
     noReport s → s.call.cur ≠ none →
     (s.call.station = .dialling ∨ s.call.station = .creditWait ∨ s.call.station = .ringback
       ∨ s.call.station = .talking) →
     ∃ t, exec .nextCall s = .next t ∧ callOver .ready s t ∧ answered n 1 0 s t
       ∧ (s.call.hook = true → s.meter.purse.state = .opened →
           s.call.cur.any (·.settleDue) = false → t.meter.purse = s.meter.purse)
       ∧ t.coin.escrow = s.coin.escrow ∧ t.mem = s.mem)

/-- An incoming call is answered in RING IN, by ANSWER with the hook off-hook or by the off-hook
itself: TALKING IN, the claim INCOMING, a seizure asked, no zone (R90, R105). ANSWER with the hook
on-hook is NOT NOW with condition 1 and the station state. A timer is due when under 100 ms are
left (log 6). -/
def Obligations.IncomingCallIsAnswered : Prop :=
  ∀ s : State, s.sys.part = .running → noReport s → s.call.station = .ringIn →
    (∀ n d, orderAt 5 n d s → s.gate.profile ≠ none → roomy s →
      (s.call.hook = true →
        leadsWith .answer s
          { answering s with call := { s.call with ringTimer := none } }
          (fun t => takenIn s t ∧ answered n 1 0 s t))
      ∧ (s.call.hook = false →
        leadsWith .answer s (answering s) (answered n 5 (1 + 256 * 6) s)))
    ∧ (timerDue s.call.hookTimer = true → s.pins.hook = true → s.call.hook = false →
      leadsWith .offHook s
        { s with call := { s.call with ringTimer := none, hook := true, hookTimer := none } }
        (takenIn s))

/-! ### Orders of the clock and the tariff -/

/-- SET CLOCK (R43, R44): a field out of range is BAD PARAMETER with its offset and changes
nothing; otherwise the counters, the sub-second count, the weekday and the flag are set, the band
selected afresh, and the order answered DONE. ADJUST CLOCK (R45): UNCHANGED at second 0; below 30
the second and the sub-second count become 0; from 30 the minute takes a carry that ripples
through hour, day and weekday, month and year. The valid flag is left, but for a year wrap, which clears
it and computes the weekday afresh (R38, R39, R40). -/
def Obligations.ClockOrdersSetTheTime : Prop :=
  (∀ (s : State) (n : Fin 16) (d : List Byte), orderAt 6 n d s → s.gate.profile ≠ none → roomy s →
     (∀ i, timeFault (readFull d 2) = some i →
       leadsWith .setClock s (answering s) (answered n 4 (2 + i) s))
     ∧ (timeFault (readFull d 2) = none →
       ∀ c, c = { s.cal with time := readFull d 2, sub := 0, weekday := weekdayOf (readFull d 2),
                             valid := true } →
       leadsWith .setClock s { answering s with cal := c } (fun t =>
         (s.tariff.swap = .idle → t.cal.band = chooseBand s.tariff.active c)
         ∧ answered n 1 0 s t)))
  ∧ (∀ (s : State) (n : Fin 16) (d : List Byte), orderAt 7 n d s → s.gate.profile ≠ none → roomy s →
     (s.cal.time.second = 0 → leadsWith .adjustClock s (answering s) (answered n 2 0 s))
     ∧ (1 ≤ s.cal.time.second → s.cal.time.second < 30 →
       leadsWith .adjustClock s
         { answering s with cal := { s.cal with time := { s.cal.time with second := 0 }, sub := 0 } }
         (answered n 1 0 s))
     ∧ (30 ≤ s.cal.time.second → s.cal.time.minute < 59 →
       leadsWith .adjustClock s
         { answering s with cal := { s.cal with
             time := { s.cal.time with second := 0, minute := s.cal.time.minute + 1 }, sub := 0 } }
         (answered n 1 0 s))
     ∧ (30 ≤ s.cal.time.second → s.cal.time.minute = 59 → s.cal.time.hour < 23 →
       leadsWith .adjustClock s
         { answering s with cal := { s.cal with
             time := { s.cal.time with second := 0, minute := 0, hour := s.cal.time.hour + 1 },
             sub := 0 } }
         (answered n 1 0 s))
     ∧ (30 ≤ s.cal.time.second → s.cal.time.minute = 59 → s.cal.time.hour = 23 →
       s.cal.time.day < monthLength s.cal.time.year s.cal.time.month →
       leadsWith .adjustClock s
         { answering s with cal := { s.cal with
             time := { s.cal.time with second := 0, minute := 0, hour := 0,
                                       day := s.cal.time.day + 1 },
             sub := 0, weekday := if s.cal.weekday < 6 then s.cal.weekday + 1 else 0 } }
         (answered n 1 0 s))
     ∧ (30 ≤ s.cal.time.second → s.cal.time.minute = 59 → s.cal.time.hour = 23 →
       s.cal.time.day = monthLength s.cal.time.year s.cal.time.month → s.cal.time.month < 12 →
       leadsWith .adjustClock s
         { answering s with cal := { s.cal with
             time := ⟨s.cal.time.year, s.cal.time.month + 1, 1, 0, 0, 0⟩,
             sub := 0, weekday := if s.cal.weekday < 6 then s.cal.weekday + 1 else 0 } }
         (answered n 1 0 s))
     ∧ (30 ≤ s.cal.time.second → s.cal.time.minute = 59 → s.cal.time.hour = 23 →
       s.cal.time.day = 31 → s.cal.time.month = 12 →
       (s.cal.time.year < 99 →
         leadsWith .adjustClock s
           { answering s with cal := { s.cal with
               time := ⟨s.cal.time.year + 1, 1, 1, 0, 0, 0⟩,
               sub := 0, weekday := if s.cal.weekday < 6 then s.cal.weekday + 1 else 0 } }
           (answered n 1 0 s))
       ∧ (s.cal.time.year = 99 →
         leadsWith .adjustClock s
           { answering s with cal := { s.cal with
               time := ⟨0, 1, 1, 0, 0, 0⟩, sub := 0, weekday := 6, valid := false } }
           (answered n 1 0 s))))

/-- SWAP TARIFF: the checks of R52 in their order, and the acceptance of R53: the bank guarded, the
swap state LOADING with the bank, the time and the slot, the Order Unit idle, the load's first run
given, another pending bank let go. -/
def Obligations.SwapTariffLoadsTheBank : Prop :=
  ∀ (s : State) (p : Profile) (n : Fin 16) (d : List Byte), orderAt 8 n d s →
    s.gate.profile = some p → roomy s →
    (natAt d 2 ≠ 1 → natAt d 2 ≠ 2 → leadsWith .swapTariff s (answering s) (answered n 4 2 s))
    ∧ ∀ bank, bankOf (natAt d 2) = some bank →
      (∀ x e o, s.tariff.swap = .loading x e o →
        leadsWith .swapTariff s (answering s) (answered n 6 0 s))
      ∧ ((∀ x e o, s.tariff.swap ≠ .loading x e o) →
        (∀ tab, s.tariff.active = some (bank, tab) →
          leadsWith .swapTariff s (answering s) (answered n 4 2 s))
        ∧ ((∀ tab, s.tariff.active ≠ some (bank, tab)) →
          (∀ i, readFull d 3 ≠ ⟨0, 0, 0, 0, 0, 0⟩ → timeFault (readFull d 3) = some i →
            leadsWith .swapTariff s (answering s) (answered n 4 (3 + i) s))
          ∧ (readFull d 3 = ⟨0, 0, 0, 0, 0, 0⟩ ∨ timeFault (readFull d 3) = none →
            leadsWith .swapTariff s
              { s with
                orders := { s.orders with busy := none, data := none },
                tariff := { s.tariff with buf := [] } }
              (fun t =>
                t.tariff.swap = .loading bank
                  (if readFull d 3 = ⟨0, 0, 0, 0, 0, 0⟩ then none else some (readFull d 3))
                  ⟨n, d.getD 1 0⟩
                ∧ t.tariff.active = s.tariff.active
                ∧ t.gate.guardA = (bank == .a || (s.gate.guardA && match s.tariff.swap with
                    | .pending .a _ _ => false
                    | _ => true))
                ∧ t.gate.guardB = (bank == .b || (s.gate.guardB && match s.tariff.swap with
                    | .pending .b _ _ => false
                    | _ => true))
                ∧ posted (.read (bankBase p bank) 64 (.bank false)) s t))))

/-! ### Orders of the visits, the tamper channels, the reports, the lane and the part -/

/-- OPEN VISIT (R172): with its conditions met, a bad kind is BAD PARAMETER, a COLLECTION with a
purse open NOT NOW; otherwise the visit is open, awaiting the door or found with it open, the
Tamper Monitor hears its kind, and an ACTIVE DOOR channel is LATCHED (R138). With the CASE input
closed and CASE not ACTIVE. CLOSE VISIT (R175): UNCHANGED with no visit open; otherwise the visit's
record joins the head of a history of four, the visits count rises, the visit is closed and
reported ended. Out with the box, the box tallies are reset first and the record says the box was
away (R174). With DOOR and CASE closed and not ACTIVE. That the class counts noted are 0 until the box is
out is the model's choice (log 4). -/
def Obligations.VisitOrdersOpenAndClose : Prop :=
  (∀ (s : State) (n : Fin 16) (d : List Byte), orderAt 9 n d s → s.gate.profile ≠ none → roomy s →
     s.call.station = .idle → s.visit.state = .closed →
     (s.meter.purse.state = .absent → natAt d 2 ≠ 1 → natAt d 2 ≠ 2 →
       leadsWith .openVisit s (answering s) (answered n 4 2 s))
     ∧ (s.meter.purse.state = .held → s.meter.purse.hold = .laneJammed → natAt d 2 = 1 →
       leadsWith .openVisit s (answering s) (answered n 5 2 s))
     ∧ (s.meter.purse.state = .absent → (natAt d 2 = 1 ∨ natAt d 2 = 2) →
       ∀ kind, kind = (if natAt d 2 = 1 then VisitKind.collection else .service) →
       (∀ x ∈ codesAt d 3 2, x ≤ 9) → s.tamper.case.isOpen = false →
       (getChan .case s).state ≠ .active →
       leadsWith .openVisit s
         { answering s with
           visit :=
             { state := if s.tamper.door.isOpen then .doorOpen else .awaitingDoor, kind := kind,
               collector := codesAt d 3 2, opened := s.cal.time.short, value := 0, coins := 0,
               noted := [0, 0, 0, 0, 0, 0], left := false,
               timer := if s.tamper.door.isOpen then none
                 else some (param (·.visitDoorS) s * 1000) },
           tamper := { s.tamper with
             visitKind := some kind,
             chans := if (getChan .door s).state = .active then
                 { s.tamper.chans with door := { s.tamper.chans.door with state := .latched } }
               else s.tamper.chans } }
         (answeredInTurn n 1 0 s)))
  ∧ (∀ (s : State) (n : Fin 16) (d : List Byte), orderAt 10 n d s → s.gate.profile ≠ none → roomy s →
     (s.visit.state = .closed → leadsWith .closeVisit s (answering s) (answered n 2 0 s))
     ∧ (s.visit.state ≠ .closed → s.tamper.door.isOpen = false → s.tamper.case.isOpen = false →
       (getChan .door s).state ≠ .active → (getChan .case s).state ≠ .active →
       ∃ t, exec .closeVisit s = .next t ∧ answered n 1 0 s t ∧ t.visit.state = .closed
         ∧ t.visit.timer = none ∧ t.tamper.visitKind = none ∧ t.tamper.chans = s.tamper.chans
         ∧ t.tally.visits = min 65535 (s.tally.visits + 1)
         ∧ t.tally.history = (⟨s.visit.kind, s.visit.left || s.visit.state == .boxOut, false,
             s.visit.collector, s.visit.opened, s.cal.time.short, s.visit.value,
             s.visit.coins⟩ :: s.tally.history).take 4
         ∧ t.tally.boxValue = (if s.visit.state = .boxOut then 0 else s.tally.boxValue)
         ∧ t.tally.boxCoins = (if s.visit.state = .boxOut then 0 else s.tally.boxCoins)
         ∧ t.tally.chargeTotal = (if s.visit.state = .boxOut then 0 else s.tally.chargeTotal)
         ∧ (s.meter.purse.state = .absent → t.tally.forfeited
             = if s.visit.state = .boxOut then 0 else s.tally.forfeited)
         ∧ t.coin.escrow = s.coin.escrow ∧ t.mem = s.mem))

/-- CLEAR TAMPER (R147): a code outside 1 to 8 is BAD PARAMETER; a QUIET channel UNCHANGED; an
ACTIVE one NOT NOW with the code; a LATCHED one becomes QUIET with no trips, no times, its base
severity and no report, its raw count kept, the count before given as the detail (in its turn behind
the Tamper Area's rewrite, R12), and a queued or failed report withdrawn (here with no report call on
the line). -/
def Obligations.ClearTamperQuietsTheChannel : Prop :=
  ∀ (s : State) (p : Profile) (n : Fin 16) (d : List Byte), orderAt 11 n d s →
    s.gate.profile = some p → roomy s → s.report.phase = .noCall →
    (natAt d 2 < 1 ∨ 8 < natAt d 2 → leadsWith .clearTamper s (answering s) (answered n 4 2 s))
    ∧ ∀ ch, natAt d 2 = channelCode ch →
      ((getChan ch s).state = .quiet →
        leadsWith .clearTamper s (answering s) (answered n 2 0 s))
      ∧ ((getChan ch s).state = .active →
        leadsWith .clearTamper s (answering s) (answered n 5 (channelCode ch) s))
      ∧ ((getChan ch s).state = .latched →
        ∃ t, exec .clearTamper s = .next t ∧ answeredInTurn n 1 (getChan ch s).trips s t
          ∧ getChan ch t = ⟨.quiet, baseSeverity p ch, 0, ⟨0, 0, 0, 0, 0⟩, ⟨0, 0, 0, 0, 0⟩,
              (getChan ch s).raw, .idle⟩
          ∧ (∀ other, other ≠ ch → getChan other t = getChan other s)
          ∧ t.tamper.force = s.tamper.force ∧ t.tamper.shockWindow = s.tamper.shockWindow
          ∧ ((getChan ch s).status = .queued ∨ (getChan ch s).status = .failed →
              t.report.queue = s.report.queue.filter (fun e => e.code != channelCode ch))
          ∧ ((getChan ch s).status = .idle ∨ (getChan ch s).status = .sent →
              t.report.queue = s.report.queue)
          ∧ t.tally.visits = s.tally.visits ∧ t.mem = s.mem)

/-- REPORT NOW (R151): UNCHANGED while a TEST stands in the queue; otherwise a TEST of severity 0
and the present time takes its place by the queue order of R150, and the order is answered DONE
with the number queued. With the round FAILED every FAILED entry becomes QUEUED, its channel told, and
attempt 1 is due (R152). In a round, where no entry is FAILED, the round goes on. -/
def Obligations.ReportNowQueuesATest : Prop :=
  ∀ (s : State) (n : Fin 16) (d : List Byte), orderAt 12 n d s → s.gate.profile ≠ none → roomy s →
    ((∃ e ∈ s.report.queue, e.code = 9) →
      leadsWith .reportNow s (answering s) (answered n 2 0 s))
    ∧ ((∀ e ∈ s.report.queue, e.code ≠ 9 ∧ e.failed = false) →
      ∀ e : ReportEntry, e = ⟨9, 0, s.cal.time.short, false, false, false⟩ →
      ∃ t l l', exec .reportNow s = .next t ∧ s.report.queue = l ++ l'
        ∧ t.report.queue = l ++ e :: l' ∧ (∀ f ∈ l, e.before f = false)
        ∧ (∀ f, l'.head? = some f → e.before f = true)
        ∧ t.report.round = .inRound
        ∧ (s.report.round ≠ .inRound → t.report.attempt = 1 ∧ t.report.nextDue = none)
        ∧ answered n 1 (s.report.queue.length + 1) s t
        ∧ t.tamper.chans = s.tamper.chans ∧ t.coin.escrow = s.coin.escrow ∧ t.mem = s.mem)
    ∧ ((∀ e ∈ s.report.queue, e.code ≠ 9) → s.report.round ≠ .inRound →
      ∀ e : ReportEntry, e = ⟨9, 0, s.cal.time.short, false, false, false⟩ →
      ∀ q, q = s.report.queue.map (fun f => { f with failed := false }) →
      ∃ t l l', exec .reportNow s = .next t ∧ q = l ++ l'
        ∧ t.report.queue = l ++ e :: l' ∧ (∀ f ∈ l, e.before f = false)
        ∧ (∀ f, l'.head? = some f → e.before f = true)
        ∧ t.report.round = .inRound ∧ t.report.attempt = 1 ∧ t.report.nextDue = none
        ∧ answeredInTurn n 1 (s.report.queue.length + 1) s t
        ∧ (∀ ch, getChan ch t = if s.report.queue.any (fun f => f.failed && f.code == channelCode ch)
            then { getChan ch s with status := .queued } else getChan ch s)
        ∧ t.coin.escrow = s.coin.escrow ∧ t.mem = s.mem)

/-- CLEAR LANE (R83): BUSY while an action or the flush runs; otherwise the list is emptied, its
coins counted cleared and their sum added to X of an open purse, the lane CLEAR and held, the
marker cleared, the LANE channel let go, and the order answered DONE with the number discarded. -/
def Obligations.ClearLaneEmptiesIt : Prop :=
  ∀ (s : State) (n : Fin 16) (d : List Byte), orderAt 13 n d s → s.gate.profile ≠ none → roomy s →
    s.visit.state ≠ .closed → s.visit.kind = .service →
    (s.coin.lane = .toBox ∨ s.coin.lane = .toReturn ∨ s.coin.lane = .flushing →
      s.coin.uncertain = true → leadsWith .clearLane s (answering s) (answered n 6 0 s))
    ∧ (s.coin.lane = .jammed ∨ s.coin.lane = .clear ∧ s.coin.uncertain = true →
      ∃ t, exec .clearLane s = .next t ∧ answeredInTurn n 1 s.coin.escrow.length s t
        ∧ t.coin.escrow = [] ∧ t.coin.lane = .clear ∧ t.coin.gatePos = .hold
        ∧ t.coin.dropTimer = none ∧ t.coin.uncertain = false
        ∧ passagesKept s t
        ∧ t.tally.classes = (s.coin.escrow.foldl clearCount s.tally).classes
        ∧ t.tally.boxValue = s.tally.boxValue
        ∧ (s.coin.lane = .jammed → (getChan .lane s).state = .active →
            (getChan .lane t).state = .latched)
        ∧ (s.call.hook = true → s.meter.purse.state = .opened →
            t.meter.purse
              = { s.meter.purse with x := s.meter.purse.x + escrowValue s.coin.escrow })
        ∧ t.mem = s.mem)

/-- SERVICE (R94): any other parameter is BAD PARAMETER with its offset; UNCHANGED when the closure
stands as asked; otherwise the closure changes and the order is answered DONE. The mode stands as
judged with the new closure, and the Live Image carries the closure, which a usable image gives
back. -/
def Obligations.ServiceOrdersTheClosure : Prop :=
  (∀ (s : State) (n : Fin 16) (d : List Byte), orderAt 14 n d s → s.gate.profile ≠ none →
    roomy s →
    (natAt d 2 ≠ 1 → natAt d 2 ≠ 2 → leadsWith .service s (answering s) (answered n 4 2 s))
    ∧ (∀ close : Bool, natAt d 2 = (if close then 1 else 2) →
      (s.call.ordered = close → leadsWith .service s (answering s) (answered n 2 0 s))
      ∧ (s.call.ordered ≠ close →
        leadsWith .service s { answering s with call := { s.call with ordered := close } }
          (fun t => answered n 1 0 s t ∧ t.call.mode = modeOf t
            ∧ (close = true → t.call.mode = .closed)))))
  ∧ (∀ s : State, bitSet (natAt (liveFields s) 0) 6 = s.call.ordered)
  ∧ (∀ (bs : List Byte) (s : State), liveGood bs = true →
      (restoreLive bs s).call.ordered = bitSet (natAt bs 1) 6)

/-- RESTART accepted (R24, R26, R28, R62, R85, R88, R115, R134, R149, R163, R182): the part is
STARTING with a soft restart waiting for its posts; the RESTART's slot and tag are kept and its slot
stays as it was, every other slot held POSTED or TAKEN is finished ABORTED in ascending order, the Order
Queue is empty and the unit idle; each block stands as its reset table says, an action of the lane in
flight cut short with the marker set (R84, R85). That an aborted slot is TAKEN until its run completes,
one whose earlier outcome is not yet written too, is logs 18 and 20; a lane found FLUSHING is log
37. -/
def Obligations.RestartIsAccepted : Prop :=
  ∀ (s : State) (n : Fin 16) (d : List Byte), orderAt 15 n d s → s.call.station = .idle →
    s.meter.purse.state = .absent → s.visit.state = .closed → s.call.claim ≠ .report →
    ∃ t, exec .restart s = .next t ∧ t.sys.part = .starting ∧ t.sys.kind = .soft
      ∧ t.sys.waitRestart = true ∧ t.sys.restart = some ⟨n, d.getD 1 0⟩
      ∧ t.orders.queue = [] ∧ t.orders.busy = none
      ∧ t.gate.profile = s.gate.profile
      ∧ t.gate.guardA = (s.tariff.active.map (·.1) == some .a)
      ∧ t.gate.guardB = (s.tariff.active.map (·.1) == some .b)
      ∧ t.ev.seq = 0 ∧ t.ev.guardFlag = false ∧ t.ev.attn = false ∧ t.ev.announced = false
      ∧ t.cal.time = s.cal.time ∧ t.cal.valid = s.cal.valid ∧ t.cal.band = 0
      ∧ t.tariff.active = none ∧ t.tariff.swap = .idle
      ∧ t.coin.escrow = s.coin.escrow ∧ t.coin.arrival = s.coin.arrival
      ∧ t.coin.passages = [] ∧ (s.coin.lane ≠ .flushing → t.coin.gatePos = .hold)
      ∧ t.coin.inhibits = 0b111111
      ∧ t.coin.started = false ∧ t.coin.request = .idle ∧ t.coin.dropTimer = none
      ∧ t.coin.lane = (if s.coin.lane = .toBox ∨ s.coin.lane = .toReturn then .clear
          else s.coin.lane)
      ∧ t.coin.uncertain = (s.coin.uncertain || s.coin.lane == .toBox
          || s.coin.lane == .toReturn || !s.coin.passages.isEmpty)
      ∧ t.orders.slots[n] = s.orders.slots[n]
      ∧ (∀ m, m ≠ n → s.orders.slots[m] ≠ .posted → s.orders.slots[m] ≠ .taken →
          t.orders.slots[m] = s.orders.slots[m])
      ∧ (∀ m, m ≠ n → s.orders.slots[m] = .posted ∨ s.orders.slots[m] = .taken →
          t.orders.slots[m] = .taken)
      ∧ (∀ p, s.gate.profile = some p → s.gate.waiters = [] → s.gate.queue = [] →
          ((List.finRange 16).filter (fun m => decide (m ≠ n)
            && (s.orders.slots[m] == .posted || s.orders.slots[m] == .taken))).map
            (fun m => outcomeRun p m 8 4) <+: t.gate.queue)
      ∧ t.meter.purse.state = .absent ∧ t.meter.metered = none
      ∧ t.call.station = .idle ∧ t.call.mode = .closed ∧ t.call.hook = s.call.hook
      ∧ t.call.ordered = s.call.ordered ∧ t.call.claim = .free
      ∧ t.line.state = .released ∧ t.line.seize = false
      ∧ t.tamper.chans = s.tamper.chans ∧ t.tamper.force = none
      ∧ t.report.queue = [] ∧ t.report.phase = .noCall
      ∧ t.tally = s.tally ∧ t.mem = s.mem

/-! ### The service mode and the rings -/

/-- The service mode (R92): CLOSED by any of its five inputs, else FREE ONLY by any of its four,
else FULL. -/
def Obligations.ServiceModeFollowsItsInputs : Prop :=
  ∀ s : State,
    (modeOf s = .closed ↔
      (s.tamper.chans.cord.state ≠ .quiet ∨ s.tamper.chans.line.state = .active
        ∨ (s.visit.state ≠ .closed ∧ s.visit.kind = .service) ∨ s.call.ordered = true
        ∨ s.tariff.active = none))
    ∧ (modeOf s = .full ↔
      (modeOf s ≠ .closed ∧ s.tamper.chans.slot.state = .quiet
        ∧ s.tamper.chans.lane.state = .quiet ∧ s.coin.box = true ∧ s.ring.slot = none))

/-- An event raised while the part is RUNNING, here LATCHED by the end of the SLOT condition as the
step's only event: it is written body first at the write index modulo 32, with its sequence number,
code, time and detail, and behind it the new write index; with 32 unread it is dropped and counted, a
count of 255 standing and its byte in the header given no run; either way it takes a sequence number
(R13, R28, R29, R30, R136). That byte lies in none of the images of the profile in force, since check 4
of R4 keeps the areas apart: the premise of the last clause. In a profile whose areas overlapped, a run
of the Tamper Area's rewrite could go to it. A timer is due when under 100 ms are left (log 6). -/
def Obligations.EventIsWrittenOrDropped : Prop :=
  ∀ (s u : State) (p : Profile), s.sys.part = .running → s.gate.profile = some p → roomy s →
    noReport s → s.call.mode = modeOf s → s.tariff.swap = .idle → s.coin.started = false →
    s.ev.outbox = [] → s.gate.queue.length ≤ 4 → timerDue s.tamper.slotClear = true →
    s.tamper.chans.slot.state = .active →
    s.tamper.chans.slot.trips < 65536 →
    u = { s with tamper := { s.tamper with
      slotClear := none,
      chans := { s.tamper.chans with
        slot := { s.tamper.chans.slot with state := .latched } } } } →
    ((s.ev.w - s.ev.r).toNat < 32 →
      leadsWith .slotClearExpiry s u
        (fun t => t.ev.w = s.ev.w + 1 ∧ t.ev.seq = s.ev.seq + 1 ∧ t.ev.dropped = s.ev.dropped
          ∧ postedTogether [.write (p.eventsBase + 16 + 16 * (s.ev.w.toNat % 32))
              [s.ev.seq, 17, BitVec.ofNat 8 s.cal.time.month, BitVec.ofNat 8 s.cal.time.day,
                BitVec.ofNat 8 s.cal.time.hour, BitVec.ofNat 8 s.cal.time.minute,
                BitVec.ofNat 8 s.cal.time.second, 5,
                BitVec.ofNat 8 s.tamper.chans.slot.trips,
                BitVec.ofNat 8 (s.tamper.chans.slot.trips / 256), 0, 0, 0, 0, 0, 0] .plain,
            .write p.eventsBase [s.ev.w + 1] (.eventIndex (s.ev.w + 1))] s t))
    ∧ (32 ≤ (s.ev.w - s.ev.r).toNat →
      (s.ev.dropped < 255 →
        leadsWith .slotClearExpiry s u
          (fun t => t.ev.w = s.ev.w ∧ t.ev.seq = s.ev.seq + 1 ∧ t.ev.dropped = s.ev.dropped + 1
            ∧ posted (.write (p.eventsBase + 2) [BitVec.ofNat 8 (s.ev.dropped + 1)] .plain) s t))
      ∧ (s.ev.dropped = 255 →
        leadsWith .slotClearExpiry s u
          (fun t => t.ev.w = s.ev.w ∧ t.ev.seq = s.ev.seq + 1 ∧ t.ev.dropped = 255
            ∧ (outsideImages p (p.eventsBase + 2) →
              ∀ v, ¬ posted (.write (p.eventsBase + 2) v .plain) s t))))

/-! ### The coin path -/

/-- ENTRY EDGE through an open gate starts a passage, against a closed one counts an unattended
entry, and either starts the slot block timer; ENTRY CLEAR stops it and starts the slot clear timer
(R68, R70, R140). STROBE by its code (R71): with no unclassified passage a validator fault;
otherwise code 7 removes the oldest unclassified passage as refused, an accepted class classifies
it, and any other code is a validator fault. -/
def Obligations.EntryAndStrobeFillThePassages : Prop :=
  (∀ (s : State) (p : Profile), s.sys.part = .running → s.gate.profile = some p →
     (s.pins.entry = false → s.coin.reasons = 0 →
       leads .entryEdge s
         { s with
           pins := { s.pins with entry := true },
           coin := { s.coin with passages := s.coin.passages ++ [⟨none, p.passageMs, false⟩] },
           tamper := { s.tamper with
             slotBlock := some (p.slotBlockS * 1000), slotClear := none } })
     ∧ (s.pins.entry = false → s.coin.reasons ≠ 0 →
       leads .entryEdge s
         { s with
           pins := { s.pins with entry := true },
           tally := { s.tally with unattended := min 65535 (s.tally.unattended + 1) },
           tamper := { s.tamper with
             slotBlock := some (p.slotBlockS * 1000), slotClear := none } })
     ∧ (s.pins.entry = true →
       leads .entryClear s
         { s with
           pins := { s.pins with entry := false },
           tamper := { s.tamper with slotBlock := none, slotClear := some 1000 } }))
  ∧ (∀ (s : State) (p : Profile) (code : BitVec 3), s.sys.part = .running →
     s.gate.profile = some p →
     ((∀ x ∈ s.coin.passages, x.cls ≠ none) →
       leads (.strobe code) s
         { s with tally := { s.tally with fault := min 65535 (s.tally.fault + 1) } })
     ∧ ∀ l w late l', s.coin.passages = l ++ ⟨none, w, late⟩ :: l' → (∀ x ∈ l, x.cls ≠ none) →
       (code = 7 →
         leads (.strobe code) s
           { s with
             coin := { s.coin with passages := l ++ l' },
             tally := { s.tally with refused := min 65535 (s.tally.refused + 1) } })
       ∧ (∀ i, i < 6 → code.toNat = i + 1 → (p.classes.getD i (0, false)).2 = true →
         leads (.strobe code) s
           { s with coin := { s.coin with passages := l ++ ⟨some (i + 1), w, late⟩ :: l' } })
       ∧ (code = 0 ∨ (∃ i, i < 6 ∧ code.toNat = i + 1 ∧ (p.classes.getD i (0, false)).2 = false) →
         leads (.strobe code) s
           { s with tally := { s.tally with fault := min 65535 (s.tally.fault + 1) } }))

/-- LANE EDGE (R73, R74, R75, R117): a classified passage arrives as a coin at the tail of the list and is
counted accepted, a count at 65535 being held there and the marker set (R82, R170). Its value is added to
D, whatever the purse's state, and no other figure changes; it opens a purse if there is none (open it
stays off-hook), and one SETTLING or HELD goes on settling. A coin in flight since the last purse closed
opens a purse that is settled at once, whatever the hook, or while a paid call is in progress one that
stays open and is to be settled at its end (R128, R129, log 40). That note is said to stand with the call
wherever R108 can grant no report claim at the step's end: outside a station IDLE with the line claim NONE
and a report attempt due or under way. An object of no class joins as foreign; at a full lane nothing is
appended and the marker is set. -/
def Obligations.LaneEdgeAddsAnEntry : Prop :=
  ∀ (s : State) (p : Profile), s.sys.part = .running → s.gate.profile = some p →
    (s.coin.escrow.length < 10 →
      (∀ (i : Fin 6) w late l, s.coin.passages = ⟨some (i.val + 1), w, late⟩ :: l →
        ∀ n value seq, n = s.tally.classes[i].accepted → value = (p.classes.getD i.val (0, false)).1 →
        seq = (if s.coin.purseFig = .absent ∧ s.coin.escrow = [] then 1 else s.coin.arrival) →
        leadsWith .laneEdge s
          { s with
            coin := { s.coin with
              passages := l,
              escrow := s.coin.escrow ++ [⟨i.val + 1, value, seq, s.cal.time⟩],
              arrival := if seq < 255 then seq + 1 else 1,
              uncertain := if n < 65535 then s.coin.uncertain else true },
            tally := { s.tally with classes := s.tally.classes.set i { s.tally.classes[i] with
              accepted := if n < 65535 then n + 1 else n } } }
          (fun t => t.meter.purse.state ≠ .absent
            ∧ (s.meter.purse.state = .absent →
              t.meter.purse.d = value ∧ t.meter.purse.c = 0 ∧ t.meter.purse.k = 0
                ∧ t.meter.purse.r = 0 ∧ t.meter.purse.x = 0)
            ∧ (s.meter.purse.state ≠ .absent →
              t.meter.purse.d = s.meter.purse.d + value ∧ t.meter.purse.c = s.meter.purse.c
                ∧ t.meter.purse.k = s.meter.purse.k ∧ t.meter.purse.r = s.meter.purse.r
                ∧ t.meter.purse.x = s.meter.purse.x)
            ∧ (s.meter.purse.state = .settling ∨ s.meter.purse.state = .held →
              t.meter.purse.state = .settling ∨ t.meter.purse.state = .held)
            ∧ (s.call.hook = true →
              (s.meter.purse.state = .absent → late = false ∨ paidCall s = true →
                t.meter.purse = ⟨.opened, value, 0, 0, 0, 0, .nothing⟩)
              ∧ (s.meter.purse.state = .opened →
                t.meter.purse = { s.meter.purse with d := s.meter.purse.d + value }))
            ∧ (s.meter.purse.state = .absent → late = true → paidCall s = true →
              (s.call.claim = .free → s.call.station = .idle → noReport s) →
              t.call.cur.any (·.settleDue) = true)
            ∧ (s.meter.purse.state = .absent → late = true → paidCall s = false →
              s.coin.started = true → s.coin.lane = .clear → s.coin.escrow = [] →
              t.meter.purse = ⟨.settling, value, 0, 0, 0, 0, .nothing⟩
                ∧ t.coin.lane = .toReturn ∧ t.coin.gatePos = .toReturn)))
      ∧ ((∀ x l, s.coin.passages = x :: l → x.cls = none) →
        leads .laneEdge s
          { s with
            coin := { s.coin with
              passages := s.coin.passages.drop 1,
              escrow := s.coin.escrow ++ [⟨0, 0, s.coin.arrival, s.cal.time⟩],
              arrival := if s.coin.arrival < 255 then s.coin.arrival + 1 else 1 },
            tally := { s.tally with foreign := min 65535 (s.tally.foreign + 1) } }))
    ∧ (10 ≤ s.coin.escrow.length →
      leads .laneEdge s
        { s with coin := { s.coin with
          passages := s.coin.passages.drop 1, uncertain := true } })

/-- A DROP EDGE completes the action in flight: the head leaves, its value moves to K or R of an
open purse (off-hook), and its class, and for the box the cash box figures, are counted (R79,
R118). In FLUSHING it is counted and the wait starts again, and the wait's end completes the Coin
Unit's start-up with the marker set (R87). Elsewhere it is unexpected: the marker is set and the
LANE channel tripped and let go (R81, R141). A timer is due when under 100 ms are left (log 6). That
a cash box value read above 9,999,999 comes down to that is log 65. -/
def Obligations.DropEdgeEmptiesTheHead : Prop :=
  ∀ s : State, s.sys.part = .running →
    (∀ (i : Fin 6) e l, s.coin.escrow = e :: l → e.cls = i.val + 1 →
      (s.coin.lane = .toBox →
        leadsWith .dropEdge s
          { s with
            coin := { s.coin with escrow := l },
            tally := { s.tally with
              boxValue := min 9999999 (s.tally.boxValue + e.value),
              boxCoins := min 65535 (s.tally.boxCoins + 1),
              classes := s.tally.classes.set i { s.tally.classes[i] with
                collected := min 65535 (s.tally.classes[i].collected + 1) } } }
          (fun t => s.call.hook = true → s.meter.purse.state = .opened →
            t.meter.purse = { s.meter.purse with k := s.meter.purse.k + e.value }))
      ∧ (s.coin.lane = .toReturn →
        leadsWith .dropEdge s
          { s with
            coin := { s.coin with escrow := l },
            tally := { s.tally with
              classes := s.tally.classes.set i { s.tally.classes[i] with
                returned := min 65535 (s.tally.classes[i].returned + 1) } } }
          (fun t => s.call.hook = true → s.meter.purse.state = .opened →
            t.meter.purse = { s.meter.purse with r := s.meter.purse.r + e.value })))
    ∧ (∀ e l, s.coin.escrow = e :: l → e.cls = 0 → s.coin.lane = .toReturn →
      leads .dropEdge s { s with coin := { s.coin with escrow := l } })
    ∧ (s.coin.lane = .flushing →
      leads .dropEdge s
        { s with
          coin := { s.coin with flushTimer := some 2000 },
          tally := { s.tally with flushed := min 65535 (s.tally.flushed + 1) } })
    ∧ (s.coin.lane = .flushing → timerDue s.coin.flushTimer = true →
      leadsWith .flushEnd s
        { s with coin := { s.coin with
          flushTimer := none, arrival := 1, uncertain := true, started := true } }
        (fun t => s.coin.escrow = [] → t.coin.lane = .clear ∧ t.coin.gatePos = .hold))
    ∧ (s.coin.lane = .clear ∨ s.coin.lane = .jammed → s.gate.profile ≠ none →
      ∃ t, exec .dropEdge s = .next t ∧ t.coin.uncertain = true ∧ t.coin.escrow = s.coin.escrow
        ∧ passagesKept s t ∧ t.tally.classes = s.tally.classes
        ∧ t.tally.boxValue = s.tally.boxValue ∧ t.mem = s.mem
        ∧ ((getChan .lane s).state = .active → t.tamper.chans = s.tamper.chans)
        ∧ ((getChan .lane s).state ≠ .active → (getChan .lane t).state = .latched))

/-- DROP WINDOW EXPIRY jams the lane: the head stays, the gate holds, and the LANE channel is
ACTIVE (R80, R141). PASSAGE WINDOW EXPIRY strands the oldest passage whose window has run out: it
leaves the list, is counted, and trips the SLOT channel, whose clear timer starts if ENTRY is clear
(R72, R140). What is said of passages is their order, classes and windows (log 40); a trip that calls no
report leaves the report status as it was, of SLOT only where the force window is closed or no entry has
failed (R143, R152). A timer is due when under 100 ms are left (log 6). -/
def Obligations.WindowsJamAndStrand : Prop :=
  ∀ (s : State) (p : Profile), s.sys.part = .running → s.gate.profile = some p →
    (timerDue s.coin.dropTimer = true → s.coin.lane = .toBox ∨ s.coin.lane = .toReturn →
      ∃ t, exec .dropWindowExpiry s = .next t ∧ t.coin.lane = .jammed ∧ t.coin.gatePos = .hold
        ∧ t.coin.dropTimer = none ∧ t.coin.escrow = s.coin.escrow
        ∧ passagesKept s t ∧ t.coin.uncertain = s.coin.uncertain
        ∧ (getChan .lane t).state = .active
        ∧ ((getChan .lane s).state ≠ .active → tripped .lane p s t)
        ∧ t.tally.classes = s.tally.classes ∧ t.mem = s.mem)
    ∧ (∀ l x l', s.coin.passages = l ++ x :: l' → x.window < 100 → (∀ y ∈ l, 100 ≤ y.window) →
      ∃ t, exec .passageWindowExpiry s = .next t
        ∧ passagesKept { s with coin := { s.coin with passages := l ++ l' } } t
        ∧ t.tally.stranded = min 65535 (s.tally.stranded + 1)
        ∧ (getChan .slot t).state = .active
        ∧ ((getChan .slot s).state ≠ .active → tripped .slot p s t)
        ∧ (s.pins.entry = false → t.tamper.slotClear = some 1000)
        ∧ (s.pins.entry = true → t.tamper.slotClear = s.tamper.slotClear)
        ∧ t.coin.escrow = s.coin.escrow ∧ t.tally.classes = s.tally.classes ∧ t.mem = s.mem)

/-- The BOX switch, steady (R78), moves a visit (R173): taken out with the door open, the box and its
figures are noted, the sums having no bound in the part (log 47); put back with the door open, the box
tallies are reset, the forfeited total with them (here with no purse to be closed), the marker cleared
and the visit is back at DOOR OPEN (R174), or over if the door is closed by then; a door closing while
the box is out changes no visit. The door opening moves a
visit from AWAITING DOOR to DOOR OPEN; its closing in DOOR OPEN ends the visit (R175), here with DOOR
not ACTIVE and CASE closed and not ACTIVE. A visit whose door does not open lapses: its record joins
the history, lapsed (R173, R175). R175 gives only the state NONE at a visit's end; that the visit's other
fields then rest at kind COLLECTION and zeros is the model's choice (log 4). A timer is due when under 100 ms are left (log 6). -/
def Obligations.VisitFollowsDoorAndBox : Prop :=
  ∀ s : State, s.sys.part = .running →
    (timerDue s.coin.boxTimer = true →
      (s.visit.state = .closed ∨ s.visit.state = .awaitingDoor →
        leads .boxSwitchChange s
          { s with coin := { s.coin with box := s.pins.box, boxTimer := none } })
      ∧ (s.visit.state = .doorOpen ∧ s.pins.box = true
          ∨ s.visit.state = .boxOut ∧ s.pins.box = false →
        leads .boxSwitchChange s
          { s with coin := { s.coin with box := s.pins.box, boxTimer := none } })
      ∧ (s.visit.state = .doorOpen → s.pins.box = false →
        leads .boxSwitchChange s
          { s with
            coin := { s.coin with box := false, boxTimer := none },
            visit := { s.visit with
              state := .boxOut, value := s.visit.value + s.tally.boxValue,
              coins := s.visit.coins + s.tally.boxCoins,
              noted := s.tally.classes.toList.map (·.collected) } })
      ∧ (s.visit.state = .boxOut → s.pins.box = true → s.tamper.door.isOpen = true →
        leadsWith .boxSwitchChange s
          { s with
            coin := { s.coin with box := true, boxTimer := none, uncertain := false },
            visit := { s.visit with state := .doorOpen, left := true },
            tally := { s.tally with
              boxValue := 0, boxCoins := 0, chargeTotal := 0,
              classes := Vector.ofFn (fun i : Fin 6 =>
                ⟨s.coin.escrow.countP (fun e => e.cls == i.val + 1), 0, 0, 0⟩) } }
          (fun t => s.meter.purse.state = .absent → t.tally.forfeited = 0))
      ∧ (s.visit.state = .boxOut → s.pins.box = true → s.tamper.door.isOpen = false →
        s.tamper.case.isOpen = false → (getChan .door s).state ≠ .active →
        (getChan .case s).state ≠ .active →
        leadsWith .boxSwitchChange s
          { s with
            coin := { s.coin with box := true, boxTimer := none, uncertain := false },
            visit := Visit.none,
            tamper := { s.tamper with visitKind := none },
            tally := { s.tally with
              boxValue := 0, boxCoins := 0, chargeTotal := 0,
              classes := Vector.ofFn (fun i : Fin 6 =>
                ⟨s.coin.escrow.countP (fun e => e.cls == i.val + 1), 0, 0, 0⟩),
              visits := min 65535 (s.tally.visits + 1),
              history := (⟨s.visit.kind, true, false, s.visit.collector, s.visit.opened,
                s.cal.time.short, s.visit.value, s.visit.coins⟩ :: s.tally.history).take 4 } }
          (fun t => s.meter.purse.state = .absent → t.tally.forfeited = 0)))
    ∧ (timerDue s.tamper.door.timer = true → s.pins.door = false → s.visit.state = .doorOpen →
      s.tamper.case.isOpen = false → (getChan .door s).state ≠ .active →
      (getChan .case s).state ≠ .active →
      leads (.housingInputDebounced .door) s
        { s with
          visit := Visit.none,
          tamper := { s.tamper with door := ⟨false, none⟩, visitKind := none },
          tally := { s.tally with
            visits := min 65535 (s.tally.visits + 1),
            history := (⟨s.visit.kind, s.visit.left, false, s.visit.collector, s.visit.opened,
              s.cal.time.short, s.visit.value, s.visit.coins⟩ :: s.tally.history).take 4 } })
    ∧ (timerDue s.tamper.door.timer = true → s.pins.door = false → s.visit.state = .boxOut →
      (getChan .door s).state ≠ .active →
      leads (.housingInputDebounced .door) s
        { s with tamper := { s.tamper with door := ⟨false, none⟩ } })
    ∧ (timerDue s.tamper.door.timer = true → s.pins.door = true → s.visit.state = .awaitingDoor →
      s.tamper.visitKind ≠ none → (getChan .door s).state ≠ .active →
      leads (.housingInputDebounced .door) s
        { s with
          tamper := { s.tamper with door := ⟨true, none⟩ },
          visit := { s.visit with state := .doorOpen, timer := none } })
    ∧ (timerDue s.visit.timer = true → s.visit.state = .awaitingDoor →
      s.tamper.door.isOpen = false → s.tamper.case.isOpen = false →
      (getChan .door s).state ≠ .active → (getChan .case s).state ≠ .active →
      leads .visitDoorTimerExpiry s
        { s with
          visit := Visit.none,
          tamper := { s.tamper with visitKind := none },
          tally := { s.tally with
            visits := min 65535 (s.tally.visits + 1),
            history := (⟨s.visit.kind, s.visit.left, true, s.visit.collector, s.visit.opened,
              s.cal.time.short, s.visit.value, s.visit.coins⟩ :: s.tally.history).take 4 } })

/-! ### Input levels and the hook -/

/-- What a change of each input level starts and stops: the hook filter of 100 or 300 ms (R89), the
loss timer (R111), the answer and clearing periods of REV (R113), the dial tone period (R110), the
line voltage timers (R142), the debouncing of the housing inputs with their raw counts (R137), and
the BOX period (R78). -/
def Obligations.InputLevelsStartPeriods : Prop :=
  ∀ (s : State) (x : Bool), s.sys.part = .running →
    (s.pins.hook ≠ x →
      leads (.hookInputChange x) s
        { s with
          pins := { s.pins with hook := x },
          call := { s.call with hookTimer :=
            if x = s.call.hook then none else some (if x then 100 else 300) } })
    ∧ (s.pins.loop ≠ x →
      leadsWith (.loopInputChange x) s { s with pins := { s.pins with loop := x } }
        (fun t => s.call.dialQueue = [] → noReport s → s.line.sender = none →
          (x = true → t.line.loss = none)
          ∧ (x = false → s.line.seize = true → (s.line.state = .awaitTone
              ∨ s.line.state = .sending ∨ s.line.state = .connected) →
              t.line.loss = some 400)))
    ∧ (s.pins.rev ≠ x → s.line.state = .connected → noReport s →
      (s.call.station = .ringback →
        leadsWith (.revInputChange x) s
          { s with pins := { s.pins with rev := x }, line := { s.line with clearP := none } }
          (fun t => t.line.answerP = if x then some 100 else none))
      ∧ (s.call.station = .talking →
        leads (.revInputChange x) s
          { s with
            pins := { s.pins with rev := x },
            line := { s.line with clearP := if x then none else some 300 } })
      ∧ (s.call.station = .talkingIn →
        leads (.revInputChange x) s
          { s with
            pins := { s.pins with rev := x },
            line := { s.line with clearP := if x = s.line.revRef then none else some 300 } }))
    ∧ (s.pins.dialtone ≠ x →
      leads (.dialtoneInputChange x) s
        { s with
          pins := { s.pins with dialtone := x },
          line := { s.line with tonePeriod :=
            if s.line.state = .awaitTone ∧ x = true then some 300 else none } })
    ∧ (s.pins.linev ≠ x →
      leadsWith (.linevChange x) s
        { s with
          pins := { s.pins with linev := x },
          tamper := { s.tamper with presentTimer := if x then some 2000 else none } }
        (fun t => noReport s → t.tamper.lossTimer =
          if x = false ∧ s.line.state = .released then some 2000 else none))
    ∧ (s.pins.door ≠ x →
      leads (.housingInputEdge .door x) s
        { s with
          pins := { s.pins with door := x },
          tamper := { s.tamper with
            door := ⟨s.tamper.door.isOpen,
              if x = s.tamper.door.isOpen then none else some 200⟩,
            chans := { s.tamper.chans with door := { s.tamper.chans.door with
              raw := if x then s.tamper.chans.door.raw + 1 else s.tamper.chans.door.raw } } } })
    ∧ (s.pins.case ≠ x →
      leads (.housingInputEdge .case x) s
        { s with
          pins := { s.pins with case := x },
          tamper := { s.tamper with
            case := ⟨s.tamper.case.isOpen,
              if x = s.tamper.case.isOpen then none else some 200⟩,
            chans := { s.tamper.chans with case := { s.tamper.chans.case with
              raw := if x then s.tamper.chans.case.raw + 1 else s.tamper.chans.case.raw } } } })
    ∧ (s.pins.cord ≠ x →
      leads (.housingInputEdge .cord x) s
        { s with
          pins := { s.pins with cord := x },
          tamper := { s.tamper with
            cord := ⟨s.tamper.cord.isOpen,
              if x = s.tamper.cord.isOpen then none else some 200⟩,
            chans := { s.tamper.chans with cord := { s.tamper.chans.cord with
              raw := if x then s.tamper.chans.cord.raw + 1 else s.tamper.chans.cord.raw } } } })
    ∧ (s.pins.box ≠ x →
      leads (.boxInputChange x) s
        { s with
          pins := { s.pins with box := x },
          coin := { s.coin with boxTimer := if x = s.coin.box then none else some 200 } })

/-- The filtered hook: off-hook in IDLE makes the station READY, on-hook in READY makes it IDLE,
where an open purse begins to settle; in REPORTING the hook is only noted (R90, R91, R117, R128). A
timer is due when under 100 ms are left (log 6). -/
def Obligations.HookMovesTheStation : Prop :=
  ∀ s : State, s.sys.part = .running → timerDue s.call.hookTimer = true → noReport s ∨
      s.call.station = .reporting →
    (s.pins.hook = true → s.call.hook = false →
      (s.call.station = .idle →
        leadsWith .offHook s { s with call := { s.call with hook := true, hookTimer := none } }
          (fun t => t.call.station = .ready))
      ∧ (s.call.station = .reporting →
        leadsWith .offHook s { s with call := { s.call with hook := true, hookTimer := none } }
          (fun t => t.call.station = .reporting)))
    ∧ (s.pins.hook = false → s.call.hook = true →
      (s.call.station = .ready →
        leadsWith .onHook s { s with call := { s.call with hook := false, hookTimer := none } }
          (fun t => t.call.station = .idle
            ∧ (s.meter.purse.state = .opened → s.meter.metered = none → s.coin.started = true →
                t.meter.purse.state ≠ .opened)))
      ∧ (s.call.station = .reporting →
        leadsWith .onHook s { s with call := { s.call with hook := false, hookTimer := none } }
          (fun t => t.call.station = .reporting)))

/-! ### Calls -/

/-- What ends the caller's or an incoming call (R91, R99, R101, R102, R110, R111, R113, R126): on-hook leaves
the station IDLE; the credit hold, the answer limit, the loop timer, the dial tone limit, a line loss and a
far-end clear leave it READY with the open purse kept, unless a settlement was due at the end of the call
(R128, log 40). A seized call's record is placed when the ring has room (R164, R165); with 64 unread it is
kept pending, or a record pending already gives way only if it is none of a paid call past its gate and the
new one is (that it stays where both are is log 62); the one dropped is counted (R166). The record's 40 bytes
stand at the places of section 13.4 (R186). A timer is due when under 100 ms are left (log 6). -/
def Obligations.CallsEndForEachCause : Prop :=
  (∀ s : State, s.sys.part = .running → noReport s → s.call.cur ≠ none →
    (timerDue s.call.hookTimer = true → s.pins.hook = false → s.call.hook = true →
      inCall s.call.station = true →
      ∃ t, exec .onHook s = .next t ∧ callOver .idle s t ∧ t.call.hook = false
        ∧ t.coin.escrow = s.coin.escrow ∧ t.tamper.chans = s.tamper.chans ∧ t.mem = s.mem)
    ∧ ∀ c : Instr,
      ((c = .creditHoldExpiry ∧ timerDue s.call.creditTimer = true
          ∧ s.call.station = .creditWait)
        ∨ (c = .answerLimitExpiry ∧ timerDue s.call.answerTimer = true
          ∧ s.call.station = .ringback)
        ∨ (c = .loopTimerExpiry ∧ timerDue s.line.loopTimer = true ∧ s.line.state = .seizing
          ∧ s.call.claim ≠ .report)
        ∨ (c = .dialToneLimitExpiry ∧ timerDue s.line.toneLimit = true
          ∧ s.line.state = .awaitTone ∧ s.call.claim ≠ .report)
        ∨ (c = .lineLoss ∧ timerDue s.line.loss = true ∧ pastSeizing s.line = true
          ∧ s.pins.loop = false ∧ s.call.claim ≠ .report)
        ∨ (c = .farEndClear ∧ timerDue s.line.clearP = true
          ∧ (s.call.station = .talking ∨ s.call.station = .talkingIn))) →
      ∃ t, exec c s = .next t ∧ callOver .ready s t
        ∧ (s.call.hook = true → s.meter.purse.state = .opened →
            s.call.cur.any (·.settleDue) = false → t.meter.purse = s.meter.purse)
        ∧ t.tally.lineLost = (if c = .lineLoss then min 65535 (s.tally.lineLost + 1)
            else s.tally.lineLost)
        ∧ t.call.hook = s.call.hook ∧ t.coin.escrow = s.coin.escrow
        ∧ t.tamper.chans = s.tamper.chans ∧ t.mem = s.mem)
  ∧ (∀ (s : State) (p : Profile) (c : CallInfo), s.sys.part = .running → noReport s → roomy s →
    s.gate.profile = some p → timerDue s.line.clearP = true → s.call.station = .talking →
    s.call.cur = some c → c.seized = true →
    ∀ rec : CallRecord, rec =
      { seq := s.ring.seq, kind := if c.kind = .undecided then .paid else c.kind,
        outcome := .farEnd, zone := c.zone, digitCount := c.number.length,
        digits := c.number.take 20, start := c.start,
        wait := if c.answered then c.wait else 0, talk := c.talk, units := s.meter.units,
        charge := s.meter.charge, credit := s.meter.purse.d - s.meter.purse.c,
        edition := c.edition, band := c.band, clockInvalid := c.clockInvalid,
        gatePassed := c.gatePassed } →
    ((s.ring.w - s.ring.r).toNat < 64 → s.ring.slot = none →
      ∃ t, exec .farEndClear s = .next t ∧ t.ring.w = s.ring.w + 1 ∧ t.ring.slot = none
        ∧ postedTogether [.write (p.callsBase + 16 + 40 * (s.ring.w.toNat % 64))
            (callBytes rec) .plain, .write p.callsBase [s.ring.w + 1] .plain] s t)
    ∧ (64 ≤ (s.ring.w - s.ring.r).toNat →
      (s.ring.slot = none →
        ∃ t, exec .farEndClear s = .next t ∧ t.ring.w = s.ring.w ∧ t.ring.slot = some rec
          ∧ t.ring.notKept = s.ring.notKept ∧ t.tally.notKept = s.tally.notKept)
      ∧ (∀ old, s.ring.slot = some old → s.ring.notKept ≤ 255 →
        ∃ t, exec .farEndClear s = .next t ∧ t.ring.w = s.ring.w
          ∧ t.ring.slot = some (if ¬ (old.kind = .paid ∧ old.gatePassed = true)
              ∧ rec.kind = .paid ∧ rec.gatePassed = true then rec else old)
          ∧ t.ring.notKept = min 255 (s.ring.notKept + 1)
          ∧ t.tally.notKept = min 65535 (s.tally.notKept + 1)
          ∧ (s.ring.notKept < 255 → posted (.write (p.callsBase + 2)
              [BitVec.ofNat 8 (s.ring.notKept + 1)] .plain) s t))))
  ∧ (∀ c : CallRecord, callLaid c (callBytes c))

/-- INTER DIGIT EXPIRY completes a number whose zone is undecided: it is decided then by the
longest matching prefix, or the default zone (R65, R97, R98). A barred zone, a purse being settled,
a mode that does not allow the zone, or no active tariff refuses the call; a free zone, or a paid
one whose required credit the purse has, passes the gate and, all digits being sent, the station
becomes RINGBACK (R99, R100); a paid zone beyond the credit waits for credit. A timer is due when
under 100 ms are left (log 6). -/
def Obligations.InterDigitExpiryDecides : Prop :=
  ∀ (s : State) (p : Profile) (c : CallInfo), s.sys.part = .running → s.gate.profile = some p →
    noReport s → timerDue s.call.interDigit = true → s.call.station = .dialling →
    s.call.cur = some c → c.complete = false → c.decided = false →
    (s.tariff.active = none →
      ∃ t, exec .interDigitExpiry s = .next t ∧ callOver .ready s t)
    ∧ ∀ bank tab n z need, s.tariff.active = some (bank, tab) →
      n = longestZone tab (analysed c.number) → tab.zones[n]? = some z →
      need = z.s + unitCharge z.u
        (if z.kind = .timed then tab.mults.getD s.cal.band 100 else 100) tab.q →
      (z.kind = .barred ∨ s.meter.purse.state = .settling ∨ s.meter.purse.state = .held
          ∨ s.call.mode = .closed ∨ (s.call.mode = .freeOnly ∧ z.kind ≠ .free) →
        ∃ t, exec .interDigitExpiry s = .next t ∧ callOver .ready s t)
      ∧ (s.meter.purse.state ≠ .settling → s.meter.purse.state ≠ .held →
        (z.kind = .free ∧ s.call.mode ≠ .closed
            ∨ (z.kind = .timed ∨ z.kind = .pulsed) ∧ s.call.mode = .full
              ∧ need ≤ s.meter.purse.d - s.meter.purse.c →
          s.line.state = .sending → s.line.sender = none → s.call.dialQueue = [] →
          leadsWith .interDigitExpiry s s (fun t =>
            t.call.station = .ringback ∧ t.line.state = .connected
            ∧ t.call.answerTimer = some (p.answerS * 1000) ∧ t.call.interDigit = none
            ∧ ∃ c', t.call.cur = some c' ∧ c'.complete = true ∧ c'.decided = true
              ∧ c'.gatePassed = true ∧ c'.number = c.number ∧ c'.zone = some n ∧ c'.wait = 0
              ∧ c'.kind = if z.kind = .free then .free else .paid))
        ∧ ((z.kind = .timed ∨ z.kind = .pulsed) → s.call.mode = .full →
          s.meter.purse.d - s.meter.purse.c < need →
          leadsWith .interDigitExpiry s s (fun t =>
            t.call.station = .creditWait ∧ t.call.creditTimer = some (p.creditHoldS * 1000)
            ∧ ∃ c', t.call.cur = some c' ∧ c'.complete = true ∧ c'.decided = true
              ∧ c'.gatePassed = c.gatePassed ∧ c'.number = c.number ∧ c'.zone = some n
              ∧ c'.kind = .paid ∧ c'.required = need)))

/-- The digit sender (R112): a tone of 80 ms and a gap of 80 ms; loop breaks of 60 ms and makes of 40
ms, then 700 ms. When a digit's signalling ends the sender is idle, or takes the next digit of the Dial
Queue: in DIALLING a tone or the first break, in TALKING and TALKING IN a tone in either mode, or a
pause of 2 s (R96, R100). In a report call it takes the next digit of the report number, stars and
squares passed over in PULSE mode, or the next symbol of the frame, as a tone; after the last digit the
engine awaits the centre, after the last symbol the ACK (R155, R158). A timer is due when under 100 ms
are left (log 6). -/
def Obligations.DigitsAreSignalled : Prop :=
  ∀ (s : State) (d : Sending), s.sys.part = .running → s.line.sender = some d → d.timer < 100 →
    (d.phase = .strobe →
      leadsWith .digitSenderPhaseEnd s s (fun t =>
        t.line.sender = some { d with phase := .gap, timer := 80 }))
    ∧ (d.phase = .brk →
      leadsWith .digitSenderPhaseEnd s s (fun t =>
        t.line.sender = some { d with phase := .make, left := d.left - 1, timer := 40 }))
    ∧ (d.phase = .make →
      leadsWith .digitSenderPhaseEnd s s (fun t =>
        t.line.sender = some (if d.left = 0 then { d with phase := .interDigit, timer := 700 }
          else { d with phase := .brk, timer := 60 })))
    ∧ (d.phase = .gap ∨ d.phase = .interDigit ∨ d.phase = .pause → noReport s →
      (s.call.dialQueue = [] →
        leadsWith .digitSignalEnd s s (fun t => t.line.sender = none))
      ∧ (∀ (p : Profile) c x q, s.gate.profile = some p → s.call.dialQueue = x :: q →
        s.call.cur = some c → s.call.station = .dialling → s.line.state = .sending →
        c.decided = false ∨ c.gatePassed = true →
        leadsWith .digitSignalEnd s s (fun t =>
          t.call.dialQueue = q
          ∧ t.line.sender = some (if x = 12 then ⟨12, .pause, 0, 2000⟩
              else if p.pulse then ⟨x, .brk, if x = 0 then 10 else x, 60⟩
              else ⟨x, .strobe, 0, 80⟩)))
      ∧ (∀ x q, s.call.dialQueue = x :: q → s.call.cur ≠ none →
        s.call.station = .talking ∨ s.call.station = .talkingIn → s.line.state = .connected →
        leadsWith .digitSignalEnd s s (fun t =>
          t.call.dialQueue = q
          ∧ t.line.sender = some (if x = 12 then ⟨12, .pause, 0, 2000⟩ else ⟨x, .strobe, 0, 80⟩))))
    ∧ (d.phase = .gap ∨ d.phase = .interDigit ∨ d.phase = .pause → s.call.station = .reporting →
      (s.report.phase = .dialling → ∀ (p : Profile) ds, s.gate.profile = some p →
        ds = (if p.pulse then s.report.toDial.dropWhile (fun x => x == 10 || x == 11)
          else s.report.toDial) →
        (∀ x q, ds = x :: q →
          leadsWith .digitSignalEnd s s (fun t =>
            t.report.toDial = q ∧ t.report.phase = .dialling
            ∧ t.line.sender = some (if x = 12 then ⟨12, .pause, 0, 2000⟩
                else if p.pulse then ⟨x, .brk, if x = 0 then 10 else x, 60⟩
                else ⟨x, .strobe, 0, 80⟩)))
        ∧ (ds = [] →
          leadsWith .digitSignalEnd s s (fun t =>
            t.report.phase = .awaitCentre ∧ t.line.state = .connected ∧ t.line.sender = none
            ∧ t.report.answerTimer = some (p.answerS * 1000))))
      ∧ (s.report.phase = .sending →
        (∀ x q, s.report.symbols = x :: q → x ≠ 12 →
          leadsWith .digitSignalEnd s s (fun t =>
            t.report.symbols = q ∧ t.report.phase = .sending
            ∧ t.line.sender = some ⟨x, .strobe, 0, 80⟩))
        ∧ (s.report.symbols = [] →
          leadsWith .digitSignalEnd s s (fun t =>
            t.report.phase = .awaitAck ∧ t.report.ackTimer = some 3000
            ∧ t.line.sender = none))))

/-- An answer (R101, R121, R156). In RINGBACK the station becomes TALKING with the call answered in the
present band; so it does in DIALLING where the gate has passed and nothing is left to send, the number
complete, the wait 0 and the line CONNECTED; elsewhere in DIALLING and in CREDIT WAIT an answer is
ignored. A free or an emergency call is not metered. A call of a TIMED or PULSED zone is metered and
its start fee charged at once, with the warning of R125 when the credit left is under the next unit's
charge; a credit under the start fee ends the call. With a free period unit 1 starts at F, without one
at once, charged or cut off under R124; a PULSED call times no unit (R122, R123). In a report call's
AWAIT CENTRE the centre timer starts. A timer is due when under 100 ms are left (log 6). That a
charge total read above 9,999,999 comes down to that is log 65. -/
def Obligations.AnswersAreTaken : Prop :=
  ∀ (s : State) (c : CallInfo), s.sys.part = .running → timerDue s.line.answerP = true →
    s.pins.rev = true → s.call.cur = some c →
    (∀ a : CallInfo,
      (s.call.station = .ringback
          ∧ a = { c with answered := true, talk := 0, band := BitVec.ofNat 3 s.cal.band })
        ∨ (s.call.station = .dialling ∧ c.gatePassed = true ∧ s.call.dialQueue = []
          ∧ s.line.sender = none
          ∧ a = { c with
              complete := true, wait := 0, answered := true, talk := 0,
              band := BitVec.ofNat 3 s.cal.band }) →
      noReport s →
      (c.kind = .free ∨ c.kind = .emergency →
        leadsWith .answerDetected s s (fun t => t.call.station = .talking
          ∧ t.call.answerTimer = none ∧ t.call.cur = some a
          ∧ (s.call.station = .dialling → t.line.state = .connected)))
      ∧ ∀ bank tab n z, s.tariff.active = some (bank, tab) → c.kind = .paid → c.zone = some n →
        tab.zones[n]? = some z → z.kind = .timed ∨ z.kind = .pulsed →
        (s.meter.purse.d - s.meter.purse.c < z.s →
          ∃ t, exec .answerDetected s = .next t ∧ callOver .ready s t
            ∧ t.tally.chargeTotal = s.tally.chargeTotal)
        ∧ (z.s ≤ s.meter.purse.d - s.meter.purse.c → 0 < z.f ∨ z.kind = .pulsed →
          ∀ low : Bool, low = decide (s.meter.purse.d - (s.meter.purse.c + z.s)
            < unitCharge z.u (if z.kind = .timed then tab.mults.getD s.cal.band 100 else 100)
              tab.q) →
          leadsWith .answerDetected s
            { s with
              tally := { s.tally with
                chargeTotal := min 9999999 (s.tally.chargeTotal + z.s) },
              meter := { s.meter with
                metered := some ⟨z.kind == .timed, z.s, z.u, z.l, z.f, tab.q⟩, units := 0,
                charge := z.s, t := 0, nextUnit := if z.kind = .timed then z.f else 0,
                warnLeft := if low then 6 else s.meter.warnLeft,
                warnTimer := if low then some 200 else s.meter.warnTimer } }
            (fun t => t.call.station = .talking ∧ t.call.cur = some a
              ∧ (s.call.station = .dialling → t.line.state = .connected)
              ∧ (s.meter.purse.state = .opened → t.meter.purse
                  = { s.meter.purse with c := s.meter.purse.c + z.s })))
        ∧ (z.s ≤ s.meter.purse.d - s.meter.purse.c → z.f = 0 → z.kind = .timed →
          ∀ e, e = unitCharge z.u (tab.mults.getD s.cal.band 100) tab.q →
          (e ≤ s.meter.purse.d - (s.meter.purse.c + z.s) →
            ∀ low : Bool, low = decide (s.meter.purse.d - (s.meter.purse.c + z.s + e) < e) →
            leadsWith .answerDetected s
              { s with
                tally := { s.tally with
                  chargeTotal := min 9999999 (s.tally.chargeTotal + z.s + e) },
                meter := { s.meter with
                  metered := some ⟨true, z.s, z.u, z.l, 0, tab.q⟩, units := 1,
                  charge := z.s + e, t := 0, nextUnit := z.l,
                  warnLeft := if low then 6 else s.meter.warnLeft,
                  warnTimer := if low then some 200 else s.meter.warnTimer } }
              (fun t => t.call.station = .talking ∧ t.call.cur = some a
                ∧ (s.meter.purse.state = .opened → t.meter.purse
                    = { s.meter.purse with c := s.meter.purse.c + z.s + e })))
          ∧ (s.meter.purse.d - (s.meter.purse.c + z.s) < e →
            ∃ t, exec .answerDetected s = .next t ∧ callOver .ready s t
              ∧ t.tally.chargeTotal = min 9999999 (s.tally.chargeTotal + z.s))))
    ∧ (s.call.station = .creditWait ∨ (s.call.station = .dialling
        ∧ (c.gatePassed = false ∨ s.call.dialQueue ≠ [] ∨ s.line.sender ≠ none)) →
      leadsWith .answerDetected s s (fun t => t.call.station ≠ .talking))
    ∧ (s.call.station = .reporting → s.report.phase = .awaitCentre → s.report.answered = false →
      leadsWith .answerDetected s
        { s with report := { s.report with centreTimer := some 5000 } }
        (fun t => t.report.answered = true ∧ t.report.answerTimer = none ∧ t.report.talk = 0
          ∧ t.report.wait = s.report.wait ∧ t.report.phase = .awaitCentre
          ∧ t.report.band = BitVec.ofNat 3 s.cal.band))

/-- A unit start of a TIMED call, or a METER pulse of a PULSED one, is tested in R124's order: at 65535
units, or with a credit under the unit's charge, the call ends; otherwise the charge is added to C, to
the call charge and to the charge total, the unit counted and, for a TIMED call, the next unit start
set, with the warning of R125 (R119, R121, R122, R123). A unit start that falls on the coming second
carry may be taken before it, in the band that still holds (R50, log 6). A pulse with no PULSED call
talking is stray; one within 100 ms of the pulse last taken is not taken (R114; that a pulse comes with
its phase is log 29). That a charge total read above 9,999,999 comes down to that is log 65. -/
def Obligations.UnitsAreCharged : Prop :=
  (∀ (s : State) (m : Metered) (c : Instr) (l : Line), s.sys.part = .running →
    s.meter.metered = some m → s.call.station = .talking →
    ((c = .unitStart ∧ m.timed = true ∧ l = s.line ∧ (s.meter.nextUnit ≤ s.meter.t
        ∨ s.cal.sub = 9 ∧ s.meter.nextUnit ≤ s.meter.t + 1))
      ∨ ∃ ph, c = .meterPulse ph ∧ m.timed = false ∧ l = { s.line with
          meterTicks := some 0, meterPhase := ph }
        ∧ ∀ k, s.line.meterTicks = some k → 100 + s.line.meterPhase ≤ 100 * k + ph) →
    ∀ e, e = unitCharge m.u (if m.timed then bandMult s s.cal.band else 100) m.q →
    (s.meter.units ≠ 65535 → e ≤ s.meter.purse.d - s.meter.purse.c →
      ∀ low : Bool, low = decide (s.meter.purse.d - (s.meter.purse.c + e) < e) →
      leadsWith c s
        { s with
          line := l,
          tally := { s.tally with chargeTotal := min 9999999 (s.tally.chargeTotal + e) },
          meter := { s.meter with
            units := s.meter.units + 1, charge := s.meter.charge + e,
            nextUnit := if m.timed then s.meter.nextUnit + m.l else s.meter.nextUnit,
            warnLeft := if low then 6 else s.meter.warnLeft,
            warnTimer := if low then some 200 else s.meter.warnTimer } }
        (fun t => t.call.station = .talking ∧ (s.meter.purse.state = .opened →
          t.meter.purse = { s.meter.purse with c := s.meter.purse.c + e })))
    ∧ (s.meter.units = 65535 ∨ s.meter.purse.d - s.meter.purse.c < e → s.call.cur ≠ none →
      noReport s → ∃ t, exec c s = .next t ∧ callOver .ready s t
        ∧ t.tally.chargeTotal = s.tally.chargeTotal))
  ∧ (∀ (s : State) (ph : Nat), s.sys.part = .running →
    ((∀ k, s.line.meterTicks = some k → 100 + s.line.meterPhase ≤ 100 * k + ph) →
      s.meter.metered = none ∨ s.call.station ≠ .talking
        ∨ (∃ m, s.meter.metered = some m ∧ m.timed = true) →
      leads (.meterPulse ph) s
        { s with
          line := { s.line with meterTicks := some 0, meterPhase := ph },
          tally := { s.tally with stray := min 65535 (s.tally.stray + 1) } })
    ∧ (∀ k, s.line.meterTicks = some k → 100 * k + ph < 100 + s.line.meterPhase →
      leads (.meterPulse ph) s s))

/-- WARN's bursts and silences last 200 ms each until none is left (R125). A ringing report in IDLE, or
in READY with no purse open, with incoming calls allowed and the line free is taken into RING IN for 6
s, each further one starting the 6 s again, and their end leaves the station IDLE or READY by the hook;
where R104's conditions fail no ringing is taken: the ring timer and the rest of the steady part stand,
the station is not RING IN, and in IDLE or READY it stays. A timer is due when under 100 ms are left
(log 6). -/
def Obligations.WarnAndRingAreTimed : Prop :=
  ∀ s : State, s.sys.part = .running →
    (timerDue s.meter.warnTimer = true →
      leads .warnBurstTimer s
        { s with meter := { s.meter with
          warnLeft := s.meter.warnLeft - 1,
          warnTimer := if s.meter.warnLeft ≤ 1 then none else some 200 } })
    ∧ (s.line.state = .released ∨ s.line.state = .clearing →
      (s.call.station = .ringIn →
        leadsWith .ringReport s { s with call := { s.call with ringTimer := some 6000 } }
          (fun t => t.call.station = .ringIn))
      ∧ (∀ p : Profile, s.gate.profile = some p → p.incoming = true → s.call.mode ≠ .closed →
        s.call.claim = .free →
        s.call.station = .idle ∨ (s.call.station = .ready ∧ s.meter.purse.state = .absent) →
        leadsWith .ringReport s { s with call := { s.call with ringTimer := some 6000 } }
          (fun t => t.call.station = .ringIn))
      ∧ (∀ p : Profile, s.gate.profile = some p → s.call.station ≠ .ringIn →
        (p.incoming = false ∨ s.call.mode = .closed ∨ s.call.claim ≠ .free
          ∨ (s.call.station ≠ .idle ∧ s.call.station ≠ .ready)
          ∨ (s.call.station = .ready ∧ s.meter.purse.state ≠ .absent)) →
        leadsWith .ringReport s s (fun t => t.call.station ≠ .ringIn
          ∧ (noReport s → s.call.station = .idle ∨ s.call.station = .ready →
              t.call.station = s.call.station))))
    ∧ (s.line.state ≠ .released → s.line.state ≠ .clearing →
      leadsWith .ringReport s s (fun t =>
        noReport s → s.call.station = .idle ∨ s.call.station = .ready ∨ s.call.station = .ringIn →
          t.call.station = s.call.station))
    ∧ (timerDue s.call.ringTimer = true → s.call.station = .ringIn → noReport s →
      leadsWith .ringTimerExpiry s { s with call := { s.call with ringTimer := none } }
        (fun t => t.call.station = if s.call.hook then .ready else .idle))

/-- The line from seizure to dial tone and back (R105, R110, R115, R154). Loop current ends
SEIZING: AWAIT TONE with its limit for an outgoing call, CONNECTED and answered for an incoming
one. Dial tone steady for 300 ms makes the line SENDING, where the inter-digit timer starts or the
first digit is sent; that an answer period starts there with REV already reversed is log 26. The
clearing guard's end makes it RELEASED, or closes SEIZE for a seizure that waits (here with no attempt
due). A timer is due when under 100 ms are left (log 6). -/
def Obligations.LineIsSeizedAndReleased : Prop :=
  ∀ (s : State) (p : Profile), s.sys.part = .running → s.gate.profile = some p →
    (s.line.state = .seizing → s.pins.loop = true →
      (s.call.claim = .caller ∧ noReport s ∨ s.call.claim = .report →
        leadsWith .loopPresent s
          { s with line := { s.line with
            toneLimit := some (p.dialToneS * 1000),
            tonePeriod := if s.pins.dialtone then some 300 else none } }
          (fun t => t.line.state = .awaitTone ∧ t.line.loopTimer = none
            ∧ t.line.seize = s.line.seize
            ∧ (s.call.claim = .report → t.report.phase = .awaitTone)))
      ∧ (∀ c, s.call.claim = .incoming → noReport s → s.call.station = .talkingIn →
        s.call.cur = some c →
        leadsWith .loopPresent s { s with line := { s.line with revRef := s.pins.rev } }
          (fun t => t.line.state = .connected ∧ t.line.loopTimer = none
            ∧ t.call.cur = some { c with
                answered := true, talk := 0, band := BitVec.ofNat 3 s.cal.band })))
    ∧ (s.line.state = .awaitTone → timerDue s.line.tonePeriod = true → s.pins.dialtone = true →
      s.line.sender = none → p.pulse = false →
      (∀ c, s.call.claim = .caller → noReport s → s.call.station = .dialling →
        s.call.cur = some c → c.complete = false →
        (s.call.dialQueue = [] → s.call.interDigit = none →
          leadsWith .dialToneFound s
            { s with line := { s.line with toneLimit := none, tonePeriod := none } }
            (fun t => t.line.state = .sending ∧ t.line.sender = none
              ∧ t.call.interDigit = some (p.interDigitS * 1000)
              ∧ t.line.answerP = if s.pins.rev then some 100 else none))
        ∧ (∀ x q, s.call.dialQueue = x :: q → x ≠ 12 → c.decided = false →
          leadsWith .dialToneFound s
            { s with line := { s.line with toneLimit := none, tonePeriod := none } }
            (fun t => t.line.state = .sending ∧ t.line.sender = some ⟨x, .strobe, 0, 80⟩
              ∧ t.call.dialQueue = q)))
      ∧ (∀ x q, s.call.claim = .report → s.call.station = .reporting →
        s.report.toDial = x :: q → x ≠ 12 →
        leadsWith .dialToneFound s
          { s with line := { s.line with toneLimit := none, tonePeriod := none } }
          (fun t => t.line.state = .sending ∧ t.report.phase = .dialling
            ∧ t.line.sender = some ⟨x, .strobe, 0, 80⟩ ∧ t.report.toDial = q)))
    ∧ (s.line.state = .clearing → timerDue s.line.guard = true → s.report.due = false →
      s.report.phase = .noCall ∨ s.report.phase = .clearing →
      (s.line.waiting = false →
        leadsWith .clearingGuardEnd s { s with line := { s.line with guard := none } }
          (fun t => t.line.state = .released ∧ t.report.phase = .noCall
            ∧ t.line.seize = s.line.seize))
      ∧ (s.line.waiting = true → s.call.claim ≠ .report →
        leadsWith .clearingGuardEnd s { s with line := { s.line with guard := none } }
          (fun t => t.line.state = .seizing ∧ t.line.seize = true ∧ t.line.waiting = false
            ∧ t.line.loopTimer = some 500
            ∧ ∀ c, s.call.cur = some c → s.call.station ≠ .creditWait →
                t.call.cur = some { c with seized := true, start := s.cal.time,
                                           clockInvalid := !s.cal.valid })))

/-! ### Tamper channels -/

/-- What makes a channel trip, and what a trip leaves (R135, R137, R139, R140, R142, R143, R144, R145,
R146): an input debounced open, the shock count reached in its window, ENTRY blocked, the line voltage
lost. Inside the force window a trip of DOOR, CASE or SLOT trips FORCE; the report status that a trip
of these three leaves where it calls none is said with the window closed or no entry failed (R152). A
CORD trip ends a call (here with no reports to make). A shock below the count is only counted. A timer
is due when under 100 ms are left (log 6). -/
def Obligations.ConditionsTripTheirChannels : Prop :=
  ∀ (s : State) (p : Profile), s.sys.part = .running → s.gate.profile = some p →
    (∀ (c : Instr) (ch : Channel),
      ((c = .housingInputDebounced .door ∧ ch = .door ∧ timerDue s.tamper.door.timer = true
          ∧ s.pins.door = true ∧ s.tamper.visitKind = none ∧ s.visit.state = .closed)
        ∨ (c = .housingInputDebounced .case ∧ ch = .case ∧ timerDue s.tamper.case.timer = true
          ∧ s.pins.case = true ∧ s.tamper.visitKind ≠ some .service)
        ∨ (c = .housingInputDebounced .cord ∧ ch = .cord ∧ timerDue s.tamper.cord.timer = true
          ∧ s.pins.cord = true)
        ∨ (c = .slotBlockExpiry ∧ ch = .slot ∧ timerDue s.tamper.slotBlock = true)
        ∨ (c = .lineVoltageLossExpiry ∧ ch = .line ∧ timerDue s.tamper.lossTimer = true)) →
      (getChan ch s).state ≠ .active →
      ∃ t, exec c s = .next t ∧ tripped ch p s t ∧ (getChan ch t).raw = (getChan ch s).raw
        ∧ (ch = .door ∨ ch = .case ∨ ch = .slot → s.tamper.force ≠ none →
            (getChan .force s).state ≠ .active → tripped .force p s t)
        ∧ (s.tamper.force = none ∨ ch = .cord ∨ ch = .line →
            (∀ e ∈ s.report.queue, e.failed = false) →
            ∀ o, o ≠ ch → getChan o t = getChan o s)
        ∧ (ch = .cord → p.threshold = 0 → noReport s → s.call.cur ≠ none →
            inCall s.call.station = true → callOver .ready s t)
        ∧ t.tamper.force = s.tamper.force ∧ t.coin.escrow = s.coin.escrow ∧ t.mem = s.mem)
    ∧ (∀ n, n = (if s.tamper.shockWindow = none then 1 else s.tamper.shockCount + 1) →
      (n ≠ p.shockCount →
        leads .shockPulse s
          { s with tamper := { s.tamper with
            chans := { s.tamper.chans with
              shock := { s.tamper.chans.shock with raw := s.tamper.chans.shock.raw + 1 } },
            shockWindow := if s.tamper.shockWindow = none then some 10000
              else s.tamper.shockWindow,
            shockCount := n, quiet := some 10000 } })
      ∧ (n = p.shockCount → (getChan .shock s).state ≠ .active →
        ∃ t, exec .shockPulse s = .next t ∧ tripped .shock p s t
          ∧ (getChan .shock t).raw = (getChan .shock s).raw + 1
          ∧ t.tamper.force = some (p.forceS * 1000) ∧ t.tamper.shockCount = n
          ∧ t.tamper.quiet = some 10000 ∧ t.mem = s.mem))
    ∧ (timerDue s.tamper.shockWindow = true →
      leads .shockWindowEnd s
        { s with tamper := { s.tamper with shockWindow := none, shockCount := 0 } })

/-- The end of a condition makes an ACTIVE channel LATCHED and leaves any other as it is, its trips
and times kept (R136): an input debounced closed, ten seconds without shock, ENTRY clear, the line
voltage back, the force window over (R137, R139, R140, R142, R143). Every other field of the steady part
stands; the fields that the judgments at a step's end may write are not spoken of. DOOR is here with no
visit at DOOR OPEN, which its closing would end. A timer is due when under 100 ms are left (log 6). -/
def Obligations.ConditionsEndInLatched : Prop :=
  ∀ s : State, s.sys.part = .running →
    ∀ ch c u, ((ch = .door ∧ c = .housingInputDebounced .door ∧ s.pins.door = false
          ∧ timerDue s.tamper.door.timer = true ∧ s.visit.state ≠ .doorOpen
          ∧ u = { s with tamper := { s.tamper with door := ⟨false, none⟩ } })
        ∨ (ch = .case ∧ c = .housingInputDebounced .case ∧ s.pins.case = false
          ∧ timerDue s.tamper.case.timer = true
          ∧ u = { s with tamper := { s.tamper with case := ⟨false, none⟩ } })
        ∨ (ch = .cord ∧ c = .housingInputDebounced .cord ∧ s.pins.cord = false
          ∧ timerDue s.tamper.cord.timer = true
          ∧ u = { s with tamper := { s.tamper with cord := ⟨false, none⟩ } })
        ∨ (ch = .shock ∧ c = .shockQuietExpiry ∧ timerDue s.tamper.quiet = true
          ∧ u = { s with tamper := { s.tamper with quiet := none } })
        ∨ (ch = .slot ∧ c = .slotClearExpiry ∧ timerDue s.tamper.slotClear = true
          ∧ u = { s with tamper := { s.tamper with slotClear := none } })
        ∨ (ch = .line ∧ c = .lineVoltagePresentExpiry
          ∧ timerDue s.tamper.presentTimer = true
          ∧ u = { s with tamper := { s.tamper with presentTimer := none } })
        ∨ (ch = .force ∧ c = .forceWindowEnd ∧ timerDue s.tamper.force = true
          ∧ u = { s with tamper := { s.tamper with force := none } })) →
      ((getChan ch s).state = .active →
        leads c s (setChan ch { getChan ch s with state := .latched } u))
      ∧ ((getChan ch s).state ≠ .active → leads c s u)

/-! ### Report calls -/

/-- ATTEMPT DUE (R108, R152, R153, R154): the claim is raised with the severity of the queue's
head. With the line claim free it is granted in IDLE, and at severity 3 in READY with no purse open:
REPORTING, the Report Engine in SEIZE with the number of the attempt, SEIZE closed from RELEASED, a
seizure waiting for the guard from CLEARING. Otherwise the claim stands: a line claim not free, another
station, or READY with a lower severity or a purse that stays open. With no primary number nothing is
due. NEW ROUND DUE puts every failed entry and its channel back to QUEUED and begins at attempt 1. A
timer is due when under 100 ms are left (log 6). -/
def Obligations.AttemptsFallDue : Prop :=
  ∀ (s : State) (p : Profile), s.sys.part = .running → s.gate.profile = some p →
    timerDue s.report.nextDue = true → s.report.phase = .noCall →
    (s.report.round = .inRound →
      (p.primary = [] →
        leadsWith .attemptDue s { s with report := { s.report with nextDue := none } }
          (fun t => t.report.due = false ∧ t.call.claim = s.call.claim
            ∧ t.report.phase = .noCall))
      ∧ (∀ e q, p.primary ≠ [] → s.report.queue = e :: q →
        (s.call.claim = .free → s.call.station = .idle ∨ (e.severity = 3
            ∧ s.call.station = .ready ∧ s.meter.purse.state = .absent) →
          leadsWith .attemptDue s { s with report := { s.report with nextDue := none } }
            (fun t => t.call.claim = .report ∧ t.call.station = .reporting
              ∧ t.call.reportClaim = none ∧ t.report.phase = .seize ∧ t.report.due = false
              ∧ t.report.dialled = (if s.report.attempt ≤ 2 ∨ p.secondary = [] then p.primary
                  else p.secondary)
              ∧ t.report.toDial = t.report.dialled
              ∧ (s.line.state = .released → t.report.start = s.cal.time
                ∧ t.line.state = .seizing ∧ t.line.seize = true
                ∧ t.line.loopTimer = some 500)
              ∧ (s.line.state = .clearing → t.report.seized = false
                ∧ t.line.state = .clearing ∧ t.line.seize = s.line.seize
                ∧ t.line.waiting = true)))
        ∧ (s.call.claim ≠ .free ∨ (s.call.station ≠ .idle ∧ s.call.station ≠ .ready)
            ∨ (s.call.station = .ready ∧ (e.severity ≠ 3
              ∨ (s.meter.purse.state = .opened ∧ s.call.hook = true)
              ∨ (s.meter.purse.state ≠ .absent ∧ s.coin.escrow ≠ []))) →
          leadsWith .attemptDue s { s with report := { s.report with nextDue := none } }
            (fun t => t.report.due = true ∧ t.call.reportClaim = some e.severity
              ∧ t.call.claim = s.call.claim ∧ t.report.phase = .noCall))))
    ∧ (s.report.round = .failed →
      ∃ t, exec .newRoundDue s = .next t ∧ t.report.round = .inRound ∧ t.report.attempt = 1
        ∧ t.report.nextDue = none
        ∧ t.report.queue = s.report.queue.map (fun e => { e with failed := false })
        ∧ (∀ ch, (∃ e ∈ s.report.queue, e.failed = true ∧ e.code = channelCode ch) →
            getChan ch t = { getChan ch s with status := .queued })
        ∧ (∀ ch, (∀ e ∈ s.report.queue, e.failed = true → e.code ≠ channelCode ch) →
            getChan ch t = getChan ch s)
        ∧ t.coin.escrow = s.coin.escrow ∧ t.mem = s.mem)

/-- CENTRE TONE (R156, R157, R158): every entry is marked and a frame is built for each in queue
order; the first frame begins with its star, in tones. A frame is the star, the station number, the
code, the severity, the trips, the time, the cash box value for codes 1 and 8, the check digit and
the square. The trips and the time are those of the channel's latest trip; that the time is not the
entry's where these differ is log 44. That a cash box value above 9,999,999 is sent by its seven low
digits is log 65. -/
def Obligations.CentreToneTakesTheSnapshot : Prop :=
  (∀ (s : State) (p : Profile), s.sys.part = .running → s.gate.profile = some p →
    s.report.phase = .awaitCentre → s.report.centreTimer ≠ none → s.line.sender = none →
    s.report.queue ≠ [] → s.call.station = .reporting →
    leadsWith .centreTone s
      { s with report := { s.report with
        queue := s.report.queue.map (fun e => { e with snap := true, renew := false }),
        frames := s.report.queue.map (fun e => ⟨e.code, frameSymbols (frameDigits p.station
          s.tally.boxValue (((channelOf e.code).map (fun ch => (getChan ch s).trips)).getD 0)
          { e with time :=
              ((channelOf e.code).map (fun ch => (getChan ch s).last)).getD e.time })⟩),
        pos := 0, centreTimer := none } }
      (fun t => t.report.phase = .sending ∧ t.line.sender = some ⟨10, .strobe, 0, 80⟩
        ∧ (t.report.frames.head?).map (·.symbols) = some (10 :: t.report.symbols)))
  ∧ (∀ (station : List Nat) (box trips : Nat) (e : ReportEntry) (n b : Nat),
    n = (if e.code = 9 then 0 else min 999 trips) →
    b = (if e.code = 1 ∨ e.code = 8 then box else 0) →
    ∃ check, frameSymbols (frameDigits station box trips e)
        = [10] ++ station ++ [e.code, e.severity, n / 100 % 10, n / 10 % 10, n % 10,
            e.time.month / 10 % 10, e.time.month % 10, e.time.day / 10 % 10, e.time.day % 10,
            e.time.hour / 10 % 10, e.time.hour % 10, e.time.minute / 10 % 10,
            e.time.minute % 10, b / 1000000 % 10, b / 100000 % 10, b / 10000 % 10,
            b / 1000 % 10, b / 100 % 10, b / 10 % 10, b % 10, check, 11]
      ∧ check < 10 ∧ check = (frameDigits station box trips e).sum % 10
      ∧ (station.length = 8 →
          (frameSymbols (frameDigits station box trips e)).length = 31))

/-- ACK TONE (R158, R159): the next frame is sent; after the last the attempt has succeeded: the line is let
go, the engine CLEARING, the claim free, the entries sent and not renewed leave the queue with their channels
told SENT, and the round ends or begins afresh. NAK, or no ACK in 3 s, or no CENTRE in 5 s, no loop, no dial
tone, no answer within the limit, a line loss or a far-end clear, fails the attempt: the next falls due after
the base interval times 1, 2 or 4, and the fourth failure fails the round until an hour has passed (R152,
R156, R160, R162). That a call which an emptied queue has left without a round fails as attempt 1 of a round
begun meanwhile is log 61. A queue emptied by CLEAR TAMPER before the snapshot ends the call without a counted
attempt, and the round (R152, R161). That the renewal marks are cleared with the snapshot marks is log 46. A
timer is due when under 100 ms are left (log 6). -/
def Obligations.ReportAttemptsEnd : Prop :=
  (∀ s : State, s.sys.part = .running → s.report.phase = .awaitAck →
    (∀ f, s.report.frames[s.report.pos + 1]? = some f → s.line.sender = none →
      ∀ x q, f.symbols = x :: q → x ≠ 12 → s.call.station = .reporting →
      leadsWith .ackTone s { s with report := { s.report with pos := s.report.pos + 1 } }
        (fun t => t.report.phase = .sending ∧ t.report.symbols = q
          ∧ t.line.sender = some ⟨x, .strobe, 0, 80⟩))
    ∧ (s.report.frames.length ≤ s.report.pos + 1 → s.line.state = .connected →
      ∃ t, exec .ackTone s = .next t ∧ t.report.phase = .clearing ∧ t.line.state = .clearing
        ∧ t.line.seize = false ∧ t.call.claim = .free ∧ t.call.cur = none
        ∧ t.call.station = (if s.call.hook then .ready else .idle)
        ∧ t.report.queue = (s.report.queue.filter (fun e => !(e.snap && !e.renew))).map
            (fun e => { e with failed := if e.snap then false else e.failed,
                               snap := false, renew := false })
        ∧ t.report.attempt = 1 ∧ t.report.nextDue = none
        ∧ t.report.round = (if t.report.queue = [] then .noRound else .inRound)
        ∧ (∀ ch, (∃ e ∈ s.report.queue, e.snap = true ∧ e.renew = false
            ∧ e.code = channelCode ch) → getChan ch t = { getChan ch s with status := .sent })
        ∧ (∀ ch, (∀ e ∈ s.report.queue, e.code ≠ channelCode ch) →
            getChan ch t = getChan ch s)
        ∧ t.ring.seq = (if s.report.seized then (s.ring.seq + 1) % 65536 else s.ring.seq)
        ∧ t.coin.escrow = s.coin.escrow ∧ t.mem = s.mem))
  ∧ (∀ (s : State) (p : Profile) (c : Instr), s.sys.part = .running → s.gate.profile = some p →
    ((c = .nakTone ∧ s.report.phase = .awaitAck)
      ∨ (c = .ackTimerExpiry ∧ s.report.phase = .awaitAck
        ∧ timerDue s.report.ackTimer = true)
      ∨ (c = .centreTimerExpiry ∧ s.report.phase = .awaitCentre
        ∧ timerDue s.report.centreTimer = true)
      ∨ (c = .loopTimerExpiry ∧ s.line.state = .seizing ∧ timerDue s.line.loopTimer = true
        ∧ s.call.claim = .report)
      ∨ (c = .dialToneLimitExpiry ∧ s.line.state = .awaitTone
        ∧ timerDue s.line.toneLimit = true ∧ s.call.claim = .report)
      ∨ (c = .answerLimitExpiry ∧ s.report.phase = .awaitCentre ∧ s.call.station = .reporting
        ∧ timerDue s.report.answerTimer = true)
      ∨ (c = .lineLoss ∧ timerDue s.line.loss = true ∧ pastSeizing s.line = true
        ∧ s.pins.loop = false ∧ s.call.claim = .report)
      ∨ (c = .farEndClear ∧ timerDue s.line.clearP = true ∧ s.call.station = .reporting
        ∧ s.report.answered = true ∧ (s.report.phase = .awaitCentre
          ∨ s.report.phase = .sending ∨ s.report.phase = .awaitAck))) →
    s.report.round = .inRound → s.line.state ≠ .released → s.line.state ≠ .clearing →
    ∃ t, exec c s = .next t ∧ t.report.phase = .clearing ∧ t.line.state = .clearing
      ∧ t.line.seize = false ∧ t.call.claim = .free ∧ t.report.due = false
      ∧ t.call.station = (if s.call.hook then .ready else .idle)
      ∧ (s.report.attempt < 4 →
          t.report.round = .inRound ∧ t.report.attempt = s.report.attempt + 1
          ∧ t.report.nextDue = some (p.reportBaseS * 2 ^ (s.report.attempt - 1) * 1000)
          ∧ t.report.queue
              = s.report.queue.map (fun e => { e with snap := false, renew := false })
          ∧ t.tamper.chans = s.tamper.chans)
      ∧ (4 ≤ s.report.attempt →
          t.report.round = .failed ∧ t.report.attempt = 1
          ∧ t.report.nextDue = some (3600 * 1000)
          ∧ t.report.queue = s.report.queue.map
              (fun e => { e with snap := false, renew := false, failed := true })
          ∧ (∀ ch, (∃ e ∈ s.report.queue, e.code = channelCode ch) →
              getChan ch t = { getChan ch s with status := .failed })
          ∧ (∀ ch, (∀ e ∈ s.report.queue, e.code ≠ channelCode ch) →
              getChan ch t = getChan ch s))
      ∧ t.ring.seq = (if s.report.seized then (s.ring.seq + 1) % 65536 else s.ring.seq)
      ∧ t.coin.escrow = s.coin.escrow ∧ t.mem = s.mem)
  ∧ (∀ (s : State) (p : Profile) (n : Fin 16) (d : List Byte) (ch : Channel) (e : ReportEntry),
    orderAt 11 n d s → s.gate.profile = some p → roomy s → natAt d 2 = channelCode ch →
    (getChan ch s).state = .latched →
    (getChan ch s).status = .queued ∨ (getChan ch s).status = .failed →
    s.report.queue = [e] → e.code = channelCode ch →
    s.report.phase = .seize ∨ s.report.phase = .awaitTone ∨ s.report.phase = .dialling
      ∨ s.report.phase = .awaitCentre →
    s.line.state ≠ .released → s.line.state ≠ .clearing →
    ∃ t, exec .clearTamper s = .next t ∧ answeredInTurn n 1 (getChan ch s).trips s t
      ∧ t.report.queue = [] ∧ t.report.phase = .clearing ∧ t.report.round = .noRound
      ∧ t.report.attempt = 1 ∧ t.report.nextDue = none ∧ t.report.due = false
      ∧ t.line.state = .clearing ∧ t.line.seize = false ∧ t.call.claim = .free
      ∧ t.call.station = (if s.call.hook then .ready else .idle)
      ∧ t.ring.seq = (if s.report.seized then (s.ring.seq + 1) % 65536 else s.ring.seq)
      ∧ t.coin.escrow = s.coin.escrow ∧ t.mem = s.mem)
end

