-- ==== Sys2Proof/Laws/Judgments.lean ====
section
/-! SUPPORT. Posts, images and events leave all but themselves alone, and the judgments at the end of a
step leave the steady part of the state alone. -/
namespace Sys2Proof.Laws
open Sys2Proof.Machine Sys2Proof.Safety

/-- A state without its posts: `s` with the Post Queue and its line, the Event Ring's counters, the events
not yet written, the images and the free values drawn set to fixed values. Giving posts, raising and
writing events and rewriting images change nothing else (R12, R14, R29). -/
def unposted (s : State) : State :=
  { s with
    gate := { s.gate with queue := [], waiters := [] },
    ev := { s.ev with
      w := 0, dropped := 0, seq := 0, guardFlag := false, guardIdx := 0, outbox := [] },
    img := State.reset.img, fresh := 0 }

/-- What is equal but for the posts has the same steady part. -/
theorem steady_of_unposted {s t : State} (h : unposted s = unposted t) : steady s = steady t :=
  show steady (unposted s) = steady (unposted t) from congrArg steady h

/-- Both branches of a choice keep all but the posts. -/
theorem ite_unposted {c : Prop} [Decidable c] {a b s : State} (h1 : unposted a = unposted s)
    (h2 : unposted b = unposted s) : unposted (if c then a else b) = unposted s := by
  split <;> assumption

/-! ### Posts, images and events -/

theorem raise_unposted (b : Block) (code : Nat) (d : List Byte) (s : State) :
    unposted (raise b code d s) = unposted s := by
  unfold raise
  split <;> rfl

theorem append_unposted (e : PostEntry) (s : State) : unposted (append e s) = unposted s := rfl

theorem joinLine_unposted (p : Producer) (l : List Offer) (s : State) :
    unposted (joinLine p l s) = unposted s := by
  unfold joinLine
  split <;> rfl

theorem setImage_unposted (i : ImageId) (x : Image) (s : State) :
    unposted (setImage i x s) = unposted s := by cases i <;> rfl

theorem startOwed_unposted (i : ImageId) (s : State) : unposted (startOwed i s) = unposted s := by
  simp only [startOwed]
  split
  · exact setImage_unposted i _ s
  · rfl

theorem appendRun_unposted (i : ImageId) (s : State) : unposted (appendRun i s) = unposted s := by
  simp only [appendRun]
  split
  · rw [startOwed_unposted, setImage_unposted, append_unposted]
  · exact setImage_unposted i _ s

theorem pumpImage_unposted (i : ImageId) (n : Nat) (s : State) :
    unposted (pumpImage i n s) = unposted s := by
  induction n generalizing s with
  | zero => rfl
  | succ n ih =>
    unfold pumpImage
    split
    · rfl
    · split
      · rw [ih, appendRun_unposted]
      · exact joinLine_unposted _ _ s

theorem offerItems_unposted (p : Producer) (l : List Offer) (s : State) :
    unposted (offerItems p l s) = unposted s := by
  induction l generalizing s with
  | nil => rfl
  | cons o l ih =>
    cases o with
    | entry e =>
      unfold offerItems
      split
      · rw [ih, append_unposted]
      · exact joinLine_unposted _ _ s
    | imageRun i =>
      unfold offerItems
      rw [ih]; exact pumpImage_unposted i 20 s
    | finished d =>
      unfold offerItems
      rw [ih, raise_unposted]

theorem offer_unposted (p : Producer) (es : List PostEntry) (s : State) :
    unposted (offer p es s) = unposted s := offerItems_unposted _ _ s

/-- A rewrite leaves all but the posts alone. -/
theorem giveRewrite_unposted (i : ImageId) (s : State) : unposted (giveRewrite i s) = unposted s := by
  unfold giveRewrite
  dsimp only
  split
  · split
    · exact (pumpImage_unposted i 20 _).trans
        ((startOwed_unposted i _).trans (setImage_unposted i _ s))
    · rfl
    · rfl
    · exact setImage_unposted i _ s
    · exact setImage_unposted i _ s
  · rfl

theorem touchLive_unposted (s : State) : unposted (touchLive s) = unposted s := rfl

/-- The Tally's rewrite is given where a change calls for it. -/
theorem postTally_unposted (s : State) : unposted (if s.img.tallyDirty = true then
    giveRewrite .tally { s with img := { s.img with tallyDirty := false } } else s) = unposted s :=
  ite_unposted (giveRewrite_unposted .tally _) rfl

/-- The Live Image's rewrite is given where a change calls for it. -/
theorem postLive_unposted (s : State) : unposted (if s.img.liveDirty = true then
    giveRewrite .live { s with img := { s.img with liveDirty := false } } else s) = unposted s :=
  ite_unposted (giveRewrite_unposted .live _) rfl

theorem postImages_unposted (s : State) : unposted (postImages s) = unposted s :=
  (postLive_unposted _).trans (postTally_unposted s)

theorem shuffleWaiters_unposted (n : Nat) (s : State) : unposted (shuffleWaiters n s) = unposted s := rfl

theorem writeEvent_unposted (e : Event) (s : State) : unposted (writeEvent e s) = unposted s := by
  unfold writeEvent
  split
  · rfl
  · dsimp only
    split
    · rw [offer_unposted]; rfl
    · split
      · rw [offer_unposted]; rfl
      · rfl

theorem writeEvents_unposted (l : List Event) (s : State) :
    unposted (l.foldl (fun s e => writeEvent e s) s) = unposted s := by
  induction l generalizing s with
  | nil => rfl
  | cons e l ih => rw [List.foldl_cons, ih, writeEvent_unposted]

theorem flushEvents_unposted (s : State) : unposted (flushEvents s) = unposted s := by
  unfold flushEvents
  split
  · dsimp only
    rw [writeEvents_unposted]; rfl
  · rfl

/-! ### The steady part -/

/-- Both branches of a choice keep the steady part. -/
theorem ite_steady {c : Prop} [Decidable c] {a b s : State} (h1 : steady a = steady s)
    (h2 : steady b = steady s) : steady (if c then a else b) = steady s := by
  split <;> assumption

theorem raise_steady (b : Block) (code : Nat) (d : List Byte) (s : State) :
    steady (raise b code d s) = steady s :=
  steady_of_unposted (raise_unposted b code d s)

theorem append_steady (e : PostEntry) (s : State) : steady (append e s) = steady s :=
  steady_of_unposted (append_unposted e s)

theorem joinLine_steady (p : Producer) (l : List Offer) (s : State) :
    steady (joinLine p l s) = steady s :=
  steady_of_unposted (joinLine_unposted p l s)

theorem setImage_steady (i : ImageId) (x : Image) (s : State) :
    steady (setImage i x s) = steady s :=
  steady_of_unposted (setImage_unposted i x s)

theorem startOwed_steady (i : ImageId) (s : State) : steady (startOwed i s) = steady s :=
  steady_of_unposted (startOwed_unposted i s)

theorem appendRun_steady (i : ImageId) (s : State) : steady (appendRun i s) = steady s :=
  steady_of_unposted (appendRun_unposted i s)

theorem pumpImage_steady (i : ImageId) (n : Nat) (s : State) :
    steady (pumpImage i n s) = steady s :=
  steady_of_unposted (pumpImage_unposted i n s)

theorem offerItems_steady (p : Producer) (l : List Offer) (s : State) :
    steady (offerItems p l s) = steady s :=
  steady_of_unposted (offerItems_unposted p l s)

theorem offer_steady (p : Producer) (es : List PostEntry) (s : State) :
    steady (offer p es s) = steady s :=
  steady_of_unposted (offer_unposted p es s)

/-- A rewrite leaves the steady part alone. -/
theorem giveRewrite_steady (i : ImageId) (s : State) : steady (giveRewrite i s) = steady s :=
  steady_of_unposted (giveRewrite_unposted i s)

theorem touchLive_steady (s : State) : steady (touchLive s) = steady s :=
  steady_of_unposted (touchLive_unposted s)

/-- The Tally's rewrite is given where a change calls for it. -/
theorem postTally_steady (s : State) : steady (if s.img.tallyDirty = true then
    giveRewrite .tally { s with img := { s.img with tallyDirty := false } } else s) = steady s :=
  steady_of_unposted (postTally_unposted s)

/-- The Live Image's rewrite is given where a change calls for it. -/
theorem postLive_steady (s : State) : steady (if s.img.liveDirty = true then
    giveRewrite .live { s with img := { s.img with liveDirty := false } } else s) = steady s :=
  steady_of_unposted (postLive_unposted s)

theorem postImages_steady (s : State) : steady (postImages s) = steady s :=
  steady_of_unposted (postImages_unposted s)

theorem shuffleWaiters_steady (n : Nat) (s : State) : steady (shuffleWaiters n s) = steady s :=
  steady_of_unposted (shuffleWaiters_unposted n s)

theorem writeEvent_steady (e : Event) (s : State) : steady (writeEvent e s) = steady s :=
  steady_of_unposted (writeEvent_unposted e s)

theorem writeEvents_steady (l : List Event) (s : State) :
    steady (l.foldl (fun s e => writeEvent e s) s) = steady s :=
  steady_of_unposted (writeEvents_unposted l s)

theorem flushEvents_steady (s : State) : steady (flushEvents s) = steady s :=
  steady_of_unposted (flushEvents_unposted s)

/-! ### Money and the lane -/

theorem setPurse_steady (p : Purse) (s : State) : steady (setPurse p s) = steady s := rfl

theorem startAction_steady (l : LaneState) (g : LaneGate) (s : State) :
    steady (startAction l g s) = steady s := rfl

theorem setDemand_steady (r : Request) (s : State) : steady (setDemand r s) = steady s := rfl

theorem startLane_steady (s : State) : steady (startLane s) = steady s := by
  unfold startLane
  split
  · split
    · rfl
    · split
      · rfl
      · split
        · split <;> rfl
        · rfl
        · rfl
  · rfl

theorem markLate_steady (s : State) : steady (markLate s) = steady s := by
  simp [steady, markLate]

theorem closePurse_steady (s : State) : steady (closePurse s) = steady s := by
  unfold closePurse
  simp only [setDemand_steady, setPurse_steady, markLate_steady, raise_steady]
  rfl

theorem setHold_steady (c : HoldCause) (s : State) : steady (setHold c s) = steady s := by
  unfold setHold
  dsimp only
  split
  · split <;> rfl
  · split
    · split <;> rfl
    · rw [raise_steady]; rfl

theorem settleOnHook_steady (s : State) : steady (settleOnHook s) = steady s := by
  unfold settleOnHook beginSettlement
  split
  · split <;> rfl
  · rfl

theorem judgeDemand_steady (s : State) : steady (judgeDemand s) = steady s := by
  have h2 : steady (if requestInFlight s.coin = true then s
      else if (s.coin.escrow.isEmpty && !inFlight s.coin.lane) = true then closePurse s
      else setHold (holdCauseOf (settleDemand s) s) (setDemand (settleDemand s) s))
      = steady s := by
    split
    · rfl
    · split
      · exact closePurse_steady s
      · rw [setHold_steady, setDemand_steady]
  unfold judgeDemand
  split
  · rfl
  · split <;> rfl
  · exact h2
  · exact h2

theorem judgeMoney_steady (s : State) : steady (judgeMoney s) = steady s := by
  unfold judgeMoney
  split
  · rw [startLane_steady, judgeDemand_steady, settleOnHook_steady]
  · rfl

/-! ### Tariff and mode -/

theorem setBankGuard_steady (bank : Bank) (on : Bool) (s : State) :
    steady (setBankGuard bank on s) = steady s := by cases bank <;> rfl

theorem activate_steady (bank : Bank) (t : Tables) (s : State) :
    steady (activate bank t s) = steady s := by
  have h : ∀ u : State, steady (handBank (some bank) t.edition u) = steady u := fun _ => rfl
  have h' : ∀ u : State, steady (reselectBand u) = steady u := fun _ => rfl
  unfold activate
  dsimp only
  rw [h, raise_steady, h']
  split
  · split
    · rfl
    · rw [setBankGuard_steady]; rfl
  · rfl

theorem judgeActivation_steady (s : State) : steady (judgeActivation s) = steady s := by
  unfold judgeActivation
  split
  · split
    · exact activate_steady _ _ s
    · rfl
  · rfl
  · rfl

theorem judgeActivationClock_steady (s : State) : steady (judgeActivationClock s) = steady s := by
  unfold judgeActivationClock
  dsimp only
  split
  · exact judgeActivation_steady s
  · rw [giveRewrite_steady, judgeActivation_steady]

theorem judgeMode_steady (s : State) : steady (judgeMode s) = steady s := by
  unfold judgeMode
  dsimp only
  split
  · rfl
  · rw [raise_steady]; rfl

/-! ### The report claim and the digit sender -/

theorem askSeize_steady (s : State) : steady (askSeize s) = steady s := by
  unfold askSeize closeSeize
  split
  · dsimp only
    split <;> rfl
  · rfl

theorem grantReport_steady (s : State) : steady (grantReport s) = steady s := by
  unfold grantReport
  split
  · rfl
  · dsimp only
    rw [askSeize_steady]; rfl

theorem judgeReport_steady (s : State) : steady (judgeReport s) = steady s := by
  unfold judgeReport
  dsimp only
  split
  · rfl
  · split
    · rw [grantReport_steady]; rfl
    · rfl

theorem judgeGate_steady (s : State) : steady (judgeGate s) = steady s := by
  unfold judgeGate
  split
  · rfl
  · split <;> rfl

theorem startDigit_steady (p : Bool) (d : Nat) (s : State) :
    steady (startDigit p d s) = steady s := by
  unfold startDigit
  split
  · rfl
  · split <;> rfl

theorem offerDigit_steady (s : State) : steady (offerDigit s) = steady s := by
  unfold offerDigit
  split
  · split
    · rw [startDigit_steady]; rfl
    · split
      · rw [startDigit_steady]; rfl
      · rfl
  · rfl

theorem judgeRingback_steady (s : State) : steady (judgeRingback s) = steady s := by
  unfold judgeRingback
  split
  · split <;> rfl
  · rfl

theorem judgeInterDigit_steady (s : State) : steady (judgeInterDigit s) = steady s := by
  unfold judgeInterDigit
  split
  · split <;> rfl
  · rfl

theorem offerReport_steady (s : State) : steady (offerReport s) = steady s := by
  unfold offerReport
  split
  · split
    · split
      · rw [startDigit_steady]; rfl
      · rfl
    · split
      · rw [startDigit_steady]; rfl
      · rfl
    all_goals rfl
  · rfl

theorem judgeSender_steady (s : State) : steady (judgeSender s) = steady s := by
  unfold judgeSender
  rw [offerReport_steady, judgeInterDigit_steady, judgeRingback_steady, offerDigit_steady,
    judgeGate_steady]

/-! ### The end of a step -/

theorem judgeReasons_steady (s : State) : steady (judgeReasons s) = steady s := by
  have h : ∀ r : BitVec 10, steady (if r = s.coin.reasons then s
      else touchLive { s with coin := { s.coin with reasons := r } }) = steady s :=
    fun r => ite_steady rfl rfl
  exact h (closingReasons s)

theorem settle_steady (s : State) : steady (settle s) = steady s := by
  unfold settle
  split
  · rw [judgeSender_steady, judgeReport_steady, judgeMode_steady, judgeActivationClock_steady,
      judgeMoney_steady]
  · rfl

/-- What the blocks judge at the end of a step leaves the steady part alone. -/
theorem finish_steady (n : Nat) (s : State) : steady (finish n s) = steady s := by
  unfold finish
  rw [shuffleWaiters_steady, postImages_steady, flushEvents_steady, judgeReasons_steady,
    settle_steady]

end Sys2Proof.Laws
end

