-- ==== Sys2Proof/Laws/Memory.lean ====
section
/-! SUPPORT. Laws of the memory: every operation keeps the canonical form; a read after a write. -/
namespace Sys2Proof.Laws
open Sys2Proof.Machine

theorem wfFrom_mono {lo hi : Nat} (h : lo ≤ hi) (m : List Host.Cell)
    (w : Memory.wfFrom hi m = true) : Memory.wfFrom lo m = true := by
  cases m with
  | nil => rfl
  | cons c m =>
    obtain ⟨k, b⟩ := c
    simp only [Memory.wfFrom, Bool.and_eq_true, decide_eq_true_eq] at w ⊢
    exact ⟨⟨⟨by omega, w.1.1.2⟩, w.1.2⟩, w.2⟩

theorem put_wfFrom (m : List Host.Cell) (lo a : Nat) (v : Byte) (hlo : lo ≤ a) (ha : a < 65536)
    (w : Memory.wfFrom lo m = true) : Memory.wfFrom lo (Memory.put m a v) = true := by
  induction m generalizing lo with
  | nil =>
    unfold Memory.put
    split
    · rfl
    · rename_i hv
      simp [Memory.wfFrom, hlo, ha, hv]
  | cons c m ih =>
    obtain ⟨k, b⟩ := c
    simp only [Memory.wfFrom, Bool.and_eq_true, decide_eq_true_eq] at w
    obtain ⟨⟨⟨h1, h2⟩, h3⟩, h4⟩ := w
    unfold Memory.put
    split
    · rename_i hk
      split
      · exact wfFrom_mono (by omega) m h4
      · rename_i hv
        simp only [Memory.wfFrom, Bool.and_eq_true, decide_eq_true_eq]
        exact ⟨⟨⟨hlo, ha⟩, hv⟩, hk ▸ h4⟩
    · split
      · split
        · simp only [Memory.wfFrom, Bool.and_eq_true, decide_eq_true_eq]
          exact ⟨⟨⟨h1, h2⟩, h3⟩, h4⟩
        · rename_i hv
          simp only [Memory.wfFrom, Bool.and_eq_true, decide_eq_true_eq]
          exact ⟨⟨⟨hlo, ha⟩, hv⟩, ⟨⟨by omega, h2⟩, h3⟩, h4⟩
      · simp only [Memory.wfFrom, Bool.and_eq_true, decide_eq_true_eq]
        exact ⟨⟨⟨h1, h2⟩, h3⟩, ih (k + 1) (by omega) h4⟩

/-- A write keeps the canonical form. -/
theorem write_wf (m : List Host.Cell) (a : Nat) (v : Byte) (w : Memory.wf m = true) :
    Memory.wf (Memory.write m a v) = true :=
  put_wfFrom m 0 _ v (Nat.zero_le _) (Nat.mod_lt _ (by decide)) w

/-- A run of writes keeps the canonical form. -/
theorem writeRun_wf (m : List Host.Cell) (a : Nat) (vs : List Byte) (w : Memory.wf m = true) :
    Memory.wf (Memory.writeRun m a vs) = true := by
  induction vs generalizing m a with
  | nil => exact w
  | cons v vs ih => exact ih _ _ (write_wf m a v w)

theorem find_below (m : List Host.Cell) (lo a : Nat) (h : a < lo)
    (w : Memory.wfFrom lo m = true) : Memory.find m a = Memory.blank := by
  cases m with
  | nil => rfl
  | cons c m =>
    obtain ⟨k, b⟩ := c
    simp only [Memory.wfFrom, Bool.and_eq_true, decide_eq_true_eq] at w
    have h1 : k ≠ a := by omega
    have h2 : a < k := by omega
    simp [Memory.find, h1, h2]

theorem find_put_same (m : List Host.Cell) (lo a : Nat) (v : Byte)
    (w : Memory.wfFrom lo m = true) : Memory.find (Memory.put m a v) a = v := by
  induction m generalizing lo with
  | nil =>
    unfold Memory.put
    split
    · rename_i hv; simp [Memory.find, hv]
    · simp [Memory.find]
  | cons c m ih =>
    obtain ⟨k, b⟩ := c
    simp only [Memory.wfFrom, Bool.and_eq_true, decide_eq_true_eq] at w
    obtain ⟨⟨⟨h1, h2⟩, h3⟩, h4⟩ := w
    unfold Memory.put
    split
    · rename_i hk
      split
      · rename_i hv
        rw [find_below m (k + 1) a (by omega) h4, hv]
      · simp [Memory.find]
    · split
      · rename_i hk hl
        split
        · rename_i hv; simp [Memory.find, hk, hl, hv]
        · simp [Memory.find]
      · rename_i hk hl
        simp only [Memory.find, hk, hl, if_false]
        exact ih _ h4

theorem find_put_other (m : List Host.Cell) (lo a x : Nat) (v : Byte) (hx : x ≠ a)
    (w : Memory.wfFrom lo m = true) :
    Memory.find (Memory.put m a v) x = Memory.find m x := by
  induction m generalizing lo with
  | nil =>
    unfold Memory.put
    split
    · rfl
    · simp only [Memory.find]
      have : ¬ a = x := fun h => hx h.symm
      simp [this]
  | cons c m ih =>
    obtain ⟨k, b⟩ := c
    simp only [Memory.wfFrom, Bool.and_eq_true, decide_eq_true_eq] at w
    obtain ⟨⟨⟨h1, h2⟩, h3⟩, h4⟩ := w
    have hax : ¬ a = x := fun h => hx h.symm
    unfold Memory.put
    split
    · rename_i hk
      subst hk
      split
      · by_cases hlt : x < k
        · rw [find_below m (k + 1) x (by omega) h4]
          simp [Memory.find, hax, hlt]
        · simp [Memory.find, hax, hlt]
      · simp [Memory.find, hax]
    · split
      · rename_i hk hl
        split
        · rfl
        · by_cases hlt : x < a
          · have h5 : k ≠ x := by omega
            have h6 : x < k := by omega
            simp [Memory.find, hax, hlt, h5, h6]
          · simp [Memory.find, hax, hlt]
      · by_cases hkx : k = x
        · simp [Memory.find, hkx]
        · by_cases hlt : x < k
          · simp [Memory.find, hkx, hlt]
          · simp only [Memory.find, hkx, hlt, if_false]
            exact ih _ h4

/-- A read of the address just written gives the byte written. -/
theorem read_write_same (m : List Host.Cell) (a : Nat) (v : Byte) (w : Memory.wf m = true) :
    Memory.read (Memory.write m a v) a = v := find_put_same m 0 _ v w

/-- A write leaves every other address as it read. -/
theorem read_write_other (m : List Host.Cell) (a x : Nat) (v : Byte)
    (h : x % 65536 ≠ a % 65536) (w : Memory.wf m = true) :
    Memory.read (Memory.write m a v) x = Memory.read m x := find_put_other m 0 _ _ v h w

/-- A run of writes leaves every address outside it as it read. -/
theorem read_writeRun_other (m : List Host.Cell) (a x : Nat) (vs : List Byte)
    (ha : a + vs.length ≤ 65536) (hx : x < 65536) (h : x < a ∨ a + vs.length ≤ x)
    (w : Memory.wf m = true) : Memory.read (Memory.writeRun m a vs) x = Memory.read m x := by
  induction vs generalizing m a with
  | nil => rfl
  | cons v vs ih =>
    simp only [List.length_cons] at ha h
    rw [Memory.writeRun, ih _ _ (by omega) (by omega) (write_wf m a v w),
      read_write_other m a x v (by rw [Nat.mod_eq_of_lt hx, Nat.mod_eq_of_lt] <;> omega) w]

/-- A run of writes gives the address at offset `k` its `k`-th byte. -/
theorem read_writeRun_inside (m : List Host.Cell) (a k : Nat) (vs : List Byte)
    (ha : a + vs.length ≤ 65536) (hk : k < vs.length) (w : Memory.wf m = true) :
    Memory.read (Memory.writeRun m a vs) (a + k) = vs.getD k 0 := by
  induction vs generalizing m a k with
  | nil => simp at hk
  | cons v vs ih =>
    simp only [List.length_cons] at ha hk
    cases k with
    | zero =>
      rw [Memory.writeRun, read_writeRun_other _ _ _ _ (by omega) (by omega) (by omega)
        (write_wf m a v w)]
      exact read_write_same m a v w
    | succ k =>
      have h := ih (Memory.write m a v) (a + 1) k (by omega) (by omega) (write_wf m a v w)
      rw [show a + 1 + k = a + (k + 1) by omega] at h
      rw [Memory.writeRun, h]
      simp

end Sys2Proof.Laws
end

