-- ==== Sys2Proof/Laws/Money.lean ====
section
/-! SUPPORT. What the end of a step does to the purse, the lane and the call in progress, and what the
arrival of a coin does. -/
namespace Sys2Proof.Laws
open Sys2Proof.Machine Sys2Proof.Safety

/-! ### The purse through the judgments -/

/-- The purse `q` has come of the purse `p` by a judgment: its figures are those of `p`, it is not NONE,
and a settlement goes on (R128 to R130). -/
def goesOn (p q : Purse) : Prop :=
  q.d = p.d ∧ q.c = p.c ∧ q.k = p.k ∧ q.r = p.r ∧ q.x = p.x ∧ q.state ≠ .absent
    ∧ (p.state = .settling ∨ p.state = .held → q.state = .settling ∨ q.state = .held)

theorem goesOn_refl {p : Purse} (h : p.state ≠ .absent) : goesOn p p :=
  ⟨rfl, rfl, rfl, rfl, rfl, h, id⟩

theorem goesOn_trans {p q r : Purse} (h : goesOn p q) (h' : goesOn q r) : goesOn p r := by
  obtain ⟨a1, a2, a3, a4, a5, -, a7⟩ := h
  obtain ⟨b1, b2, b3, b4, b5, b6, b7⟩ := h'
  exact ⟨b1.trans a1, b2.trans a2, b3.trans a3, b4.trans a4, b5.trans a5, b6, fun x => b7 (a7 x)⟩

/-- The part of the state that the judgments of the money never change: the call, the report and the
part's own state. -/
def beside (s : State) := (s.call, s.report, s.sys)

theorem startLane_beside (s : State) :
    beside (startLane s) = beside s ∧ (startLane s).meter.purse = s.meter.purse := by
  unfold startLane
  split
  · split
    · exact ⟨rfl, rfl⟩
    · split
      · exact ⟨rfl, rfl⟩
      · split
        · split <;> exact ⟨rfl, rfl⟩
        · exact ⟨rfl, rfl⟩
        · exact ⟨rfl, rfl⟩
  · exact ⟨rfl, rfl⟩

theorem raise_beside (b : Block) (code : Nat) (d : List Byte) (s : State) :
    beside (raise b code d s) = beside s ∧ (raise b code d s).coin = s.coin
      ∧ (raise b code d s).meter = s.meter := by
  unfold raise
  split <;> exact ⟨rfl, rfl, rfl⟩

/-- A settlement that is held, goes on or changes its cause keeps its figures (R130). -/
theorem setHold_goesOn (c : HoldCause) (s : State)
    (h : s.meter.purse.state = .settling ∨ s.meter.purse.state = .held) :
    beside (setHold c s) = beside s ∧ goesOn s.meter.purse (setHold c s).meter.purse := by
  have hp : s.meter.purse.state ≠ .absent := by rcases h with h | h <;> simp [h]
  unfold setHold
  dsimp only
  split
  · split
    · exact ⟨rfl, rfl, rfl, rfl, rfl, rfl, by simp [setPurse, touchLive], fun _ => .inl rfl⟩
    · exact ⟨rfl, goesOn_refl hp⟩
  · split
    · next hh =>
      split
      · exact ⟨rfl, goesOn_refl hp⟩
      · exact ⟨rfl, rfl, rfl, rfl, rfl, rfl, hp, fun _ => .inr hh⟩
    · obtain ⟨r1, -, r3⟩ := raise_beside .metering 15
        (b8 (holdCode c) :: money3 (s.meter.purse.c - s.meter.purse.k))
        (setPurse { s.meter.purse with state := .held, hold := c } s)
      refine ⟨r1, ?_⟩
      rw [r3]
      exact ⟨rfl, rfl, rfl, rfl, rfl, by simp [setPurse, touchLive], fun _ => .inr rfl⟩

/-- With an entry in the lane no demand closes a purse, and that of an OPEN purse changes nothing of it
(R127, R129). -/
theorem judgeDemand_goesOn (s : State) (hp : s.meter.purse.state ≠ .absent)
    (he : s.coin.escrow ≠ []) :
    beside (judgeDemand s) = beside s ∧ goesOn s.meter.purse (judgeDemand s).meter.purse
      ∧ (s.meter.purse.state = .opened → (judgeDemand s).meter.purse = s.meter.purse) := by
  have settles : s.meter.purse.state = .settling ∨ s.meter.purse.state = .held →
      beside (if requestInFlight s.coin = true then s
        else if (s.coin.escrow.isEmpty && !inFlight s.coin.lane) = true then closePurse s
        else setHold (holdCauseOf (settleDemand s) s) (setDemand (settleDemand s) s)) = beside s
      ∧ goesOn s.meter.purse (if requestInFlight s.coin = true then s
        else if (s.coin.escrow.isEmpty && !inFlight s.coin.lane) = true then closePurse s
        else setHold (holdCauseOf (settleDemand s) s)
          (setDemand (settleDemand s) s)).meter.purse := by
    intro h
    split
    · exact ⟨rfl, goesOn_refl hp⟩
    · split
      · next h' => simp [he] at h'
      · exact setHold_goesOn _ (setDemand (settleDemand s) s) h
  unfold judgeDemand
  split
  · next h => exact absurd h hp
  · split <;> exact ⟨rfl, goesOn_refl hp, fun _ => rfl⟩
  · next h => exact ⟨(settles (.inl h)).1, (settles (.inl h)).2, fun h' => by simp [h] at h'⟩
  · next h => exact ⟨(settles (.inr h)).1, (settles (.inr h)).2, fun h' => by simp [h] at h'⟩

/-- A settlement that begins of itself keeps the purse's figures, and off-hook none begins (R117). -/
theorem settleOnHook_goesOn (s : State) (hp : s.meter.purse.state ≠ .absent) :
    beside (settleOnHook s) = beside s ∧ (settleOnHook s).coin.escrow = s.coin.escrow
      ∧ goesOn s.meter.purse (settleOnHook s).meter.purse
      ∧ (s.call.hook = true → settleOnHook s = s) := by
  unfold settleOnHook beginSettlement
  split
  · next h =>
    refine ⟨?_, ?_, ?_, fun h' => by simp [h'] at h⟩
    · split <;> rfl
    · split <;> rfl
    · split
      · exact ⟨rfl, rfl, rfl, rfl, rfl, by simp [setPurse, touchLive], fun _ => .inl rfl⟩
      · exact goesOn_refl hp
  · exact ⟨rfl, rfl, goesOn_refl hp, fun _ => rfl⟩

/-- What the money's judgments do to a purse not NONE while the lane holds an entry. -/
theorem judgeMoney_goesOn (s : State) (hp : s.meter.purse.state ≠ .absent)
    (he : s.coin.escrow ≠ []) :
    beside (judgeMoney s) = beside s ∧ goesOn s.meter.purse (judgeMoney s).meter.purse
      ∧ (s.meter.purse.state = .opened → s.call.hook = true →
          (judgeMoney s).meter.purse = s.meter.purse) := by
  unfold judgeMoney
  split
  · obtain ⟨a1, a2, a3, a4⟩ := settleOnHook_goesOn s hp
    obtain ⟨b1, b2, b3⟩ := judgeDemand_goesOn (settleOnHook s) a3.2.2.2.2.2.1 (by rwa [a2])
    obtain ⟨c1, c2⟩ := startLane_beside (judgeDemand (settleOnHook s))
    refine ⟨c1.trans (b1.trans a1), c2 ▸ goesOn_trans a3 b2, fun h1 h2 => ?_⟩
    have e := a4 h2
    rw [c2, b3 (by rw [e]; exact h1), e]
  · exact ⟨rfl, goesOn_refl hp, fun _ _ => rfl⟩

/-! ### The call, the report and the money through the later judgments -/

/-- What activation, the service mode, the reasons, the posts and the events never change: the call but
for its mode, the report, the Metering Unit, the lane's state and its gate. -/
def callMoney (s : State) :=
  ({ s.call with mode := .full }, s.report, s.meter, s.coin.lane, s.coin.gatePos)

theorem callMoney_of_unposted {s t : State} (h : unposted s = unposted t) :
    callMoney s = callMoney t :=
  show callMoney (unposted s) = callMoney (unposted t) from congrArg callMoney h

/-- What equal `callMoney` says, field by field. -/
theorem callMoney_fields {s t : State} (h : callMoney s = callMoney t) :
    s.call.claim = t.call.claim ∧ s.call.station = t.call.station ∧ s.call.cur = t.call.cur
      ∧ s.report = t.report ∧ s.meter = t.meter ∧ s.coin.lane = t.coin.lane
      ∧ s.coin.gatePos = t.coin.gatePos := by
  simp only [callMoney, Prod.mk.injEq, CallCtl.mk.injEq] at h
  obtain ⟨h1, h2, h3, h4, h5⟩ := h
  exact ⟨h1.2.2.2.2.2.2.2.1, h1.1, h1.2.2.2.2.2.2.1, h2, h3, h4, h5⟩

theorem setBankGuard_callMoney (bank : Bank) (on : Bool) (s : State) :
    callMoney (setBankGuard bank on s) = callMoney s := by cases bank <;> rfl

theorem activate_callMoney (bank : Bank) (t : Tables) (s : State) :
    callMoney (activate bank t s) = callMoney s := by
  have h : ∀ u : State, callMoney (handBank (some bank) t.edition u) = callMoney u := fun _ => rfl
  have h' : ∀ u : State, callMoney (reselectBand u) = callMoney u := fun _ => rfl
  unfold activate
  dsimp only
  rw [h, callMoney_of_unposted (raise_unposted _ _ _ _), h']
  split
  · split
    · rfl
    · rw [setBankGuard_callMoney]; rfl
  · rfl

theorem judgeActivation_callMoney (s : State) : callMoney (judgeActivation s) = callMoney s := by
  unfold judgeActivation
  split
  · split
    · exact activate_callMoney _ _ s
    · rfl
  · rfl
  · rfl

theorem judgeActivationClock_callMoney (s : State) :
    callMoney (judgeActivationClock s) = callMoney s := by
  unfold judgeActivationClock
  dsimp only
  split
  · exact judgeActivation_callMoney s
  · exact (callMoney_of_unposted (giveRewrite_unposted _ _)).trans (judgeActivation_callMoney s)

theorem judgeMode_callMoney (s : State) : callMoney (judgeMode s) = callMoney s := by
  unfold judgeMode
  dsimp only
  split
  · rfl
  · rw [callMoney_of_unposted (raise_unposted _ _ _ _)]; rfl

theorem judgeReasons_callMoney (s : State) : callMoney (judgeReasons s) = callMoney s := by
  have h : ∀ r : BitVec 10, callMoney (if r = s.coin.reasons then s
      else touchLive { s with coin := { s.coin with reasons := r } }) = callMoney s := by
    intro r
    split <;> rfl
  exact h (closingReasons s)

/-- The end of a step in RUNNING, its posts and events put aside. -/
theorem finish_callMoney (n : Nat) (s : State) (h : s.sys.part = .running) :
    callMoney (finish n s) = callMoney
      (judgeSender (judgeReport (judgeMode (judgeActivationClock (judgeMoney s))))) := by
  unfold finish settle
  rw [if_pos h, callMoney_of_unposted (shuffleWaiters_unposted _ _),
    callMoney_of_unposted (postImages_unposted _), callMoney_of_unposted (flushEvents_unposted _),
    judgeReasons_callMoney]

/-- The Metering Unit, the lane's state and its gate. -/
def moneyOf (s : State) := (s.meter, s.coin.lane, s.coin.gatePos)

theorem askSeize_moneyOf (s : State) : moneyOf (askSeize s) = moneyOf s := by
  unfold askSeize closeSeize
  split
  · dsimp only
    split <;> rfl
  · rfl

theorem grantReport_moneyOf (s : State) : moneyOf (grantReport s) = moneyOf s := by
  unfold grantReport
  split
  · rfl
  · dsimp only
    rw [askSeize_moneyOf]; rfl

theorem judgeReport_moneyOf (s : State) : moneyOf (judgeReport s) = moneyOf s := by
  unfold judgeReport
  dsimp only
  split
  · rfl
  · split
    · rw [grantReport_moneyOf]; rfl
    · rfl

/-- The line goes to a report call only from a free line claim, in IDLE or beside no purse, with an
attempt due; otherwise the call in progress stays (R108, R153). -/
theorem judgeReport_keepsCall (s : State) (hp : s.meter.purse.state ≠ .absent)
    (h : s.call.claim = .free → s.call.station = .idle → noReport s) :
    (judgeReport s).call.cur = s.call.cur := by
  unfold judgeReport
  dsimp only
  split
  · rfl
  · next sev hw =>
    split
    · next hg =>
      exfalso
      simp [mayGrant, purseOpen] at hg
      obtain ⟨hc, hi | hi⟩ := hg
      · simp [claimWanted, (h hc hi).1] at hw
      · exact hp hi.2
    · rfl

/-- Whether a settlement is due at the end of the call in progress (log 40). -/
def settlementDue (s : State) : Bool := s.call.cur.any (·.settleDue)

/-- What the calling side leaves alone: the money, and whether a settlement is due at the call's end. -/
def senderKeeps (s : State) := (s.meter.purse, settlementDue s, s.coin.lane, s.coin.gatePos)

theorem judgeGate_keeps (s : State) : senderKeeps (judgeGate s) = senderKeeps s := by
  unfold judgeGate
  split
  · rfl
  · split
    · next c h _ => simp [senderKeeps, settlementDue, setStation, updCall, touchLive, h]
    · rfl

theorem startDigit_keeps (p : Bool) (d : Nat) (s : State) :
    senderKeeps (startDigit p d s) = senderKeeps s := by
  unfold startDigit
  split
  · rfl
  · split <;> rfl

theorem offerDigit_keeps (s : State) : senderKeeps (offerDigit s) = senderKeeps s := by
  unfold offerDigit
  split
  · split
    · rw [startDigit_keeps]; rfl
    · split
      · rw [startDigit_keeps]; rfl
      · rfl
  · rfl

theorem judgeRingback_keeps (s : State) : senderKeeps (judgeRingback s) = senderKeeps s := by
  unfold judgeRingback
  split
  · next c h =>
    split
    · simp [senderKeeps, settlementDue, enterRingback, connectOut, setLine, setStation, updCall,
        touchLive, h]
    · rfl
  · rfl

theorem judgeInterDigit_keeps (s : State) : senderKeeps (judgeInterDigit s) = senderKeeps s := by
  unfold judgeInterDigit
  split
  · split <;> rfl
  · rfl

theorem offerReport_keeps (s : State) : senderKeeps (offerReport s) = senderKeeps s := by
  unfold offerReport
  split
  · split
    · split
      · rw [startDigit_keeps]; rfl
      · rfl
    · split
      · rw [startDigit_keeps]; rfl
      · rfl
    all_goals rfl
  · rfl

theorem judgeSender_keeps (s : State) : senderKeeps (judgeSender s) = senderKeeps s := by
  unfold judgeSender
  rw [offerReport_keeps, judgeInterDigit_keeps, judgeRingback_keeps, offerDigit_keeps,
    judgeGate_keeps]

/-- The end of a step in RUNNING leaves the money as its judgments have it. -/
theorem finish_money (n : Nat) (s : State) (h : s.sys.part = .running) :
    (finish n s).meter.purse = (judgeMoney s).meter.purse
      ∧ (finish n s).coin.lane = (judgeMoney s).coin.lane
      ∧ (finish n s).coin.gatePos = (judgeMoney s).coin.gatePos := by
  have e1 := callMoney_fields (finish_callMoney n s h)
  have e2 := judgeSender_keeps (judgeReport (judgeMode (judgeActivationClock (judgeMoney s))))
  have e3 := judgeReport_moneyOf (judgeMode (judgeActivationClock (judgeMoney s)))
  have e4 := callMoney_fields
    ((judgeMode_callMoney _).trans (judgeActivationClock_callMoney (judgeMoney s)))
  simp only [senderKeeps, moneyOf, Prod.mk.injEq] at e2 e3
  refine ⟨?_, ?_, ?_⟩
  · rw [e1.2.2.2.2.1, e2.1, e3.1, e4.2.2.2.2.1]
  · rw [e1.2.2.2.2.2.1, e2.2.2.1, e3.2.1, e4.2.2.2.2.2.1]
  · rw [e1.2.2.2.2.2.2, e2.2.2.2, e3.2.2, e4.2.2.2.2.2.2]

theorem settlementDue_of_cur {s t : State} (h : s.call.cur = t.call.cur) :
    settlementDue s = settlementDue t := by rw [settlementDue, settlementDue, h]

/-- What `beside` says, field by field. -/
theorem beside_fields {s t : State} (h : beside s = beside t) :
    s.call = t.call ∧ s.report = t.report ∧ s.sys = t.sys := by
  simpa only [beside, Prod.mk.injEq] using h

/-- A settlement due at the end of the call in progress stays so through the end of a step, where the
line does not go to a report call. -/
theorem finish_settlementDue (n : Nat) (s : State) (hr : s.sys.part = .running)
    (hp : s.meter.purse.state ≠ .absent) (he : s.coin.escrow ≠ [])
    (h : s.call.claim = .free → s.call.station = .idle → noReport s) :
    settlementDue (finish n s) = settlementDue s := by
  obtain ⟨m1, m2, -⟩ := judgeMoney_goesOn s hp he
  obtain ⟨mc, mr, -⟩ := beside_fields m1
  obtain ⟨ucl, ust, ucu, ur, um, -, -⟩ := callMoney_fields
    ((judgeMode_callMoney _).trans (judgeActivationClock_callMoney (judgeMoney s)))
  have report : (judgeReport (judgeMode (judgeActivationClock (judgeMoney s)))).call.cur
      = s.call.cur := by
    refine (judgeReport_keepsCall _ (by rw [um]; exact m2.2.2.2.2.2.1) fun a b => ?_).trans
      (ucu.trans (by rw [mc]))
    rw [ucl, mc] at a
    rw [ust, mc] at b
    have := h a b
    rwa [noReport, ur, mr]
  have sender := judgeSender_keeps
    (judgeReport (judgeMode (judgeActivationClock (judgeMoney s))))
  simp only [senderKeeps, Prod.mk.injEq] at sender
  exact ((settlementDue_of_cur (callMoney_fields (finish_callMoney n s hr)).2.2.1).trans
    sender.2.1).trans (settlementDue_of_cur report)

/-! ### The arrival of a coin (R73, R117, R170) -/

/-- One more accepted coin: the count rises, or is held at its largest value and the marker set. -/
theorem countAccepted_steady (i : Fin 6) (s : State) (n : Nat)
    (hn : n = s.tally.classes[i].accepted) :
    steady (countAccepted (i.val + 1) s) = steady { s with
      coin := { s.coin with uncertain := if n < 65535 then s.coin.uncertain else true },
      tally := { s.tally with classes := s.tally.classes.set i { s.tally.classes[i] with
        accepted := if n < 65535 then n + 1 else n } } } := by
  subst hn
  have ha : acceptedOf (i.val + 1) s.tally = s.tally.classes[i].accepted := by simp [acceptedOf]
  have hv : ∀ x : ClassCount, s.tally.classes.setIfInBounds i.val x = s.tally.classes.set i x := by
    intro x
    simp [Vector.setIfInBounds, Vector.set, Array.setIfInBounds]
  unfold countAccepted
  rw [ha]
  split
  · simp only [updTally, updClass]
    simp [hv]
    rfl
  · have same : s.tally.classes.set i s.tally.classes[i] = s.tally.classes := by simp
    rw [show s.tally.classes.set i { s.tally.classes[i] with
      accepted := s.tally.classes[i].accepted } = s.tally.classes from same]
    rfl

theorem countAccepted_beside (cls : Nat) (s : State) :
    beside (countAccepted cls s) = beside s ∧ (countAccepted cls s).meter = s.meter
      ∧ (countAccepted cls s).coin = { s.coin with
          uncertain := (countAccepted cls s).coin.uncertain } := by
  unfold countAccepted
  split <;> exact ⟨rfl, rfl, rfl⟩

/-- The purse after a value is credited to it: opened if it was NONE, its other figures kept (R117). -/
def credited (p : Purse) (value : Nat) : Purse :=
  if p.state = .absent then { Purse.none with state := .opened, d := value }
  else { p with d := p.d + value }

theorem creditCoin_eq (value : Nat) (s : State) :
    creditCoin value s = setPurse (credited s.meter.purse value) s := by
  unfold creditCoin credited
  dsimp only
  split <;> rfl

/-- What a late coin's credit does: it opens a purse that begins to settle, or beside a paid call one
that stays OPEN with the settlement noted; beside a purse it is a credit like any other (log 40). -/
theorem creditLate_cases (value : Nat) (s : State) :
    (s.meter.purse.state ≠ .absent ∧ creditLate value s = setPurse (credited s.meter.purse value) s)
    ∨ (s.meter.purse.state = .absent ∧ paidCall s = true
      ∧ creditLate value s = updCall (fun c => { c with settleDue := true })
          (setPurse (credited s.meter.purse value) s))
    ∨ (s.meter.purse.state = .absent ∧ paidCall s = false
      ∧ creditLate value s = setPurse { credited s.meter.purse value with state := .settling }
          (setPurse (credited s.meter.purse value) s)) := by
  have hp : paidCall (setPurse (credited s.meter.purse value) s) = paidCall s := rfl
  simp only [creditLate, creditCoin_eq, settleAfterCall, hp]
  split
  · next ha =>
    cases hc : paidCall s with
    | true => exact .inr (.inl ⟨ha, rfl, rfl⟩)
    | false =>
      refine .inr (.inr ⟨ha, rfl, ?_⟩)
      simp [beginSettlement, setPurse, touchLive, credited, ha]
  · next ha => exact .inl ⟨ha, rfl⟩

end Sys2Proof.Laws
end

