-- ==== Sys2Proof/WellFormed.lean ====
section
/-! DEFINITION. Which commands are well formed. -/
namespace Sys2Proof

/-- A command's operands are in the range its row names: ORDER_POSTED carries a non-zero order code
(R19), METER_PULSE a moment within one tenth (log 29). -/
def Instr.wf : Instr → Bool
  | .orderPosted _ code => decide (code ≠ 0)
  | .meterPulse phase => decide (phase < 100)
  | .stationProcessorWrite _ _ | .slotFreed _ | .restartByteWrite _ | .eventReadIndexWrite _
  | .callRingReadIndexWrite _ | .postEntryComplete | .producerAdmitted | .restartProperBegins
  | .anchorRead | .profileCheck | .slotScan | .eventRingHeaderRead | .callRingHeaderRead
  | .tallyRead | .tamperAreaRead | .liveImageRead | .bankLoadCheck | .orderTaken | .unknownOrder
  | .dial | .dialMore | .returnCoins | .nextCall | .answer | .setClock | .adjustClock
  | .swapTariff | .openVisit | .closeVisit | .clearTamper | .reportNow | .clearLane | .service
  | .restart | .secondCarry | .batteryFail | .entryEdge | .entryClear | .strobe _
  | .passageWindowExpiry | .laneEdge | .dropEdge | .dropWindowExpiry | .flushEnd
  | .boxSwitchChange | .hookInputChange _ | .offHook | .onHook | .interDigitExpiry
  | .creditHoldExpiry | .digitSignalEnd | .answerDetected | .answerLimitExpiry | .unitStart
  | .warnBurstTimer | .ringReport | .ringTimerExpiry | .loopPresent | .loopTimerExpiry
  | .dialToneFound | .dialToneLimitExpiry | .lineLoss | .farEndClear | .clearingGuardEnd
  | .housingInputEdge _ _ | .housingInputDebounced _ | .shockPulse | .shockWindowEnd
  | .shockQuietExpiry | .slotBlockExpiry | .slotClearExpiry | .linevChange _
  | .lineVoltageLossExpiry | .lineVoltagePresentExpiry | .forceWindowEnd | .visitDoorTimerExpiry
  | .attemptDue | .newRoundDue | .centreTone | .centreTimerExpiry | .ackTone | .nakTone
  | .ackTimerExpiry | .powerFail | .supplyDies | .hresetAssert | .leaveDark | .tenthTick
  | .loopInputChange _ | .revInputChange _ | .dialtoneInputChange _ | .boxInputChange _
  | .digitSenderPhaseEnd => true

end Sys2Proof
end

