-- ==== Sys2Proof/Laws/PerInstr.lean ====
section
/-! SUPPORT. The family F: what is well formed and what a table word spells, command by command. -/
namespace Sys2Proof.Laws

/-- A command is ill formed exactly where it posts the order code 0 or gives a METER pulse a phase of
100 ms or more; and no table word spells it. -/
def F.Statement (i : Instr) : Prop :=
  (i.wf = false ↔ (∃ n, i = .orderPosted n 0) ∨ ∃ p, 100 ≤ p ∧ i = .meterPulse p)
    ∧ ∀ nbits w, decodeTableWord nbits w ≠ some i

/-- A command whose operands are always in range and which is neither of the two. -/
theorem F.free {i : Instr} (h : i.wf = true) (h1 : ∀ n, i ≠ .orderPosted n 0)
    (h2 : ∀ p, i ≠ .meterPulse p) : F.Statement i := by
  refine ⟨⟨fun h' => ?_, fun h' => ?_⟩, fun _ _ => nofun⟩
  · rw [h] at h'; exact absurd h' nofun
  · rcases h' with ⟨n, hn⟩ | ⟨p, _, hp⟩
    · exact absurd hn (h1 n)
    · exact absurd hp (h2 p)

theorem F.orderPosted (n : Fin 16) (c : Byte) : F.Statement (.orderPosted n c) := by
  refine ⟨?_, fun _ _ => nofun⟩
  simp [Instr.wf]

theorem F.meterPulse (p : Nat) : F.Statement (.meterPulse p) := by
  refine ⟨?_, fun _ _ => nofun⟩
  simp [Instr.wf]

theorem F.stationProcessorWrite (addr : Addr) (value : Byte) : F.Statement (.stationProcessorWrite addr value) :=
  F.free rfl nofun nofun
theorem F.slotFreed (slot : Fin 16) : F.Statement (.slotFreed slot) := F.free rfl nofun nofun
theorem F.restartByteWrite (value : Byte) : F.Statement (.restartByteWrite value) :=
  F.free rfl nofun nofun
theorem F.eventReadIndexWrite (value : Byte) : F.Statement (.eventReadIndexWrite value) :=
  F.free rfl nofun nofun
theorem F.callRingReadIndexWrite (value : Byte) : F.Statement (.callRingReadIndexWrite value) :=
  F.free rfl nofun nofun
theorem F.postEntryComplete : F.Statement .postEntryComplete := F.free rfl nofun nofun
theorem F.producerAdmitted : F.Statement .producerAdmitted := F.free rfl nofun nofun
theorem F.restartProperBegins : F.Statement .restartProperBegins := F.free rfl nofun nofun
theorem F.anchorRead : F.Statement .anchorRead := F.free rfl nofun nofun
theorem F.profileCheck : F.Statement .profileCheck := F.free rfl nofun nofun
theorem F.slotScan : F.Statement .slotScan := F.free rfl nofun nofun
theorem F.eventRingHeaderRead : F.Statement .eventRingHeaderRead := F.free rfl nofun nofun
theorem F.callRingHeaderRead : F.Statement .callRingHeaderRead := F.free rfl nofun nofun
theorem F.tallyRead : F.Statement .tallyRead := F.free rfl nofun nofun
theorem F.tamperAreaRead : F.Statement .tamperAreaRead := F.free rfl nofun nofun
theorem F.liveImageRead : F.Statement .liveImageRead := F.free rfl nofun nofun
theorem F.bankLoadCheck : F.Statement .bankLoadCheck := F.free rfl nofun nofun
theorem F.orderTaken : F.Statement .orderTaken := F.free rfl nofun nofun
theorem F.unknownOrder : F.Statement .unknownOrder := F.free rfl nofun nofun
theorem F.dial : F.Statement .dial := F.free rfl nofun nofun
theorem F.dialMore : F.Statement .dialMore := F.free rfl nofun nofun
theorem F.returnCoins : F.Statement .returnCoins := F.free rfl nofun nofun
theorem F.nextCall : F.Statement .nextCall := F.free rfl nofun nofun
theorem F.answer : F.Statement .answer := F.free rfl nofun nofun
theorem F.setClock : F.Statement .setClock := F.free rfl nofun nofun
theorem F.adjustClock : F.Statement .adjustClock := F.free rfl nofun nofun
theorem F.swapTariff : F.Statement .swapTariff := F.free rfl nofun nofun
theorem F.openVisit : F.Statement .openVisit := F.free rfl nofun nofun
theorem F.closeVisit : F.Statement .closeVisit := F.free rfl nofun nofun
theorem F.clearTamper : F.Statement .clearTamper := F.free rfl nofun nofun
theorem F.reportNow : F.Statement .reportNow := F.free rfl nofun nofun
theorem F.clearLane : F.Statement .clearLane := F.free rfl nofun nofun
theorem F.service : F.Statement .service := F.free rfl nofun nofun
theorem F.restart : F.Statement .restart := F.free rfl nofun nofun
theorem F.secondCarry : F.Statement .secondCarry := F.free rfl nofun nofun
theorem F.batteryFail : F.Statement .batteryFail := F.free rfl nofun nofun
theorem F.entryEdge : F.Statement .entryEdge := F.free rfl nofun nofun
theorem F.entryClear : F.Statement .entryClear := F.free rfl nofun nofun
theorem F.strobe (code : BitVec 3) : F.Statement (.strobe code) := F.free rfl nofun nofun
theorem F.passageWindowExpiry : F.Statement .passageWindowExpiry := F.free rfl nofun nofun
theorem F.laneEdge : F.Statement .laneEdge := F.free rfl nofun nofun
theorem F.dropEdge : F.Statement .dropEdge := F.free rfl nofun nofun
theorem F.dropWindowExpiry : F.Statement .dropWindowExpiry := F.free rfl nofun nofun
theorem F.flushEnd : F.Statement .flushEnd := F.free rfl nofun nofun
theorem F.boxSwitchChange : F.Statement .boxSwitchChange := F.free rfl nofun nofun
theorem F.hookInputChange (offHook : Bool) : F.Statement (.hookInputChange offHook) :=
  F.free rfl nofun nofun
theorem F.offHook : F.Statement .offHook := F.free rfl nofun nofun
theorem F.onHook : F.Statement .onHook := F.free rfl nofun nofun
theorem F.interDigitExpiry : F.Statement .interDigitExpiry := F.free rfl nofun nofun
theorem F.creditHoldExpiry : F.Statement .creditHoldExpiry := F.free rfl nofun nofun
theorem F.digitSignalEnd : F.Statement .digitSignalEnd := F.free rfl nofun nofun
theorem F.answerDetected : F.Statement .answerDetected := F.free rfl nofun nofun
theorem F.answerLimitExpiry : F.Statement .answerLimitExpiry := F.free rfl nofun nofun
theorem F.unitStart : F.Statement .unitStart := F.free rfl nofun nofun
theorem F.warnBurstTimer : F.Statement .warnBurstTimer := F.free rfl nofun nofun
theorem F.ringReport : F.Statement .ringReport := F.free rfl nofun nofun
theorem F.ringTimerExpiry : F.Statement .ringTimerExpiry := F.free rfl nofun nofun
theorem F.loopPresent : F.Statement .loopPresent := F.free rfl nofun nofun
theorem F.loopTimerExpiry : F.Statement .loopTimerExpiry := F.free rfl nofun nofun
theorem F.dialToneFound : F.Statement .dialToneFound := F.free rfl nofun nofun
theorem F.dialToneLimitExpiry : F.Statement .dialToneLimitExpiry := F.free rfl nofun nofun
theorem F.lineLoss : F.Statement .lineLoss := F.free rfl nofun nofun
theorem F.farEndClear : F.Statement .farEndClear := F.free rfl nofun nofun
theorem F.clearingGuardEnd : F.Statement .clearingGuardEnd := F.free rfl nofun nofun
theorem F.housingInputEdge (input : Housing) (isOpen : Bool) : F.Statement (.housingInputEdge input isOpen) :=
  F.free rfl nofun nofun
theorem F.housingInputDebounced (input : Housing) : F.Statement (.housingInputDebounced input) :=
  F.free rfl nofun nofun
theorem F.shockPulse : F.Statement .shockPulse := F.free rfl nofun nofun
theorem F.shockWindowEnd : F.Statement .shockWindowEnd := F.free rfl nofun nofun
theorem F.shockQuietExpiry : F.Statement .shockQuietExpiry := F.free rfl nofun nofun
theorem F.slotBlockExpiry : F.Statement .slotBlockExpiry := F.free rfl nofun nofun
theorem F.slotClearExpiry : F.Statement .slotClearExpiry := F.free rfl nofun nofun
theorem F.linevChange (present : Bool) : F.Statement (.linevChange present) :=
  F.free rfl nofun nofun
theorem F.lineVoltageLossExpiry : F.Statement .lineVoltageLossExpiry := F.free rfl nofun nofun
theorem F.lineVoltagePresentExpiry : F.Statement .lineVoltagePresentExpiry := F.free rfl nofun nofun
theorem F.forceWindowEnd : F.Statement .forceWindowEnd := F.free rfl nofun nofun
theorem F.visitDoorTimerExpiry : F.Statement .visitDoorTimerExpiry := F.free rfl nofun nofun
theorem F.attemptDue : F.Statement .attemptDue := F.free rfl nofun nofun
theorem F.newRoundDue : F.Statement .newRoundDue := F.free rfl nofun nofun
theorem F.centreTone : F.Statement .centreTone := F.free rfl nofun nofun
theorem F.centreTimerExpiry : F.Statement .centreTimerExpiry := F.free rfl nofun nofun
theorem F.ackTone : F.Statement .ackTone := F.free rfl nofun nofun
theorem F.nakTone : F.Statement .nakTone := F.free rfl nofun nofun
theorem F.ackTimerExpiry : F.Statement .ackTimerExpiry := F.free rfl nofun nofun
theorem F.powerFail : F.Statement .powerFail := F.free rfl nofun nofun
theorem F.supplyDies : F.Statement .supplyDies := F.free rfl nofun nofun
theorem F.hresetAssert : F.Statement .hresetAssert := F.free rfl nofun nofun
theorem F.leaveDark : F.Statement .leaveDark := F.free rfl nofun nofun
theorem F.tenthTick : F.Statement .tenthTick := F.free rfl nofun nofun
theorem F.loopInputChange (present : Bool) : F.Statement (.loopInputChange present) :=
  F.free rfl nofun nofun
theorem F.revInputChange (reversed : Bool) : F.Statement (.revInputChange reversed) :=
  F.free rfl nofun nofun
theorem F.dialtoneInputChange (present : Bool) : F.Statement (.dialtoneInputChange present) :=
  F.free rfl nofun nofun
theorem F.boxInputChange (present : Bool) : F.Statement (.boxInputChange present) :=
  F.free rfl nofun nofun
theorem F.digitSenderPhaseEnd : F.Statement .digitSenderPhaseEnd := F.free rfl nofun nofun

end Sys2Proof.Laws
end

