-- ==== Sys2Proof/Laws/State.lean ====
section
/-! SUPPORT. What each named update of the state leaves in each block: one lemma per block; and what some shared
operations can do. -/
namespace Sys2Proof.Laws
open Sys2Proof.Machine

/-! ### touchLive -/

@[simp] theorem touchLive_sys (s : State) : (touchLive s).sys = s.sys := rfl
@[simp] theorem touchLive_mem (s : State) : (touchLive s).mem = s.mem := rfl
@[simp] theorem touchLive_gate (s : State) : (touchLive s).gate = s.gate := rfl
@[simp] theorem touchLive_orders (s : State) : (touchLive s).orders = s.orders := rfl
@[simp] theorem touchLive_ev (s : State) : (touchLive s).ev = s.ev := rfl
@[simp] theorem touchLive_ring (s : State) : (touchLive s).ring = s.ring := rfl
@[simp] theorem touchLive_tally (s : State) : (touchLive s).tally = s.tally := rfl
@[simp] theorem touchLive_visit (s : State) : (touchLive s).visit = s.visit := rfl
@[simp] theorem touchLive_cal (s : State) : (touchLive s).cal = s.cal := rfl
@[simp] theorem touchLive_img (s : State) :
    (touchLive s).img = { s.img with liveDirty := true } := rfl
@[simp] theorem touchLive_tariff (s : State) : (touchLive s).tariff = s.tariff := rfl
@[simp] theorem touchLive_coin (s : State) : (touchLive s).coin = s.coin := rfl
@[simp] theorem touchLive_meter (s : State) : (touchLive s).meter = s.meter := rfl
@[simp] theorem touchLive_call (s : State) : (touchLive s).call = s.call := rfl
@[simp] theorem touchLive_line (s : State) : (touchLive s).line = s.line := rfl
@[simp] theorem touchLive_tamper (s : State) : (touchLive s).tamper = s.tamper := rfl
@[simp] theorem touchLive_report (s : State) : (touchLive s).report = s.report := rfl
@[simp] theorem touchLive_pins (s : State) : (touchLive s).pins = s.pins := rfl
@[simp] theorem touchLive_fresh (s : State) : (touchLive s).fresh = s.fresh := rfl
@[simp] theorem touchLive_pending (s : State) : (touchLive s).pending = s.pending := rfl

/-! ### updTally -/

@[simp] theorem updTally_sys (f : Tally → Tally) (s : State) : (updTally f s).sys = s.sys := rfl
@[simp] theorem updTally_mem (f : Tally → Tally) (s : State) : (updTally f s).mem = s.mem := rfl
@[simp] theorem updTally_gate (f : Tally → Tally) (s : State) : (updTally f s).gate = s.gate := rfl
@[simp] theorem updTally_orders (f : Tally → Tally) (s : State) :
    (updTally f s).orders = s.orders := rfl
@[simp] theorem updTally_ev (f : Tally → Tally) (s : State) : (updTally f s).ev = s.ev := rfl
@[simp] theorem updTally_ring (f : Tally → Tally) (s : State) : (updTally f s).ring = s.ring := rfl
@[simp] theorem updTally_tally (f : Tally → Tally) (s : State) :
    (updTally f s).tally = f s.tally := rfl
@[simp] theorem updTally_visit (f : Tally → Tally) (s : State) :
    (updTally f s).visit = s.visit := rfl
@[simp] theorem updTally_cal (f : Tally → Tally) (s : State) : (updTally f s).cal = s.cal := rfl
@[simp] theorem updTally_img (f : Tally → Tally) (s : State) :
    (updTally f s).img = { s.img with tallyDirty := true } := rfl
@[simp] theorem updTally_tariff (f : Tally → Tally) (s : State) :
    (updTally f s).tariff = s.tariff := rfl
@[simp] theorem updTally_coin (f : Tally → Tally) (s : State) : (updTally f s).coin = s.coin := rfl
@[simp] theorem updTally_meter (f : Tally → Tally) (s : State) :
    (updTally f s).meter = s.meter := rfl
@[simp] theorem updTally_call (f : Tally → Tally) (s : State) : (updTally f s).call = s.call := rfl
@[simp] theorem updTally_line (f : Tally → Tally) (s : State) : (updTally f s).line = s.line := rfl
@[simp] theorem updTally_tamper (f : Tally → Tally) (s : State) :
    (updTally f s).tamper = s.tamper := rfl
@[simp] theorem updTally_report (f : Tally → Tally) (s : State) :
    (updTally f s).report = s.report := rfl
@[simp] theorem updTally_pins (f : Tally → Tally) (s : State) : (updTally f s).pins = s.pins := rfl
@[simp] theorem updTally_fresh (f : Tally → Tally) (s : State) :
    (updTally f s).fresh = s.fresh := rfl
@[simp] theorem updTally_pending (f : Tally → Tally) (s : State) :
    (updTally f s).pending = s.pending := rfl

/-! ### setSlot -/

@[simp] theorem setSlot_sys (n : Fin 16) (x : SlotState) (s : State) :
    (setSlot n x s).sys = s.sys := rfl
@[simp] theorem setSlot_mem (n : Fin 16) (x : SlotState) (s : State) :
    (setSlot n x s).mem = s.mem := rfl
@[simp] theorem setSlot_gate (n : Fin 16) (x : SlotState) (s : State) :
    (setSlot n x s).gate = s.gate := rfl
@[simp] theorem setSlot_orders (n : Fin 16) (x : SlotState) (s : State) :
    (setSlot n x s).orders = { s.orders with slots := s.orders.slots.set n x } := rfl
@[simp] theorem setSlot_ev (n : Fin 16) (x : SlotState) (s : State) :
    (setSlot n x s).ev = s.ev := rfl
@[simp] theorem setSlot_ring (n : Fin 16) (x : SlotState) (s : State) :
    (setSlot n x s).ring = s.ring := rfl
@[simp] theorem setSlot_tally (n : Fin 16) (x : SlotState) (s : State) :
    (setSlot n x s).tally = s.tally := rfl
@[simp] theorem setSlot_visit (n : Fin 16) (x : SlotState) (s : State) :
    (setSlot n x s).visit = s.visit := rfl
@[simp] theorem setSlot_cal (n : Fin 16) (x : SlotState) (s : State) :
    (setSlot n x s).cal = s.cal := rfl
@[simp] theorem setSlot_img (n : Fin 16) (x : SlotState) (s : State) :
    (setSlot n x s).img = s.img := rfl
@[simp] theorem setSlot_tariff (n : Fin 16) (x : SlotState) (s : State) :
    (setSlot n x s).tariff = s.tariff := rfl
@[simp] theorem setSlot_coin (n : Fin 16) (x : SlotState) (s : State) :
    (setSlot n x s).coin = s.coin := rfl
@[simp] theorem setSlot_meter (n : Fin 16) (x : SlotState) (s : State) :
    (setSlot n x s).meter = s.meter := rfl
@[simp] theorem setSlot_call (n : Fin 16) (x : SlotState) (s : State) :
    (setSlot n x s).call = s.call := rfl
@[simp] theorem setSlot_line (n : Fin 16) (x : SlotState) (s : State) :
    (setSlot n x s).line = s.line := rfl
@[simp] theorem setSlot_tamper (n : Fin 16) (x : SlotState) (s : State) :
    (setSlot n x s).tamper = s.tamper := rfl
@[simp] theorem setSlot_report (n : Fin 16) (x : SlotState) (s : State) :
    (setSlot n x s).report = s.report := rfl
@[simp] theorem setSlot_pins (n : Fin 16) (x : SlotState) (s : State) :
    (setSlot n x s).pins = s.pins := rfl
@[simp] theorem setSlot_fresh (n : Fin 16) (x : SlotState) (s : State) :
    (setSlot n x s).fresh = s.fresh := rfl
@[simp] theorem setSlot_pending (n : Fin 16) (x : SlotState) (s : State) :
    (setSlot n x s).pending = s.pending := rfl

/-! ### setGuard -/

@[simp] theorem setGuard_sys (n : Fin 16) (on : Bool) (s : State) :
    (setGuard n on s).sys = s.sys := rfl
@[simp] theorem setGuard_mem (n : Fin 16) (on : Bool) (s : State) :
    (setGuard n on s).mem = s.mem := rfl
@[simp] theorem setGuard_orders (n : Fin 16) (on : Bool) (s : State) :
    (setGuard n on s).orders = s.orders := rfl
@[simp] theorem setGuard_ev (n : Fin 16) (on : Bool) (s : State) :
    (setGuard n on s).ev = s.ev := rfl
@[simp] theorem setGuard_ring (n : Fin 16) (on : Bool) (s : State) :
    (setGuard n on s).ring = s.ring := rfl
@[simp] theorem setGuard_tally (n : Fin 16) (on : Bool) (s : State) :
    (setGuard n on s).tally = s.tally := rfl
@[simp] theorem setGuard_visit (n : Fin 16) (on : Bool) (s : State) :
    (setGuard n on s).visit = s.visit := rfl
@[simp] theorem setGuard_cal (n : Fin 16) (on : Bool) (s : State) :
    (setGuard n on s).cal = s.cal := rfl
@[simp] theorem setGuard_img (n : Fin 16) (on : Bool) (s : State) :
    (setGuard n on s).img = s.img := rfl
@[simp] theorem setGuard_tariff (n : Fin 16) (on : Bool) (s : State) :
    (setGuard n on s).tariff = s.tariff := rfl
@[simp] theorem setGuard_coin (n : Fin 16) (on : Bool) (s : State) :
    (setGuard n on s).coin = s.coin := rfl
@[simp] theorem setGuard_meter (n : Fin 16) (on : Bool) (s : State) :
    (setGuard n on s).meter = s.meter := rfl
@[simp] theorem setGuard_call (n : Fin 16) (on : Bool) (s : State) :
    (setGuard n on s).call = s.call := rfl
@[simp] theorem setGuard_line (n : Fin 16) (on : Bool) (s : State) :
    (setGuard n on s).line = s.line := rfl
@[simp] theorem setGuard_tamper (n : Fin 16) (on : Bool) (s : State) :
    (setGuard n on s).tamper = s.tamper := rfl
@[simp] theorem setGuard_report (n : Fin 16) (on : Bool) (s : State) :
    (setGuard n on s).report = s.report := rfl
@[simp] theorem setGuard_pins (n : Fin 16) (on : Bool) (s : State) :
    (setGuard n on s).pins = s.pins := rfl
@[simp] theorem setGuard_fresh (n : Fin 16) (on : Bool) (s : State) :
    (setGuard n on s).fresh = s.fresh := rfl
@[simp] theorem setGuard_pending (n : Fin 16) (on : Bool) (s : State) :
    (setGuard n on s).pending = s.pending := rfl

/-! ### setLine -/

@[simp] theorem setLine_sys (x : LineState) (s : State) : (setLine x s).sys = s.sys := rfl
@[simp] theorem setLine_mem (x : LineState) (s : State) : (setLine x s).mem = s.mem := rfl
@[simp] theorem setLine_gate (x : LineState) (s : State) : (setLine x s).gate = s.gate := rfl
@[simp] theorem setLine_orders (x : LineState) (s : State) : (setLine x s).orders = s.orders := rfl
@[simp] theorem setLine_ev (x : LineState) (s : State) : (setLine x s).ev = s.ev := rfl
@[simp] theorem setLine_ring (x : LineState) (s : State) : (setLine x s).ring = s.ring := rfl
@[simp] theorem setLine_tally (x : LineState) (s : State) : (setLine x s).tally = s.tally := rfl
@[simp] theorem setLine_visit (x : LineState) (s : State) : (setLine x s).visit = s.visit := rfl
@[simp] theorem setLine_cal (x : LineState) (s : State) : (setLine x s).cal = s.cal := rfl
@[simp] theorem setLine_img (x : LineState) (s : State) : (setLine x s).img = s.img := rfl
@[simp] theorem setLine_tariff (x : LineState) (s : State) : (setLine x s).tariff = s.tariff := rfl
@[simp] theorem setLine_coin (x : LineState) (s : State) : (setLine x s).coin = s.coin := rfl
@[simp] theorem setLine_meter (x : LineState) (s : State) : (setLine x s).meter = s.meter := rfl
@[simp] theorem setLine_call (x : LineState) (s : State) : (setLine x s).call = s.call := rfl
@[simp] theorem setLine_line (x : LineState) (s : State) :
    (setLine x s).line = { s.line with state := x } := rfl
@[simp] theorem setLine_report (x : LineState) (s : State) : (setLine x s).report = s.report := rfl
@[simp] theorem setLine_pins (x : LineState) (s : State) : (setLine x s).pins = s.pins := rfl
@[simp] theorem setLine_fresh (x : LineState) (s : State) : (setLine x s).fresh = s.fresh := rfl
@[simp] theorem setLine_pending (x : LineState) (s : State) :
    (setLine x s).pending = s.pending := rfl

/-! ### setChan -/

@[simp] theorem setChan_sys (ch : Channel) (x : ChanRec) (s : State) :
    (setChan ch x s).sys = s.sys := rfl
@[simp] theorem setChan_mem (ch : Channel) (x : ChanRec) (s : State) :
    (setChan ch x s).mem = s.mem := rfl
@[simp] theorem setChan_gate (ch : Channel) (x : ChanRec) (s : State) :
    (setChan ch x s).gate = s.gate := rfl
@[simp] theorem setChan_orders (ch : Channel) (x : ChanRec) (s : State) :
    (setChan ch x s).orders = s.orders := rfl
@[simp] theorem setChan_ev (ch : Channel) (x : ChanRec) (s : State) :
    (setChan ch x s).ev = s.ev := rfl
@[simp] theorem setChan_ring (ch : Channel) (x : ChanRec) (s : State) :
    (setChan ch x s).ring = s.ring := rfl
@[simp] theorem setChan_tally (ch : Channel) (x : ChanRec) (s : State) :
    (setChan ch x s).tally = s.tally := rfl
@[simp] theorem setChan_visit (ch : Channel) (x : ChanRec) (s : State) :
    (setChan ch x s).visit = s.visit := rfl
@[simp] theorem setChan_cal (ch : Channel) (x : ChanRec) (s : State) :
    (setChan ch x s).cal = s.cal := rfl
@[simp] theorem setChan_img (ch : Channel) (x : ChanRec) (s : State) :
    (setChan ch x s).img = s.img := rfl
@[simp] theorem setChan_tariff (ch : Channel) (x : ChanRec) (s : State) :
    (setChan ch x s).tariff = s.tariff := rfl
@[simp] theorem setChan_coin (ch : Channel) (x : ChanRec) (s : State) :
    (setChan ch x s).coin = s.coin := rfl
@[simp] theorem setChan_meter (ch : Channel) (x : ChanRec) (s : State) :
    (setChan ch x s).meter = s.meter := rfl
@[simp] theorem setChan_call (ch : Channel) (x : ChanRec) (s : State) :
    (setChan ch x s).call = s.call := rfl
@[simp] theorem setChan_line (ch : Channel) (x : ChanRec) (s : State) :
    (setChan ch x s).line = s.line := rfl
@[simp] theorem setChan_tamper (ch : Channel) (x : ChanRec) (s : State) :
    (setChan ch x s).tamper = { s.tamper with chans := s.tamper.chans.set ch x } := rfl
@[simp] theorem setChan_report (ch : Channel) (x : ChanRec) (s : State) :
    (setChan ch x s).report = s.report := rfl
@[simp] theorem setChan_pins (ch : Channel) (x : ChanRec) (s : State) :
    (setChan ch x s).pins = s.pins := rfl
@[simp] theorem setChan_fresh (ch : Channel) (x : ChanRec) (s : State) :
    (setChan ch x s).fresh = s.fresh := rfl
@[simp] theorem setChan_pending (ch : Channel) (x : ChanRec) (s : State) :
    (setChan ch x s).pending = s.pending := rfl

/-! ### setPurse -/

@[simp] theorem setPurse_sys (p : Purse) (s : State) : (setPurse p s).sys = s.sys := rfl
@[simp] theorem setPurse_mem (p : Purse) (s : State) : (setPurse p s).mem = s.mem := rfl
@[simp] theorem setPurse_gate (p : Purse) (s : State) : (setPurse p s).gate = s.gate := rfl
@[simp] theorem setPurse_orders (p : Purse) (s : State) : (setPurse p s).orders = s.orders := rfl
@[simp] theorem setPurse_ev (p : Purse) (s : State) : (setPurse p s).ev = s.ev := rfl
@[simp] theorem setPurse_ring (p : Purse) (s : State) : (setPurse p s).ring = s.ring := rfl
@[simp] theorem setPurse_tally (p : Purse) (s : State) : (setPurse p s).tally = s.tally := rfl
@[simp] theorem setPurse_visit (p : Purse) (s : State) : (setPurse p s).visit = s.visit := rfl
@[simp] theorem setPurse_cal (p : Purse) (s : State) : (setPurse p s).cal = s.cal := rfl
@[simp] theorem setPurse_img (p : Purse) (s : State) :
    (setPurse p s).img = { s.img with liveDirty := true } := rfl
@[simp] theorem setPurse_tariff (p : Purse) (s : State) : (setPurse p s).tariff = s.tariff := rfl
@[simp] theorem setPurse_coin (p : Purse) (s : State) :
    (setPurse p s).coin = { s.coin with deposited := p.d, purseFig := p.state } := rfl
@[simp] theorem setPurse_meter (p : Purse) (s : State) :
    (setPurse p s).meter = { s.meter with purse := p } := rfl
@[simp] theorem setPurse_call (p : Purse) (s : State) : (setPurse p s).call = s.call := rfl
@[simp] theorem setPurse_line (p : Purse) (s : State) : (setPurse p s).line = s.line := rfl
@[simp] theorem setPurse_tamper (p : Purse) (s : State) : (setPurse p s).tamper = s.tamper := rfl
@[simp] theorem setPurse_report (p : Purse) (s : State) : (setPurse p s).report = s.report := rfl
@[simp] theorem setPurse_pins (p : Purse) (s : State) : (setPurse p s).pins = s.pins := rfl
@[simp] theorem setPurse_fresh (p : Purse) (s : State) : (setPurse p s).fresh = s.fresh := rfl
@[simp] theorem setPurse_pending (p : Purse) (s : State) : (setPurse p s).pending = s.pending := rfl

/-! ### setDemand -/

@[simp] theorem setDemand_sys (r : Request) (s : State) : (setDemand r s).sys = s.sys := rfl
@[simp] theorem setDemand_mem (r : Request) (s : State) : (setDemand r s).mem = s.mem := rfl
@[simp] theorem setDemand_gate (r : Request) (s : State) : (setDemand r s).gate = s.gate := rfl
@[simp] theorem setDemand_orders (r : Request) (s : State) :
    (setDemand r s).orders = s.orders := rfl
@[simp] theorem setDemand_ev (r : Request) (s : State) : (setDemand r s).ev = s.ev := rfl
@[simp] theorem setDemand_ring (r : Request) (s : State) : (setDemand r s).ring = s.ring := rfl
@[simp] theorem setDemand_tally (r : Request) (s : State) : (setDemand r s).tally = s.tally := rfl
@[simp] theorem setDemand_visit (r : Request) (s : State) : (setDemand r s).visit = s.visit := rfl
@[simp] theorem setDemand_cal (r : Request) (s : State) : (setDemand r s).cal = s.cal := rfl
@[simp] theorem setDemand_img (r : Request) (s : State) : (setDemand r s).img = s.img := rfl
@[simp] theorem setDemand_tariff (r : Request) (s : State) :
    (setDemand r s).tariff = s.tariff := rfl
@[simp] theorem setDemand_coin (r : Request) (s : State) :
    (setDemand r s).coin = { s.coin with request := r } := rfl
@[simp] theorem setDemand_meter (r : Request) (s : State) :
    (setDemand r s).meter = { s.meter with demand := r } := rfl
@[simp] theorem setDemand_call (r : Request) (s : State) : (setDemand r s).call = s.call := rfl
@[simp] theorem setDemand_line (r : Request) (s : State) : (setDemand r s).line = s.line := rfl
@[simp] theorem setDemand_tamper (r : Request) (s : State) :
    (setDemand r s).tamper = s.tamper := rfl
@[simp] theorem setDemand_report (r : Request) (s : State) :
    (setDemand r s).report = s.report := rfl
@[simp] theorem setDemand_pins (r : Request) (s : State) : (setDemand r s).pins = s.pins := rfl
@[simp] theorem setDemand_fresh (r : Request) (s : State) : (setDemand r s).fresh = s.fresh := rfl
@[simp] theorem setDemand_pending (r : Request) (s : State) :
    (setDemand r s).pending = s.pending := rfl

/-! ### setStation -/

@[simp] theorem setStation_sys (x : Station) (s : State) : (setStation x s).sys = s.sys := rfl
@[simp] theorem setStation_mem (x : Station) (s : State) : (setStation x s).mem = s.mem := rfl
@[simp] theorem setStation_gate (x : Station) (s : State) : (setStation x s).gate = s.gate := rfl
@[simp] theorem setStation_orders (x : Station) (s : State) :
    (setStation x s).orders = s.orders := rfl
@[simp] theorem setStation_ev (x : Station) (s : State) : (setStation x s).ev = s.ev := rfl
@[simp] theorem setStation_ring (x : Station) (s : State) : (setStation x s).ring = s.ring := rfl
@[simp] theorem setStation_tally (x : Station) (s : State) : (setStation x s).tally = s.tally := rfl
@[simp] theorem setStation_visit (x : Station) (s : State) : (setStation x s).visit = s.visit := rfl
@[simp] theorem setStation_cal (x : Station) (s : State) : (setStation x s).cal = s.cal := rfl
@[simp] theorem setStation_img (x : Station) (s : State) :
    (setStation x s).img = { s.img with liveDirty := true } := rfl
@[simp] theorem setStation_tariff (x : Station) (s : State) :
    (setStation x s).tariff = s.tariff := rfl
@[simp] theorem setStation_coin (x : Station) (s : State) : (setStation x s).coin = s.coin := rfl
@[simp] theorem setStation_meter (x : Station) (s : State) : (setStation x s).meter = s.meter := rfl
@[simp] theorem setStation_call (x : Station) (s : State) :
    (setStation x s).call = { s.call with station := x } := rfl
@[simp] theorem setStation_line (x : Station) (s : State) : (setStation x s).line = s.line := rfl
@[simp] theorem setStation_tamper (x : Station) (s : State) :
    (setStation x s).tamper = s.tamper := rfl
@[simp] theorem setStation_report (x : Station) (s : State) :
    (setStation x s).report = s.report := rfl
@[simp] theorem setStation_pins (x : Station) (s : State) : (setStation x s).pins = s.pins := rfl
@[simp] theorem setStation_fresh (x : Station) (s : State) : (setStation x s).fresh = s.fresh := rfl
@[simp] theorem setStation_pending (x : Station) (s : State) :
    (setStation x s).pending = s.pending := rfl

/-! ### updCall -/

@[simp] theorem updCall_sys (f : CallInfo → CallInfo) (s : State) : (updCall f s).sys = s.sys := rfl
@[simp] theorem updCall_mem (f : CallInfo → CallInfo) (s : State) : (updCall f s).mem = s.mem := rfl
@[simp] theorem updCall_gate (f : CallInfo → CallInfo) (s : State) :
    (updCall f s).gate = s.gate := rfl
@[simp] theorem updCall_orders (f : CallInfo → CallInfo) (s : State) :
    (updCall f s).orders = s.orders := rfl
@[simp] theorem updCall_ev (f : CallInfo → CallInfo) (s : State) : (updCall f s).ev = s.ev := rfl
@[simp] theorem updCall_ring (f : CallInfo → CallInfo) (s : State) :
    (updCall f s).ring = s.ring := rfl
@[simp] theorem updCall_tally (f : CallInfo → CallInfo) (s : State) :
    (updCall f s).tally = s.tally := rfl
@[simp] theorem updCall_visit (f : CallInfo → CallInfo) (s : State) :
    (updCall f s).visit = s.visit := rfl
@[simp] theorem updCall_cal (f : CallInfo → CallInfo) (s : State) : (updCall f s).cal = s.cal := rfl
@[simp] theorem updCall_img (f : CallInfo → CallInfo) (s : State) :
    (updCall f s).img = { s.img with liveDirty := true } := rfl
@[simp] theorem updCall_tariff (f : CallInfo → CallInfo) (s : State) :
    (updCall f s).tariff = s.tariff := rfl
@[simp] theorem updCall_coin (f : CallInfo → CallInfo) (s : State) :
    (updCall f s).coin = s.coin := rfl
@[simp] theorem updCall_meter (f : CallInfo → CallInfo) (s : State) :
    (updCall f s).meter = s.meter := rfl
@[simp] theorem updCall_call (f : CallInfo → CallInfo) (s : State) :
    (updCall f s).call = { s.call with cur := s.call.cur.map f } := rfl
@[simp] theorem updCall_line (f : CallInfo → CallInfo) (s : State) :
    (updCall f s).line = s.line := rfl
@[simp] theorem updCall_tamper (f : CallInfo → CallInfo) (s : State) :
    (updCall f s).tamper = s.tamper := rfl
@[simp] theorem updCall_report (f : CallInfo → CallInfo) (s : State) :
    (updCall f s).report = s.report := rfl
@[simp] theorem updCall_pins (f : CallInfo → CallInfo) (s : State) :
    (updCall f s).pins = s.pins := rfl
@[simp] theorem updCall_fresh (f : CallInfo → CallInfo) (s : State) :
    (updCall f s).fresh = s.fresh := rfl
@[simp] theorem updCall_pending (f : CallInfo → CallInfo) (s : State) :
    (updCall f s).pending = s.pending := rfl

/-! ### updCoin -/

@[simp] theorem updCoin_sys (f : Coin → Coin) (s : State) : (updCoin f s).sys = s.sys := rfl
@[simp] theorem updCoin_mem (f : Coin → Coin) (s : State) : (updCoin f s).mem = s.mem := rfl
@[simp] theorem updCoin_gate (f : Coin → Coin) (s : State) : (updCoin f s).gate = s.gate := rfl
@[simp] theorem updCoin_orders (f : Coin → Coin) (s : State) :
    (updCoin f s).orders = s.orders := rfl
@[simp] theorem updCoin_ev (f : Coin → Coin) (s : State) : (updCoin f s).ev = s.ev := rfl
@[simp] theorem updCoin_ring (f : Coin → Coin) (s : State) : (updCoin f s).ring = s.ring := rfl
@[simp] theorem updCoin_tally (f : Coin → Coin) (s : State) : (updCoin f s).tally = s.tally := rfl
@[simp] theorem updCoin_visit (f : Coin → Coin) (s : State) : (updCoin f s).visit = s.visit := rfl
@[simp] theorem updCoin_cal (f : Coin → Coin) (s : State) : (updCoin f s).cal = s.cal := rfl
@[simp] theorem updCoin_img (f : Coin → Coin) (s : State) : (updCoin f s).img = s.img := rfl
@[simp] theorem updCoin_tariff (f : Coin → Coin) (s : State) :
    (updCoin f s).tariff = s.tariff := rfl
@[simp] theorem updCoin_coin (f : Coin → Coin) (s : State) : (updCoin f s).coin = f s.coin := rfl
@[simp] theorem updCoin_meter (f : Coin → Coin) (s : State) : (updCoin f s).meter = s.meter := rfl
@[simp] theorem updCoin_call (f : Coin → Coin) (s : State) : (updCoin f s).call = s.call := rfl
@[simp] theorem updCoin_line (f : Coin → Coin) (s : State) : (updCoin f s).line = s.line := rfl
@[simp] theorem updCoin_tamper (f : Coin → Coin) (s : State) :
    (updCoin f s).tamper = s.tamper := rfl
@[simp] theorem updCoin_report (f : Coin → Coin) (s : State) :
    (updCoin f s).report = s.report := rfl
@[simp] theorem updCoin_pins (f : Coin → Coin) (s : State) : (updCoin f s).pins = s.pins := rfl
@[simp] theorem updCoin_fresh (f : Coin → Coin) (s : State) : (updCoin f s).fresh = s.fresh := rfl
@[simp] theorem updCoin_pending (f : Coin → Coin) (s : State) :
    (updCoin f s).pending = s.pending := rfl

/-! ### updTamper -/

@[simp] theorem updTamper_sys (f : Tamper → Tamper) (s : State) : (updTamper f s).sys = s.sys := rfl
@[simp] theorem updTamper_mem (f : Tamper → Tamper) (s : State) : (updTamper f s).mem = s.mem := rfl
@[simp] theorem updTamper_gate (f : Tamper → Tamper) (s : State) :
    (updTamper f s).gate = s.gate := rfl
@[simp] theorem updTamper_orders (f : Tamper → Tamper) (s : State) :
    (updTamper f s).orders = s.orders := rfl
@[simp] theorem updTamper_ev (f : Tamper → Tamper) (s : State) : (updTamper f s).ev = s.ev := rfl
@[simp] theorem updTamper_ring (f : Tamper → Tamper) (s : State) :
    (updTamper f s).ring = s.ring := rfl
@[simp] theorem updTamper_tally (f : Tamper → Tamper) (s : State) :
    (updTamper f s).tally = s.tally := rfl
@[simp] theorem updTamper_visit (f : Tamper → Tamper) (s : State) :
    (updTamper f s).visit = s.visit := rfl
@[simp] theorem updTamper_cal (f : Tamper → Tamper) (s : State) : (updTamper f s).cal = s.cal := rfl
@[simp] theorem updTamper_img (f : Tamper → Tamper) (s : State) : (updTamper f s).img = s.img := rfl
@[simp] theorem updTamper_tariff (f : Tamper → Tamper) (s : State) :
    (updTamper f s).tariff = s.tariff := rfl
@[simp] theorem updTamper_coin (f : Tamper → Tamper) (s : State) :
    (updTamper f s).coin = s.coin := rfl
@[simp] theorem updTamper_meter (f : Tamper → Tamper) (s : State) :
    (updTamper f s).meter = s.meter := rfl
@[simp] theorem updTamper_call (f : Tamper → Tamper) (s : State) :
    (updTamper f s).call = s.call := rfl
@[simp] theorem updTamper_line (f : Tamper → Tamper) (s : State) :
    (updTamper f s).line = s.line := rfl
@[simp] theorem updTamper_tamper (f : Tamper → Tamper) (s : State) :
    (updTamper f s).tamper = f s.tamper := rfl
@[simp] theorem updTamper_report (f : Tamper → Tamper) (s : State) :
    (updTamper f s).report = s.report := rfl
@[simp] theorem updTamper_pins (f : Tamper → Tamper) (s : State) :
    (updTamper f s).pins = s.pins := rfl
@[simp] theorem updTamper_fresh (f : Tamper → Tamper) (s : State) :
    (updTamper f s).fresh = s.fresh := rfl
@[simp] theorem updTamper_pending (f : Tamper → Tamper) (s : State) :
    (updTamper f s).pending = s.pending := rfl

/-! ### updCallCtl -/

@[simp] theorem updCallCtl_sys (f : CallCtl → CallCtl) (s : State) :
    (updCallCtl f s).sys = s.sys := rfl
@[simp] theorem updCallCtl_mem (f : CallCtl → CallCtl) (s : State) :
    (updCallCtl f s).mem = s.mem := rfl
@[simp] theorem updCallCtl_gate (f : CallCtl → CallCtl) (s : State) :
    (updCallCtl f s).gate = s.gate := rfl
@[simp] theorem updCallCtl_orders (f : CallCtl → CallCtl) (s : State) :
    (updCallCtl f s).orders = s.orders := rfl
@[simp] theorem updCallCtl_ev (f : CallCtl → CallCtl) (s : State) :
    (updCallCtl f s).ev = s.ev := rfl
@[simp] theorem updCallCtl_ring (f : CallCtl → CallCtl) (s : State) :
    (updCallCtl f s).ring = s.ring := rfl
@[simp] theorem updCallCtl_tally (f : CallCtl → CallCtl) (s : State) :
    (updCallCtl f s).tally = s.tally := rfl
@[simp] theorem updCallCtl_visit (f : CallCtl → CallCtl) (s : State) :
    (updCallCtl f s).visit = s.visit := rfl
@[simp] theorem updCallCtl_cal (f : CallCtl → CallCtl) (s : State) :
    (updCallCtl f s).cal = s.cal := rfl
@[simp] theorem updCallCtl_img (f : CallCtl → CallCtl) (s : State) :
    (updCallCtl f s).img = s.img := rfl
@[simp] theorem updCallCtl_tariff (f : CallCtl → CallCtl) (s : State) :
    (updCallCtl f s).tariff = s.tariff := rfl
@[simp] theorem updCallCtl_coin (f : CallCtl → CallCtl) (s : State) :
    (updCallCtl f s).coin = s.coin := rfl
@[simp] theorem updCallCtl_meter (f : CallCtl → CallCtl) (s : State) :
    (updCallCtl f s).meter = s.meter := rfl
@[simp] theorem updCallCtl_call (f : CallCtl → CallCtl) (s : State) :
    (updCallCtl f s).call = f s.call := rfl
@[simp] theorem updCallCtl_line (f : CallCtl → CallCtl) (s : State) :
    (updCallCtl f s).line = s.line := rfl
@[simp] theorem updCallCtl_tamper (f : CallCtl → CallCtl) (s : State) :
    (updCallCtl f s).tamper = s.tamper := rfl
@[simp] theorem updCallCtl_report (f : CallCtl → CallCtl) (s : State) :
    (updCallCtl f s).report = s.report := rfl
@[simp] theorem updCallCtl_pins (f : CallCtl → CallCtl) (s : State) :
    (updCallCtl f s).pins = s.pins := rfl
@[simp] theorem updCallCtl_fresh (f : CallCtl → CallCtl) (s : State) :
    (updCallCtl f s).fresh = s.fresh := rfl
@[simp] theorem updCallCtl_pending (f : CallCtl → CallCtl) (s : State) :
    (updCallCtl f s).pending = s.pending := rfl

/-! ### updLine -/

@[simp] theorem updLine_sys (f : Line → Line) (s : State) : (updLine f s).sys = s.sys := rfl
@[simp] theorem updLine_mem (f : Line → Line) (s : State) : (updLine f s).mem = s.mem := rfl
@[simp] theorem updLine_gate (f : Line → Line) (s : State) : (updLine f s).gate = s.gate := rfl
@[simp] theorem updLine_orders (f : Line → Line) (s : State) :
    (updLine f s).orders = s.orders := rfl
@[simp] theorem updLine_ev (f : Line → Line) (s : State) : (updLine f s).ev = s.ev := rfl
@[simp] theorem updLine_ring (f : Line → Line) (s : State) : (updLine f s).ring = s.ring := rfl
@[simp] theorem updLine_tally (f : Line → Line) (s : State) : (updLine f s).tally = s.tally := rfl
@[simp] theorem updLine_visit (f : Line → Line) (s : State) : (updLine f s).visit = s.visit := rfl
@[simp] theorem updLine_cal (f : Line → Line) (s : State) : (updLine f s).cal = s.cal := rfl
@[simp] theorem updLine_img (f : Line → Line) (s : State) : (updLine f s).img = s.img := rfl
@[simp] theorem updLine_tariff (f : Line → Line) (s : State) :
    (updLine f s).tariff = s.tariff := rfl
@[simp] theorem updLine_coin (f : Line → Line) (s : State) : (updLine f s).coin = s.coin := rfl
@[simp] theorem updLine_meter (f : Line → Line) (s : State) : (updLine f s).meter = s.meter := rfl
@[simp] theorem updLine_call (f : Line → Line) (s : State) : (updLine f s).call = s.call := rfl
@[simp] theorem updLine_line (f : Line → Line) (s : State) : (updLine f s).line = f s.line := rfl
@[simp] theorem updLine_tamper (f : Line → Line) (s : State) :
    (updLine f s).tamper = s.tamper := rfl
@[simp] theorem updLine_report (f : Line → Line) (s : State) :
    (updLine f s).report = s.report := rfl
@[simp] theorem updLine_pins (f : Line → Line) (s : State) : (updLine f s).pins = s.pins := rfl
@[simp] theorem updLine_fresh (f : Line → Line) (s : State) : (updLine f s).fresh = s.fresh := rfl
@[simp] theorem updLine_pending (f : Line → Line) (s : State) :
    (updLine f s).pending = s.pending := rfl

/-! ### updReport -/

@[simp] theorem updReport_sys (f : Report → Report) (s : State) : (updReport f s).sys = s.sys := rfl
@[simp] theorem updReport_mem (f : Report → Report) (s : State) : (updReport f s).mem = s.mem := rfl
@[simp] theorem updReport_gate (f : Report → Report) (s : State) :
    (updReport f s).gate = s.gate := rfl
@[simp] theorem updReport_orders (f : Report → Report) (s : State) :
    (updReport f s).orders = s.orders := rfl
@[simp] theorem updReport_ev (f : Report → Report) (s : State) : (updReport f s).ev = s.ev := rfl
@[simp] theorem updReport_ring (f : Report → Report) (s : State) :
    (updReport f s).ring = s.ring := rfl
@[simp] theorem updReport_tally (f : Report → Report) (s : State) :
    (updReport f s).tally = s.tally := rfl
@[simp] theorem updReport_visit (f : Report → Report) (s : State) :
    (updReport f s).visit = s.visit := rfl
@[simp] theorem updReport_cal (f : Report → Report) (s : State) : (updReport f s).cal = s.cal := rfl
@[simp] theorem updReport_img (f : Report → Report) (s : State) : (updReport f s).img = s.img := rfl
@[simp] theorem updReport_tariff (f : Report → Report) (s : State) :
    (updReport f s).tariff = s.tariff := rfl
@[simp] theorem updReport_coin (f : Report → Report) (s : State) :
    (updReport f s).coin = s.coin := rfl
@[simp] theorem updReport_meter (f : Report → Report) (s : State) :
    (updReport f s).meter = s.meter := rfl
@[simp] theorem updReport_call (f : Report → Report) (s : State) :
    (updReport f s).call = s.call := rfl
@[simp] theorem updReport_line (f : Report → Report) (s : State) :
    (updReport f s).line = s.line := rfl
@[simp] theorem updReport_tamper (f : Report → Report) (s : State) :
    (updReport f s).tamper = s.tamper := rfl
@[simp] theorem updReport_report (f : Report → Report) (s : State) :
    (updReport f s).report = f s.report := rfl
@[simp] theorem updReport_pins (f : Report → Report) (s : State) :
    (updReport f s).pins = s.pins := rfl
@[simp] theorem updReport_fresh (f : Report → Report) (s : State) :
    (updReport f s).fresh = s.fresh := rfl
@[simp] theorem updReport_pending (f : Report → Report) (s : State) :
    (updReport f s).pending = s.pending := rfl

/-! ### raise -/

@[simp] theorem raise_sys (b : Block) (code : Nat) (d : List Byte) (s : State) :
    (raise b code d s).sys = s.sys := by unfold raise; split <;> rfl
@[simp] theorem raise_mem (b : Block) (code : Nat) (d : List Byte) (s : State) :
    (raise b code d s).mem = s.mem := by unfold raise; split <;> rfl
@[simp] theorem raise_gate (b : Block) (code : Nat) (d : List Byte) (s : State) :
    (raise b code d s).gate = s.gate := by unfold raise; split <;> rfl
@[simp] theorem raise_orders (b : Block) (code : Nat) (d : List Byte) (s : State) :
    (raise b code d s).orders = s.orders := by unfold raise; split <;> rfl
@[simp] theorem raise_ring (b : Block) (code : Nat) (d : List Byte) (s : State) :
    (raise b code d s).ring = s.ring := by unfold raise; split <;> rfl
@[simp] theorem raise_tally (b : Block) (code : Nat) (d : List Byte) (s : State) :
    (raise b code d s).tally = s.tally := by unfold raise; split <;> rfl
@[simp] theorem raise_visit (b : Block) (code : Nat) (d : List Byte) (s : State) :
    (raise b code d s).visit = s.visit := by unfold raise; split <;> rfl
@[simp] theorem raise_cal (b : Block) (code : Nat) (d : List Byte) (s : State) :
    (raise b code d s).cal = s.cal := by unfold raise; split <;> rfl
@[simp] theorem raise_img (b : Block) (code : Nat) (d : List Byte) (s : State) :
    (raise b code d s).img = s.img := by unfold raise; split <;> rfl
@[simp] theorem raise_tariff (b : Block) (code : Nat) (d : List Byte) (s : State) :
    (raise b code d s).tariff = s.tariff := by unfold raise; split <;> rfl
@[simp] theorem raise_coin (b : Block) (code : Nat) (d : List Byte) (s : State) :
    (raise b code d s).coin = s.coin := by unfold raise; split <;> rfl
@[simp] theorem raise_meter (b : Block) (code : Nat) (d : List Byte) (s : State) :
    (raise b code d s).meter = s.meter := by unfold raise; split <;> rfl
@[simp] theorem raise_call (b : Block) (code : Nat) (d : List Byte) (s : State) :
    (raise b code d s).call = s.call := by unfold raise; split <;> rfl
@[simp] theorem raise_line (b : Block) (code : Nat) (d : List Byte) (s : State) :
    (raise b code d s).line = s.line := by unfold raise; split <;> rfl
@[simp] theorem raise_tamper (b : Block) (code : Nat) (d : List Byte) (s : State) :
    (raise b code d s).tamper = s.tamper := by unfold raise; split <;> rfl
@[simp] theorem raise_report (b : Block) (code : Nat) (d : List Byte) (s : State) :
    (raise b code d s).report = s.report := by unfold raise; split <;> rfl
@[simp] theorem raise_pins (b : Block) (code : Nat) (d : List Byte) (s : State) :
    (raise b code d s).pins = s.pins := by unfold raise; split <;> rfl
@[simp] theorem raise_fresh (b : Block) (code : Nat) (d : List Byte) (s : State) :
    (raise b code d s).fresh = s.fresh := by unfold raise; split <;> rfl
@[simp] theorem raise_pending (b : Block) (code : Nat) (d : List Byte) (s : State) :
    (raise b code d s).pending = s.pending := by unfold raise; split <;> rfl

/-! ### Channel records -/

@[simp] theorem get_set_same (c : Channels) (ch : Channel) (x : ChanRec) :
    (c.set ch x).get ch = x := by cases ch <;> rfl

theorem get_set_other (c : Channels) (a b : Channel) (x : ChanRec) (h : a ≠ b) :
    (c.set a x).get b = c.get b := by cases a <;> cases b <;> first | rfl | exact absurd rfl h

/-! ### append -/

@[simp] theorem append_sys (e : PostEntry) (s : State) : (append e s).sys = s.sys := rfl
@[simp] theorem append_mem (e : PostEntry) (s : State) : (append e s).mem = s.mem := rfl
@[simp] theorem append_gate (e : PostEntry) (s : State) :
    (append e s).gate = { s.gate with queue := s.gate.queue ++ [e] } := rfl
@[simp] theorem append_orders (e : PostEntry) (s : State) : (append e s).orders = s.orders := rfl
@[simp] theorem append_ev (e : PostEntry) (s : State) : (append e s).ev = s.ev := rfl
@[simp] theorem append_ring (e : PostEntry) (s : State) : (append e s).ring = s.ring := rfl
@[simp] theorem append_tally (e : PostEntry) (s : State) : (append e s).tally = s.tally := rfl
@[simp] theorem append_visit (e : PostEntry) (s : State) : (append e s).visit = s.visit := rfl
@[simp] theorem append_cal (e : PostEntry) (s : State) : (append e s).cal = s.cal := rfl
@[simp] theorem append_img (e : PostEntry) (s : State) : (append e s).img = s.img := rfl
@[simp] theorem append_tariff (e : PostEntry) (s : State) : (append e s).tariff = s.tariff := rfl
@[simp] theorem append_coin (e : PostEntry) (s : State) : (append e s).coin = s.coin := rfl
@[simp] theorem append_meter (e : PostEntry) (s : State) : (append e s).meter = s.meter := rfl
@[simp] theorem append_call (e : PostEntry) (s : State) : (append e s).call = s.call := rfl
@[simp] theorem append_line (e : PostEntry) (s : State) : (append e s).line = s.line := rfl
@[simp] theorem append_tamper (e : PostEntry) (s : State) : (append e s).tamper = s.tamper := rfl
@[simp] theorem append_report (e : PostEntry) (s : State) : (append e s).report = s.report := rfl
@[simp] theorem append_pins (e : PostEntry) (s : State) : (append e s).pins = s.pins := rfl
@[simp] theorem append_fresh (e : PostEntry) (s : State) : (append e s).fresh = s.fresh := rfl
@[simp] theorem append_pending (e : PostEntry) (s : State) : (append e s).pending = s.pending := rfl

/-! ### closeImages -/

@[simp] theorem closeImages_sys (s : State) : (closeImages s).sys = s.sys := rfl
@[simp] theorem closeImages_mem (s : State) : (closeImages s).mem = s.mem := rfl
@[simp] theorem closeImages_gate (s : State) : (closeImages s).gate = s.gate := rfl
@[simp] theorem closeImages_orders (s : State) : (closeImages s).orders = s.orders := rfl
@[simp] theorem closeImages_ev (s : State) : (closeImages s).ev = s.ev := rfl
@[simp] theorem closeImages_ring (s : State) : (closeImages s).ring = s.ring := rfl
@[simp] theorem closeImages_tally (s : State) : (closeImages s).tally = s.tally := rfl
@[simp] theorem closeImages_visit (s : State) : (closeImages s).visit = s.visit := rfl
@[simp] theorem closeImages_cal (s : State) : (closeImages s).cal = s.cal := rfl
@[simp] theorem closeImages_img (s : State) : (closeImages s).img = { s.img with
    clock := s.img.clock.closed, live := s.img.live.closed, tally := s.img.tally.closed,
    tamper := s.img.tamper.closed, liveDirty := false, tallyDirty := false } := rfl
@[simp] theorem closeImages_tariff (s : State) : (closeImages s).tariff = s.tariff := rfl
@[simp] theorem closeImages_coin (s : State) : (closeImages s).coin = s.coin := rfl
@[simp] theorem closeImages_meter (s : State) : (closeImages s).meter = s.meter := rfl
@[simp] theorem closeImages_call (s : State) : (closeImages s).call = s.call := rfl
@[simp] theorem closeImages_line (s : State) : (closeImages s).line = s.line := rfl
@[simp] theorem closeImages_tamper (s : State) : (closeImages s).tamper = s.tamper := rfl
@[simp] theorem closeImages_report (s : State) : (closeImages s).report = s.report := rfl
@[simp] theorem closeImages_pins (s : State) : (closeImages s).pins = s.pins := rfl
@[simp] theorem closeImages_fresh (s : State) : (closeImages s).fresh = s.fresh := rfl
@[simp] theorem closeImages_pending (s : State) : (closeImages s).pending = s.pending := rfl

/-! ### markLate -/

@[simp] theorem markLate_sys (s : State) : (markLate s).sys = s.sys := rfl
@[simp] theorem markLate_mem (s : State) : (markLate s).mem = s.mem := rfl
@[simp] theorem markLate_gate (s : State) : (markLate s).gate = s.gate := rfl
@[simp] theorem markLate_orders (s : State) : (markLate s).orders = s.orders := rfl
@[simp] theorem markLate_ev (s : State) : (markLate s).ev = s.ev := rfl
@[simp] theorem markLate_ring (s : State) : (markLate s).ring = s.ring := rfl
@[simp] theorem markLate_tally (s : State) : (markLate s).tally = s.tally := rfl
@[simp] theorem markLate_visit (s : State) : (markLate s).visit = s.visit := rfl
@[simp] theorem markLate_cal (s : State) : (markLate s).cal = s.cal := rfl
@[simp] theorem markLate_img (s : State) : (markLate s).img = s.img := rfl
@[simp] theorem markLate_tariff (s : State) : (markLate s).tariff = s.tariff := rfl
@[simp] theorem markLate_coin (s : State) : (markLate s).coin = { s.coin with
    passages := s.coin.passages.map (fun p => { p with late := true }) } := rfl
@[simp] theorem markLate_meter (s : State) : (markLate s).meter = s.meter := rfl
@[simp] theorem markLate_call (s : State) : (markLate s).call = s.call := rfl
@[simp] theorem markLate_line (s : State) : (markLate s).line = s.line := rfl
@[simp] theorem markLate_tamper (s : State) : (markLate s).tamper = s.tamper := rfl
@[simp] theorem markLate_report (s : State) : (markLate s).report = s.report := rfl
@[simp] theorem markLate_pins (s : State) : (markLate s).pins = s.pins := rfl
@[simp] theorem markLate_fresh (s : State) : (markLate s).fresh = s.fresh := rfl
@[simp] theorem markLate_pending (s : State) : (markLate s).pending = s.pending := rfl

/-! ### The end of a call, as the Metering Unit takes it (R126, R128) -/

/-- Whether a settlement was due or not, no call is metered after the end. -/
@[simp] theorem takeEnd_metered (c : CallInfo) (s : State) :
    (takeEnd c s).meter.metered = none := by
  unfold takeEnd beginSettlement
  split
  · split <;> rfl
  · rfl

/-- A settlement due at the end of the call begins there. -/
theorem takeEnd_settles (c : CallInfo) (s : State) (hd : c.settleDue = true)
    (ho : s.meter.purse.state = .opened) :
    (takeEnd c s).meter.purse = { s.meter.purse with state := .settling } := by
  simp [takeEnd, endMetering, beginSettlement, hd, ho, setPurse, touchLive]

/-- With no settlement due the purse keeps its state and fields. -/
theorem takeEnd_purse (c : CallInfo) (s : State) (h : c.settleDue = false) :
    (takeEnd c s).meter.purse = s.meter.purse := by
  simp [takeEnd, endMetering, h]

/-! ### The call timers (R88) -/

/-- Outside RUNNING no call timer rises. -/
theorem callCounts_not_running (s : State) (h : s.sys.part ≠ .running) : callCounts s = false := by
  simp [callCounts, h]

/-- With no call in progress none rises. -/
theorem callCounts_no_call (s : State) (h : s.call.cur = none) : callCounts s = false := by
  simp [callCounts, h]

/-- A call neither ringing nor answered counts nothing. -/
theorem tickCall_still (x : Station) (c : CallInfo) (hr : x ≠ .ringback)
    (ha : (x ≠ .talking ∧ x ≠ .talkingIn) ∨ c.answered = false) : tickCall x c = c := by
  cases c
  rcases ha with ⟨h1, h2⟩ | h <;> simp_all [tickCall]

/-- An answered call in TALKING or TALKING IN counts its talk duration, short of the counter's top. -/
theorem tickCall_talks (x : Station) (c : CallInfo) (hx : x = .talking ∨ x = .talkingIn)
    (ha : c.answered = true) (ht : c.talk < 4294967295) :
    tickCall x c = { c with talk := c.talk + 1 } := by
  rcases hx with rfl | rfl <;> simp [tickCall, ha, satAdd] <;> omega

/-- A tenth that brings a rising call timer with it hands it over for the Live Image; any other leaves the
images alone (R88). -/
theorem secondTenth_cases (s : State) :
    (callCounts s = true ∧ secondTenth s = touchLive (advanceCalendar (tickBlocks s)))
      ∨ (callCounts s = false ∧ secondTenth s = advanceCalendar (tickBlocks s)) := by
  cases h : callCounts s <;> simp [secondTenth, h]

/-! ### The lane at the entry to RUNNING (R85, R87, R170) -/

/-- The count rebuild of a class touches nothing of the Coin Unit but the marker, and takes back no change
handed over for the Live Image. -/
theorem rebuildClass_keeps (s : State) (cls : Nat) :
    (∃ u, (rebuildClass s cls).coin = { s.coin with uncertain := u })
      ∧ (s.img.liveDirty = true → (rebuildClass s cls).img.liveDirty = true) := by
  unfold rebuildClass
  split
  · exact ⟨⟨_, rfl⟩, id⟩
  · dsimp only
    split
    · exact ⟨⟨true, rfl⟩, fun _ => rfl⟩
    · exact ⟨⟨_, rfl⟩, id⟩

theorem rebuildCounts_keeps (s : State) :
    (∃ u, (rebuildCounts s).coin = { s.coin with uncertain := u })
      ∧ (s.img.liveDirty = true → (rebuildCounts s).img.liveDirty = true) := by
  unfold rebuildCounts
  generalize [1, 2, 3, 4, 5, 6] = l
  induction l generalizing s with
  | nil => exact ⟨⟨_, rfl⟩, id⟩
  | cons cls l ih =>
    obtain ⟨⟨u, hu⟩, hd⟩ := rebuildClass_keeps s cls
    obtain ⟨⟨v, hv⟩, hd'⟩ := ih (rebuildClass s cls)
    exact ⟨⟨v, by rw [List.foldl_cons, hv, hu]⟩, fun h => hd' (hd h)⟩

/-- What the lane does at the entry to RUNNING: the flush begins on an emptied list and is handed over for
the Live Image (R76, R87), a flush kept through a soft restart begins afresh (log 37), or the Coin Unit's
start-up is complete (R85). -/
theorem startCoin_cases (s : State) :
    ∃ c, c = { s.coin with box := s.pins.box, boxTimer := none } ∧
      ((s.coin.mustFlush = true
          ∧ (∃ u, (startCoin s).coin = { startFlush { c with escrow := [] } with uncertain := u })
          ∧ (startCoin s).img.liveDirty = true)
        ∨ (s.coin.mustFlush = false ∧ s.coin.lane = .flushing
          ∧ startCoin s = { s with coin := startFlush c })
        ∨ (s.coin.mustFlush = false ∧ s.coin.lane ≠ .flushing
          ∧ startCoin s = coinStarted { s with coin := c })) := by
  refine ⟨_, rfl, ?_⟩
  cases h : s.coin.mustFlush
  · by_cases hl : s.coin.lane = .flushing
    · exact .inr (.inl ⟨rfl, hl, by simp [startCoin, h, hl]⟩)
    · exact .inr (.inr ⟨rfl, hl, by simp [startCoin, h, hl]⟩)
  · have hk := rebuildCounts_keeps (touchLive { s with
      coin := startFlush { s.coin with box := s.pins.box, boxTimer := none, escrow := [] } })
    refine .inl ⟨rfl, ?_, ?_⟩
    · simpa [startCoin, h] using hk.1
    · simpa [startCoin, h] using hk.2

end Sys2Proof.Laws
end

