-- ==== Sys2Proof/Laws/Posts.lean ====
section
/-! SUPPORT. The Post Queue: what a producer gives is appended, and a step's end only appends; when a
stage of start-up ends. -/
namespace Sys2Proof.Laws
open Sys2Proof.Machine

/-- The Post Queue of `t` is that of `s` with entries appended. -/
def grows (s t : State) : Prop := s.gate.queue <+: t.gate.queue

theorem grows_refl (s : State) : grows s s := List.prefix_rfl

theorem grows_trans {s t u : State} (h : grows s t) (h' : grows t u) : grows s u :=
  List.IsPrefix.trans h h'

theorem grows_same {s t : State} (h : t.gate.queue = s.gate.queue) : grows s t := by
  unfold grows; simp [h]

theorem grows_from {s t u : State} (h' : grows t u) (h : t.gate.queue = s.gate.queue) :
    grows s u := grows_trans (grows_same h) h'

theorem grows_ite {c : Prop} [Decidable c] {s a b : State} (h1 : grows s a) (h2 : grows s b) :
    grows s (if c then a else b) := by split <;> assumption

theorem append_grows (e : PostEntry) (s : State) : grows s (append e s) := ⟨_, rfl⟩

theorem joinLine_grows (p : Producer) (l : List Offer) (s : State) : grows s (joinLine p l s) := by
  unfold joinLine
  split <;> exact grows_same rfl

theorem raise_grows (b : Block) (c : Nat) (d : List Byte) (s : State) : grows s (raise b c d s) :=
  grows_same (by rw [raise_gate])

/-- While nobody waits and there is room, what a producer gives is appended at once (R12). -/
theorem offer_room (p : Producer) (es : List PostEntry) (s : State) (h : s.gate.waiters = [])
    (hr : s.gate.queue.length + es.length ≤ 16) :
    offer p es s = { s with gate := { s.gate with queue := s.gate.queue ++ es } } := by
  induction es generalizing s with
  | nil => simp [offer, offerItems]
  | cons e es ih =>
    have hl : s.gate.queue.length < 16 := by
      have := List.length_cons (a := e) (as := es)
      omega
    have h1 : placeFree s = true := by simp [placeFree, h, postPlaces, hl]
    have h2 : offer p (e :: es) s = offer p es (append e s) := by
      simp [offer, offerItems, h1]
    rw [h2, ih (append e s) h (by simpa [append, Nat.add_assoc, Nat.add_comm 1] using hr)]
    simp [append]

theorem setImage_queue (i : ImageId) (x : Image) (s : State) :
    (setImage i x s).gate = s.gate := by cases i <;> rfl

theorem startOwed_gate (i : ImageId) (s : State) : (startOwed i s).gate = s.gate := by
  simp only [startOwed]
  split
  · exact setImage_queue i _ s
  · rfl

theorem appendRun_grows (i : ImageId) (s : State) : grows s (appendRun i s) := by
  simp only [appendRun]
  split
  · unfold grows; rw [startOwed_gate, setImage_queue]; exact append_grows _ s
  · exact grows_same (by rw [setImage_queue])

theorem pumpImage_grows (i : ImageId) (n : Nat) (s : State) : grows s (pumpImage i n s) := by
  induction n generalizing s with
  | zero => exact grows_refl s
  | succ n ih =>
    unfold pumpImage
    split
    · exact grows_refl s
    · split
      · exact grows_trans (appendRun_grows i s) (ih _)
      · exact joinLine_grows _ _ s

theorem offerItems_grows (p : Producer) (l : List Offer) (s : State) :
    grows s (offerItems p l s) := by
  induction l generalizing s with
  | nil => exact grows_refl s
  | cons o l ih =>
    cases o with
    | entry e =>
      unfold offerItems
      exact grows_ite (grows_trans (append_grows e s) (ih _)) (joinLine_grows _ _ s)
    | imageRun i =>
      unfold offerItems
      exact grows_trans (pumpImage_grows i 20 s) (ih _)
    | finished d =>
      unfold offerItems
      exact grows_trans (raise_grows _ _ _ s) (ih _)

theorem offer_grows (p : Producer) (es : List PostEntry) (s : State) : grows s (offer p es s) :=
  offerItems_grows _ _ s

theorem giveRewrite_grows (i : ImageId) (s : State) : grows s (giveRewrite i s) := by
  have h : ∀ x, grows s (setImage i x s) := fun x => grows_same (by rw [setImage_queue])
  unfold giveRewrite
  dsimp only
  refine grows_ite ?_ (grows_refl s)
  split
  · exact grows_from (pumpImage_grows i 20 _) (by rw [startOwed_gate, setImage_queue])
  · exact grows_refl s
  · exact grows_refl s
  · exact h _
  · exact h _

theorem postTally_grows (s : State) : grows s (if s.img.tallyDirty = true then
    giveRewrite .tally { s with img := { s.img with tallyDirty := false } } else s) :=
  grows_ite (grows_from (giveRewrite_grows .tally _) rfl) (grows_refl s)

theorem postLive_grows (s : State) : grows s (if s.img.liveDirty = true then
    giveRewrite .live { s with img := { s.img with liveDirty := false } } else s) :=
  grows_ite (grows_from (giveRewrite_grows .live _) rfl) (grows_refl s)

theorem postImages_grows (s : State) : grows s (postImages s) :=
  grows_trans (postTally_grows s) (postLive_grows _)

theorem writeEvent_grows (e : Event) (s : State) : grows s (writeEvent e s) := by
  unfold writeEvent
  split
  · exact grows_refl s
  · refine grows_ite (grows_from (offer_grows _ _ _) rfl) (grows_ite ?_ ?_)
    · exact grows_from (offer_grows _ _ _) rfl
    · exact grows_same rfl

theorem writeEvents_grows (l : List Event) (s : State) :
    grows s (l.foldl (fun s e => writeEvent e s) s) := by
  induction l generalizing s with
  | nil => exact grows_refl s
  | cons e l ih => exact grows_trans (writeEvent_grows e s) (ih _)

theorem flushEvents_grows (s : State) : grows s (flushEvents s) := by
  unfold flushEvents
  exact grows_ite (grows_from (writeEvents_grows _ _) rfl) (grows_refl s)

/-! ### The judgments -/

theorem startLane_queue (s : State) : (startLane s).gate = s.gate := by
  unfold startLane
  split
  · split
    · rfl
    · split
      · rfl
      · split
        · split <;> rfl
        · rfl
        · rfl
  · rfl

theorem closePurse_queue (s : State) : (closePurse s).gate = s.gate := by
  unfold closePurse
  simp

theorem setHold_queue (c : HoldCause) (s : State) : (setHold c s).gate = s.gate := by
  unfold setHold
  simp only []
  split
  · split <;> simp
  · split
    · split <;> simp
    · simp

theorem judgeDemand_queue (s : State) : (judgeDemand s).gate = s.gate := by
  have h2 : (if requestInFlight s.coin = true then s
      else if (s.coin.escrow.isEmpty && !inFlight s.coin.lane) = true then closePurse s
      else setHold (holdCauseOf (settleDemand s) s) (setDemand (settleDemand s) s)).gate
      = s.gate := by
    split
    · rfl
    · split
      · exact closePurse_queue s
      · rw [setHold_queue, setDemand_gate]
  unfold judgeDemand
  split
  · rfl
  · split <;> rfl
  · exact h2
  · exact h2

theorem settleOnHook_queue (s : State) : (settleOnHook s).gate = s.gate := by
  unfold settleOnHook beginSettlement
  split
  · split <;> rfl
  · rfl

theorem judgeMoney_queue (s : State) : (judgeMoney s).gate = s.gate := by
  unfold judgeMoney
  split
  · rw [startLane_queue, judgeDemand_queue, settleOnHook_queue]
  · rfl

theorem setBankGuard_grows (bank : Bank) (on : Bool) (s : State) :
    grows s (setBankGuard bank on s) := by cases bank <;> exact grows_same rfl

theorem activate_grows (bank : Bank) (t : Tables) (s : State) : grows s (activate bank t s) := by
  have h : ∀ u : State, grows u (handBank (some bank) t.edition
      (raise .tariff 21 (activeDetail bank t.edition s.tariff.active) (reselectBand u))) := by
    intro u
    exact grows_same (by simp [handBank, reselectBand])
  unfold activate
  refine grows_trans ?_ (h _)
  split
  · exact grows_ite (grows_same rfl) (grows_from (setBankGuard_grows _ _ _) rfl)
  · exact grows_same rfl

theorem judgeActivation_grows (s : State) : grows s (judgeActivation s) := by
  unfold judgeActivation
  split
  · exact grows_ite (activate_grows _ _ s) (grows_refl s)
  · exact grows_refl s
  · exact grows_refl s

theorem judgeActivationClock_grows (s : State) : grows s (judgeActivationClock s) := by
  unfold judgeActivationClock
  exact grows_ite (judgeActivation_grows s)
    (grows_trans (judgeActivation_grows s) (giveRewrite_grows _ _))

theorem judgeMode_queue (s : State) : (judgeMode s).gate = s.gate := by
  unfold judgeMode
  simp only []
  split
  · rfl
  · simp

theorem askSeize_queue (s : State) : (askSeize s).gate = s.gate := by
  unfold askSeize closeSeize
  split
  · simp only []
    split <;> rfl
  · rfl

theorem grantReport_queue (s : State) : (grantReport s).gate = s.gate := by
  cases h : s.gate.profile with
  | none => simp only [grantReport, h]
  | some p =>
    simp only [grantReport, h]
    rw [askSeize_queue]
    simp [setCall]

theorem judgeReport_queue (s : State) : (judgeReport s).gate = s.gate := by
  unfold judgeReport
  simp only []
  split
  · rfl
  · split
    · rw [grantReport_queue]
    · rfl

theorem judgeGate_queue (s : State) : (judgeGate s).gate = s.gate := by
  unfold judgeGate
  split
  · rfl
  · split <;> rfl

theorem startDigit_queue (p : Bool) (d : Nat) (s : State) : (startDigit p d s).gate = s.gate := by
  unfold startDigit
  split
  · rfl
  · split <;> rfl

theorem offerDigit_queue (s : State) : (offerDigit s).gate = s.gate := by
  unfold offerDigit
  split
  · split
    · rw [startDigit_queue]
    · split
      · rw [startDigit_queue]
      · rfl
  · rfl

theorem judgeRingback_queue (s : State) : (judgeRingback s).gate = s.gate := by
  unfold judgeRingback
  split
  · split <;> rfl
  · rfl

theorem judgeInterDigit_queue (s : State) : (judgeInterDigit s).gate = s.gate := by
  unfold judgeInterDigit
  split
  · split <;> rfl
  · rfl

theorem offerReport_queue (s : State) : (offerReport s).gate = s.gate := by
  unfold offerReport
  split
  · split
    · split
      · rw [startDigit_queue]
      · rfl
    · split
      · rw [startDigit_queue]
      · rfl
    all_goals rfl
  · rfl

theorem judgeSender_queue (s : State) : (judgeSender s).gate = s.gate := by
  unfold judgeSender
  rw [offerReport_queue, judgeInterDigit_queue, judgeRingback_queue, offerDigit_queue,
    judgeGate_queue]

theorem settle_grows (s : State) : grows s (settle s) := by
  unfold settle
  refine grows_ite ?_ (grows_refl s)
  unfold grows
  rw [judgeSender_queue, judgeReport_queue, judgeMode_queue]
  refine grows_trans (grows_same ?_) (judgeActivationClock_grows _)
  rw [judgeMoney_queue]

theorem judgeReasons_queue (s : State) : (judgeReasons s).gate = s.gate := by
  have h : ∀ r : BitVec 10, (if r = s.coin.reasons then s
      else touchLive { s with coin := { s.coin with reasons := r } }).gate = s.gate := by
    intro r; split <;> rfl
  exact h (closingReasons s)

theorem posts_grow (s : State) :
    grows s (postImages (flushEvents (judgeReasons (settle s)))) := by
  refine grows_trans (grows_trans ?_ (flushEvents_grows _)) (postImages_grows _)
  exact grows_trans (settle_grows s) (grows_same (by rw [judgeReasons_queue]))

/-! ### The stages of start-up (R179) -/

theorem stageGiven_eq (x : Stage) (s : State) :
    stageGiven x s = true ↔
      s.sys.part = .starting ∧ s.sys.stage = x ∧ stagePostsGiven s = true := by
  simp [stageGiven, and_assoc]

/-- What a step of the stages can do: nothing, or one stage ends with its posts in their places and its
reads ended, and the next begins. -/
theorem nextStage_cases (s : State) :
    nextStage s = s
    ∨ s.sys.part = .starting ∧ stagePostsGiven s = true
      ∧ (s.sys.stage = .records ∧ recordsDone s = true ∧ nextStage s = leaveRecords s
        ∨ s.sys.stage = .live ∧ s.sys.imageTaken = true ∧ nextStage s = startLoad s
        ∨ s.sys.stage = .announce ∧ nextStage s = enterRunning s) := by
  unfold nextStage endRecords endLive endAnnounce
  split
  · split
    · rename_i hx h
      obtain ⟨h1, h2⟩ := Bool.and_eq_true_iff.mp h
      obtain ⟨hp, -, hg⟩ := (stageGiven_eq _ s).mp h1
      exact .inr ⟨hp, hg, .inl ⟨hx, h2, rfl⟩⟩
    · exact .inl rfl
  · split
    · rename_i hx h
      obtain ⟨h1, h2⟩ := Bool.and_eq_true_iff.mp h
      obtain ⟨hp, -, hg⟩ := (stageGiven_eq _ s).mp h1
      exact .inr ⟨hp, hg, .inr (.inl ⟨hx, h2, rfl⟩)⟩
    · exact .inl rfl
  · split
    · rename_i hx h
      obtain ⟨hp, -, hg⟩ := (stageGiven_eq _ s).mp h
      exact .inr ⟨hp, hg, .inr (.inr ⟨hx, rfl⟩)⟩
    · exact .inl rfl
  all_goals exact .inl rfl

/-- No stage ends while one of its posts waits for a place. -/
theorem nextStage_waits (s : State) (h : stagePostsGiven s = false) : nextStage s = s :=
  (nextStage_cases s).elim id fun ⟨_, hg, _⟩ => by simp [h] at hg

/-- The stages stand still outside STARTING. -/
theorem nextStage_notStarting (s : State) (h : s.sys.part ≠ .starting) : nextStage s = s :=
  (nextStage_cases s).elim id fun ⟨hp, _⟩ => absurd hp h

/-- The end of a step only appends to the Post Queue. -/
theorem finish_grows (n : Nat) (s : State) : grows s (finish n s) := by
  have h : ∀ u : State, grows u (shuffleWaiters n u) := fun u => grows_same rfl
  exact grows_trans (posts_grow s) (h _)

end Sys2Proof.Laws
end

