-- ==== Sys2Proof/Tests/Slice0.lean ====
section
/-! SUPPORT. The author's tests: ill-formed commands, the manual's worked figures, and for every
statement a state and operands that meet the hypotheses of each of its clauses. -/
namespace Sys2Proof.Tests
open Sys2Proof.Machine Sys2Proof.Safety

/-! ### Well-formed commands -/

theorem test_order_code_zero_refused : (Instr.orderPosted 3 0).wf = false := by decide
theorem test_pulse_beyond_a_tenth_refused : (Instr.meterPulse 100).wf = false := by decide
theorem test_order_code_one_accepted : (Instr.orderPosted 3 1).wf = true := by decide
theorem test_no_word_spells_a_command : decodeTableWord 8 0 = none := by decide

/-! ### The manual's worked figures -/

/-- R39's two dates. -/
theorem test_weekdays : weekdayOf ⟨24, 3, 15, 0, 0, 0⟩ = 5 ∧ weekdayOf ⟨99, 12, 31, 0, 0, 0⟩ = 4 := by
  decide

/-- The table of R119. -/
theorem test_unit_charges : unitCharge 12 100 5 = 15 ∧ unitCharge 12 75 5 = 10
    ∧ unitCharge 12 110 5 = 15 ∧ unitCharge 7 25 1 = 2 ∧ unitCharge 0 400 50 = 0
    ∧ unitCharge 9999 400 250 = 40000 ∧ unitCharge 9999 400 238 = 40222 := by decide

/-- Section 2.5's example of read-index judgment. -/
theorem test_read_indexes : takenIndex 40 20 35 = 35 ∧ takenIndex 40 35 100 = 40
    ∧ takenIndex 40 40 10 = 40 := by decide

/-- Section 3.2's example of a leap-day carry: 2024-02-28 into the 29th. -/
theorem test_leap_day : nextDay ⟨24, 2, 28, 0, 0, 0⟩ = (⟨24, 2, 29, 0, 0, 0⟩, false)
    ∧ nextDay ⟨24, 2, 29, 0, 0, 0⟩ = (⟨24, 3, 1, 0, 0, 0⟩, false)
    ∧ nextDay ⟨99, 12, 31, 0, 0, 0⟩ = (⟨0, 1, 1, 0, 0, 0⟩, true) := by decide

/-! ### A small running state -/

def prof : Profile :=
  { station := [1, 2, 3, 4, 5, 6, 7, 8], slotsBase := 0x1000, eventsBase := 0x1200,
    callsBase := 0x1500, clockBase := 0x2000, liveBase := 0x2100, tallyBase := 0x2200,
    tamperBase := 0x2300, bankABase := 0x3000, bankBBase := 0x4000,
    classes := [(10, true), (20, true), (50, false), (100, false), (0, false), (0, false)],
    pulse := false, incoming := true, initial := .a, threshold := 0,
    severities := [1, 1, 2, 2, 3, 0, 1], primary := [5, 6], secondary := [7],
    emergency := [[9, 9, 9], [], [], []], passageMs := 500, dropMs := 700, slotBlockS := 2,
    dialToneS := 5, interDigitS := 6, creditHoldS := 20, answerS := 60, guardS := 2,
    reportBaseS := 30, forceS := 20, shockCount := 3, visitDoorS := 60 }

def zones : List Zone := [⟨.timed, 5, 10, 600, 60, 8⟩, ⟨.free, 0, 0, 600, 0, 8⟩,
  ⟨.barred, 0, 0, 600, 0, 8⟩]

def tab : Tables :=
  { edition := 3, zones := zones, prefixes := [⟨[5, 5], 1⟩, ⟨[7], 2⟩],
    bands := [⟨0b1111111, 0, 0, 600, 700, 2⟩], mults := [100, 50], defaultZone := 0, q := 5 }

/-- RUNNING with an accepted profile, active tables, nothing else going on. -/
def run : State :=
  { State.reset with
    sys := { State.reset.sys with part := .running, accepted := true },
    gate := { State.reset.gate with profile := some prof, queue := [] },
    tariff := { State.reset.tariff with active := some (.a, tab) },
    coin := { State.reset.coin with reasons := 0, started := true },
    call := { State.reset.call with mode := .full },
    cal := { State.reset.cal with time := ⟨24, 3, 15, 11, 0, 0⟩, weekday := 5, valid := true } }

/-- As `run`, with the Order Unit holding an order. -/
def order (d : List Byte) : State :=
  { run with orders := { run.orders with busy := some 3, data := some d } }

def at_ (x : Station) (s : State) : State := { s with call := { s.call with station := x } }

def withCall (c : CallInfo) (s : State) : State :=
  { s with call := { s.call with cur := some c } }

def paid : CallInfo := { newCall .paid 0 with zone := some 0, decided := true, maxLen := 8 }
def open_ : CallInfo := newCall .undecided 0
def free_ : CallInfo := { newCall .free 0 with zone := some 1, decided := true, maxLen := 8 }

def purse (p : PurseState) (d c : Nat) (s : State) : State :=
  { s with meter := { s.meter with purse := ⟨p, d, c, 0, 0, 0, .nothing⟩ },
           coin := { s.coin with purseFig := p, deposited := d } }

def inPart (x : PartState) (s : State) : State := { s with sys := { s.sys with part := x } }

/-- The head of the Post Queue is a read run whose bytes stand in memory. -/
def reading (who : Requester) (d : List Byte) (s : State) : State :=
  { s with mem := Memory.writeRun [] 0x5000 d,
           gate := { s.gate with queue := [.read 0x5000 d.length who] } }

def due : Timer := some 50

/-- Section 3.9's example of choosing the band. -/
theorem test_bands :
    let t : Tables := { tab with bands := [⟨0b1000001, 0, 0, 0, 1440, 2⟩,
      ⟨0b0111110, 0, 0, 1140, 420, 1⟩, ⟨0b1111111, 25, 12, 0, 0, 3⟩] }
    chooseBand (some (.a, t)) ⟨⟨24, 3, 15, 18, 59, 0⟩, 0, 5, true, 0, false⟩ = 0
    ∧ chooseBand (some (.a, t)) ⟨⟨24, 3, 15, 19, 0, 0⟩, 0, 5, true, 0, false⟩ = 1
    ∧ chooseBand (some (.a, t)) ⟨⟨24, 3, 16, 0, 30, 0⟩, 0, 6, true, 0, false⟩ = 2 := by decide

/-- Section 4.6's example of number analysis, with the emergency numbers 112 and 999. -/
theorem test_analysis :
    let p := { prof with emergency := [[1, 1, 2], [9, 9, 9], [], []] }
    let t : Tables := { tab with prefixes := [⟨[0], 2⟩, ⟨[0, 0], 5⟩, ⟨[0, 0, 4, 4], 7⟩, ⟨[1], 1⟩,
      ⟨[1, 1, 8], 3⟩] }
    analyseDigit p (some t) [1, 1] 1 = none
    ∧ analyseDigit p (some t) [1, 1, 2] 2 = some .emergency
    ∧ analyseDigit p (some t) [1, 1, 8] 8 = some (.zone 3)
    ∧ analyseDigit p (some t) [1, 3] 3 = some (.zone 1)
    ∧ analyseDigit p (some t) [0, 0] 0 = none
    ∧ analyseDigit p (some t) [0, 12, 0, 3] 3 = some (.zone 5)
    ∧ analyseDigit p (some t) [0, 10] 10 = some (.zone 0)
    ∧ analyseComplete (some t) [9, 9] = .zone 0
    ∧ analyseDigit p none [5] 5 = some .noTariff
    ∧ analyseDigit p none [1, 1, 2] 2 = some .emergency := by decide

/-- Section 9.4's example of a frame. -/
theorem test_frame : frameSymbols (frameDigits [4, 0, 7, 1, 2, 3, 5, 8] 1250 1
      ⟨8, 3, ⟨3, 15, 20, 10, 0⟩, false, false, false⟩)
    = [10, 4, 0, 7, 1, 2, 3, 5, 8, 8, 3, 0, 0, 1, 0, 3, 1, 5, 2, 0, 1, 0, 0, 0, 0, 1, 2, 5, 0, 2, 11]
    := by decide

/-! ### One step -/

/-- What a step answers, as a check on the next state. -/
def answers (f : State → Bool) : Host.Outcome State Fault Refusal → Bool
  | .next t => f t
  | .fault _ => false
  | .refused _ => false

def does (c : Instr) (s : State) (f : State → Bool) : Bool :=
  answers f (step { s with pending := [c] })

/-- R71: a strobe of an accepted class classifies the passage, one of another class does not. -/
theorem test_strobe : does (.strobe 2)
      { run with coin := { run.coin with passages := [⟨none, 300, false⟩] } }
      (fun t => t.coin.passages == [⟨some 2, 300, false⟩]) = true
    ∧ does (.strobe 3) { run with coin := { run.coin with passages := [⟨none, 300, false⟩] } }
      (fun t => t.coin.passages == [⟨none, 300, false⟩] && t.tally.fault == 1) = true := by decide

/-- R73, R117: the first coin takes sequence number 1 and opens the purse. -/
theorem test_first_coin : does .laneEdge
    { run with call := { run.call with hook := true, station := .ready },
               coin := { run.coin with passages := [⟨some 2, 300, false⟩], arrival := 9 } }
    (fun t => t.coin.escrow.map (·.seq) == [1] && t.meter.purse.d == 20
      && t.meter.purse.state == .opened && t.coin.arrival == 2) = true := by decide

/-- R33, R34: an index taken short of the one in memory asserts ATTN, once START-UP's is there. -/
theorem test_attn_is_a_level :
    (takeEventIndex 2 { run with ev := { run.ev with w := 5, lastW := 4, announced := true } }).ev.attn
      = true
    ∧ (takeEventIndex 4 { run with ev := { run.ev with w := 5, lastW := 4, announced := true } }).ev.attn
      = false
    ∧ (takeEventIndex 2 { run with ev := { run.ev with w := 5, lastW := 4 } }).ev.attn = false := by
  decide

/-- R38, R39: the last second of the range. -/
theorem test_year_wrap : does .secondCarry
    { inPart .unconfigured run with cal := ⟨⟨99, 12, 31, 23, 59, 59⟩, 9, 4, true, 0, false⟩ }
    (fun t => t.cal.time == ⟨0, 1, 1, 0, 0, 0⟩ && t.cal.weekday == 6 && !t.cal.valid) = true := by
  decide

/-- R112: a pulse digit 0 has ten breaks. -/
theorem test_pulse_zero : pulseBreaks 0 = 10 ∧ pulseBreaks 9 = 9 := by decide

/-! ### Every statement's hypotheses are met

Each theorem gives, clause by clause, a state and operands that meet the hypotheses of the statement
it names. -/

theorem meets_stepRunsTheFrontCommand :
    { run with pending := [.tenthTick] }.pending = .tenthTick :: [] := by decide

/-- For the five invariants: a state that meets them all and takes a step. -/
theorem meets_invariants : memoryKept run ∧ calendarInRange run ∧ laneHolds run ∧ postsHold run
    ∧ ringsHold run ∧ does .tenthTick run (fun t => t.cal.sub == 1) = true := by decide

theorem meets_unitChargeRoundsUp : 12 ≤ 9999 ∧ 25 ≤ 110 ∧ 110 ≤ 400 ∧ 1 ≤ 5 ∧ 5 ≤ 250 ∧ 5 ∣ 15
    ∧ rawCharge 12 110 ≤ 15 := by decide

def clock (t : FullTime) : State := { run with cal := { run.cal with time := t, sub := 9 } }

theorem meets_calendarCountsTicksAndSeconds :
    (run.cal.sub < 9 ∧ run.sys.part = .running
      ∧ (withCall paid run).call.cur = some paid
      ∧ (at_ .talking (withCall { paid with answered := true } run)).call.station = .talking)
    ∧ (inPart .starting run).sys.part ≠ .running
    ∧ ((clock ⟨24, 3, 15, 11, 0, 58⟩).cal.sub = 9 ∧ 58 < 59)
    ∧ (clock ⟨24, 3, 15, 11, 58, 59⟩).cal.time.minute < 59
    ∧ (clock ⟨24, 3, 15, 22, 59, 59⟩).cal.time.hour < 23
    ∧ (clock ⟨24, 2, 28, 23, 59, 59⟩).cal.time.day < monthLength 24 2
    ∧ ((clock ⟨24, 2, 29, 23, 59, 59⟩).cal.time.day = monthLength 24 2
      ∧ (clock ⟨24, 2, 29, 23, 59, 59⟩).cal.time.month < 12)
    ∧ (clock ⟨98, 12, 31, 23, 59, 59⟩).cal.time.year < 99
    ∧ (clock ⟨99, 12, 31, 23, 59, 59⟩).cal.time.year = 99
    ∧ timeFault ⟨99, 12, 31, 23, 59, 59⟩ = none := by decide

/-- A call in progress with the station in `x`, its Live Image as it was last given, with count 6. -/
def talked (x : Station) (answered : Bool) : State :=
  let s := at_ x (withCall { paid with answered := answered, talk := 255 } run)
  { s with img := { s.img with live := ⟨6, none, false, true, liveFields s⟩ } }

/-- The hypotheses of the clauses on the Live Image at a tenth tick. -/
theorem meets_callTimersReachTheImage :
    ((talked .talking true).sys.part = .running ∧ (talked .talking true).cal.sub < 9
      ∧ roomy (talked .talking true) ∧ standing .live (talked .talking true) < 2
      ∧ (talked .talking true).img.live = ⟨6, none, false, true, liveFields (talked .talking true)⟩
      ∧ (talked .talkingIn true).call.station = .talkingIn ∧ 255 < 16777215)
    ∧ ((talked .ringback false).img.live.shown = liveFields (talked .ringback false)
      ∧ (talked .ringback false).call.cur.any (·.answered) = false)
    ∧ ((talked .talking false).call.station ≠ .ringback
      ∧ (talked .talking false).call.cur.any (·.answered) = false) := by
  and_intros <;> decide

/-- R14, R88, section 13.5: the talk duration at bytes 65 to 67 is written again at a tenth of a call. -/
theorem test_talk_reaches_the_image : does .tenthTick (talked .talking true)
    (fun t => t.gate.queue == [.write 0x2100 [7] .plain, .write (0x2100 + 65) [0, 1, 0] .plain,
      .write (0x2100 + 95) [8] .plain, .write 0x2100 [8] (.imageEnd .live)]) = true := by decide

theorem meets_bandOfTheFirstMatch :
    ({ run.cal with valid := false }).valid = false
    ∧ (∀ e ∈ tab.bands, bandMatches e { run.cal with time := ⟨24, 3, 15, 9, 0, 0⟩ } = false)
    ∧ tab.bands = [] ++ ⟨0b1111111, 0, 0, 600, 700, 2⟩ :: []
    ∧ bandMatches ⟨0b1111111, 0, 0, 600, 700, 2⟩ run.cal = true ∧ run.cal.valid = true
    ∧ bandMatches ⟨0b1111111, 0, 0, 1000, 700, 2⟩ run.cal = true := by decide

theorem meets_gateFollowsTheMap :
    run.sys.part = .running ∧ run.gate.profile = some prof
    ∧ (0x103F : Nat) = prof.slotsBase + 32 * (1 : Fin 16).val + 31 ∧ 0x103F < 0xFFFE
    ∧ prof.slotsBase + 512 ≤ 0x1201 ∧ 0x1201 = prof.eventsBase + 1
    ∧ prof.eventsBase + 528 ≤ 0x1501 ∧ 0x1501 = prof.callsBase + 1
    ∧ prof.callsBase + 2576 ≤ 0x2000 := by decide

theorem meets_plainWriteReachesMemory :
    memoryKept run ∧ suppressed run = false ∧ run.gate.held = [] ∧ run.gate.queue.length < 12
    ∧ gateClass run (0x5000 : Addr).toNat = .plain := by decide

def deep (n : Nat) : State :=
  { run with gate := { run.gate with queue := List.replicate n (.write 0x2000 [1] .plain) } }

theorem meets_guardedAndHeldWritesLeaveMemory :
    (run.sys.part = .running ∧ run.gate.inhibit = false ∧ run.gate.hreset = false
      ∧ run.gate.held = [] ∧ gateClass run (0x1200 : Addr).toNat = .guarded)
    ∧ suppressed { run with gate := { run.gate with inhibit := true } } = true
    ∧ suppressed { run with gate := { run.gate with hreset := true } } = true
    ∧ (suppressed (deep 12) = false ∧ (deep 12).gate.held = []
      ∧ 12 ≤ (deep 12).gate.queue.length ∧ gateClass (deep 12) (0x5000 : Addr).toNat = .plain) := by
  decide

/-- The watched bytes behind a deep queue: an order code, the two read indexes, the restart byte. -/
theorem meets_watchedWritesAreHeld :
    gateClass (deep 12) (BitVec.ofNat 16 (prof.slotsBase + 32 * 3)).toNat = .orderCode 3
    ∧ gateClass (deep 12) (BitVec.ofNat 16 (prof.eventsBase + 1)).toNat = .eventRead
    ∧ gateClass (deep 12) (BitVec.ofNat 16 (prof.callsBase + 1)).toNat = .callRead
    ∧ suppressed { inPart .unconfigured (deep 12) with
        gate := { (deep 12).gate with profile := none } } = false
    ∧ 12 ≤ (deep 12).gate.queue.length := by decide

def slots (x : SlotState) : State :=
  { run with orders := { run.orders with slots := run.orders.slots.set 3 x } }

theorem meets_orderCodesPostAndFree :
    (watchedSlot run prof 3 ∧ (7 : Byte) ≠ 0)
    ∧ (watchedSlot (slots .done) prof 3 ∧ (slots .done).orders.slots[(3 : Fin 16)] = .done)
    ∧ (watchedSlot run prof 3 ∧ run.orders.slots[(3 : Fin 16)] = .free) := by decide

/-- The record of a seized paid call, its gate not passed. -/
def rec_ : CallRecord := callRecord .farEnd paid 0 0 0

/-- A Call Record Ring of `n` unread records with `r` pending. -/
def pendingRing (n : Byte) (r : CallRecord) : State :=
  { run with ring := { run.ring with w := n, r := 0, slot := some r } }

def guarding (flag : Bool) (unread : Byte) : State :=
  { run with call := { run.call with mode := modeOf run },
             ev := { run.ev with w := unread, r := 0, guardFlag := flag, guardIdx := 2 } }

theorem meets_guardIsRaised :
    gateClass (guarding true 3) (0x1200 : Addr).toNat = .guarded ∧ roomy (guarding true 3)
    ∧ (guarding true 3).gate.queue.length ≤ 4 ∧ noReport (guarding true 3)
    ∧ (guarding true 3).call.mode = modeOf (guarding true 3)
    ∧ (guarding true 3).tariff.swap = .idle ∧ (guarding true 3).meter.purse.state = .absent
    ∧ (guarding true 3).ev.outbox = [] ∧ (guarding true 3).ev.guardFlag = true
    ∧ (guarding false 31).ev.guardFlag = false
    ∧ ((guarding false 31).ev.w - (guarding false 31).ev.r).toNat < 32
    ∧ 32 ≤ ((guarding false 32).ev.w - (guarding false 32).ev.r).toNat
    ∧ (guarding false 32).ev.dropped ≤ 255 := by decide

/-- A soft restart with a record pending, accepted, its call ring header not yet read. -/
def readingHeaders : State :=
  { pendingRing 64 rec_ with sys := { run.sys with part := .starting, kind := .soft } }

theorem meets_readIndexesAreJudged :
    run.sys.part = .running ∧ run.gate.profile = some prof ∧ suppressed run = false
    ∧ run.gate.held = [] ∧ roomy run ∧ prof.eventsBase + 528 ≤ 0xFFF0
    ∧ prof.slotsBase + 512 ≤ prof.eventsBase + 1 ∧ prof.callsBase + 2576 ≤ 0xFFF0
    ∧ prof.slotsBase + 512 ≤ prof.callsBase + 1 ∧ prof.eventsBase + 528 ≤ prof.callsBase + 1
    ∧ run.ring.slot = none
    ∧ ((pendingRing 64 rec_).ring.slot = some rec_ ∧ ((pendingRing 64 rec_).ring.w - 1).toNat < 64
      ∧ 64 ≤ ((pendingRing 64 rec_).ring.w - 0).toNat)
    ∧ (readingHeaders.sys.part = .starting ∧ readingHeaders.sys.accepted = true
      ∧ readingHeaders.sys.callDone = false ∧ readingHeaders.gate.profile = some prof
      ∧ suppressed readingHeaders = false ∧ readingHeaders.gate.held = [] ∧ roomy readingHeaders
      ∧ readingHeaders.ring.slot = some rec_) := by decide

def unconfigured : State :=
  { inPart .unconfigured run with gate := { run.gate with profile := none } }

def waiting_ : State :=
  { run with sys := { run.sys with part := .starting, waitRestart := true } }

theorem meets_startUpIsRunAgain :
    (unconfigured.sys.part = .unconfigured ∧ unconfigured.gate.profile = none
      ∧ unconfigured.gate.inhibit = false ∧ unconfigured.gate.hreset = false
      ∧ unconfigured.gate.held = [] ∧ roomy unconfigured)
    ∧ (run.sys.part = .running ∧ run.gate.profile = some prof ∧ run.gate.inhibit = false
      ∧ run.gate.hreset = false ∧ run.gate.held = [])
    ∧ (waiting_.sys.part = .starting ∧ waiting_.sys.waitRestart = true
      ∧ waiting_.gate.queue = [] ∧ waiting_.gate.waiters = []) := by decide

def posting (tag : WriteTag) : State :=
  { run with gate := { run.gate with queue := [.write 0x1060 [1, 2, 3] tag], done := 1 } }

def inLine (w : Producer) (o : Offer) : State :=
  { run with gate := { run.gate with waiters := [⟨w, [o]⟩] },
             img := { run.img with live := ⟨4, some .fields, false, true, []⟩ } }

/-- A station-processor write held behind a write run (R15). -/
def heldBehind : State :=
  { posting .plain with gate := { (posting .plain).gate with held := [⟨0x1061, 9, some .plain⟩] } }

/-- A Clock Image rewrite is owed, with the last runs of `n` rewrites in the queue. -/
def owing (n : Nat) (k : Option RewriteStep) : State :=
  { run with
    gate := { run.gate with queue := List.replicate n (.write prof.clockBase [2] (.imageEnd .clock)) },
    img := { run.img with clock := ⟨4, k, true, true, []⟩ } }

theorem meets_rewritesAreOwed :
    getImage .clock (owing 1 none) = ⟨4, none, true, true, []⟩
    ∧ rewriteDue .clock ⟨4, none, true, true, []⟩ (owing 1 none) = true
    ∧ (owing 1 none).gate.profile = some prof ∧ (owing 1 none).gate.waiters = []
    ∧ standing .clock (owing 1 none) < 2 ∧ (owing 1 none).gate.queue.length < 16
    ∧ 2 ≤ standing .clock (owing 2 none)
    ∧ getImage .clock (owing 1 (some .trail)) = ⟨4, some .trail, true, true, []⟩
    ∧ getImage .clock (owing 1 (some .lead)) = ⟨4, some .lead, true, true, []⟩ := by decide

/-- Three causes with nothing completed leave two Clock Image rewrites in the queue and a third owed
(R47). -/
theorem test_third_rewrite_waits :
    let s := giveRewrite .clock (giveRewrite .clock (giveRewrite .clock (beginImage .clock run)))
    standing .clock s = 2 ∧ s.gate.queue.length = 8 ∧ s.img.clock.owed = true := by decide

/-- At the trailing count a second carry with nothing changed makes no Tamper Area rewrite owed
(R148). -/
theorem test_no_change_no_rewrite :
    let x : Image := ⟨4, some .trail, false, true, imageFields .tamper run⟩
    (giveRewrite .tamper (setImage .tamper x run)).img.tamper.owed = false := by decide

theorem meets_postEngineServesTheQueue :
    (memoryKept (posting .plain) ∧ (posting .plain).gate.held = []
      ∧ (posting .plain).gate.done ≤ [1, 2, 3].length ∧ 0x1060 + [1, 2, 3].length ≤ 65536
      ∧ (posting .plain).sys.part = .running)
    ∧ (posting (.slotDone 3)).gate.queue = .write 0x1060 [1, 2, 3] (.slotDone 3) :: []
    ∧ (posting (.eventIndex 4)).gate.queue = .write 0x1060 [1, 2, 3] (.eventIndex 4) :: []
    ∧ ((posting (.imageEnd .clock)).gate.queue = .write 0x1060 [1, 2, 3] (.imageEnd .clock) :: []
      ∧ standing .clock (headGone (posting (.imageEnd .clock))) < 2
      ∧ (owing 1 none).img.clock.pos = none ∧ (owing 1 none).img.clock.owed = true)
    ∧ ((inLine .record (.entry (.write 5 [1] .plain))).gate.waiters
        = ⟨.record, [.entry (.write 5 [1] .plain)]⟩ :: []
      ∧ (inLine .record (.entry (.write 5 [1] .plain))).gate.queue.length < 16)
    ∧ ((inLine (.image .live) (.imageRun .live)).gate.waiters
        = ⟨.image .live, [.imageRun .live]⟩ :: []
      ∧ (inLine (.image .live) (.imageRun .live)).gate.profile = some prof
      ∧ (getImage .live (inLine (.image .live) (.imageRun .live))).pos = some .fields)
    ∧ (heldBehind.gate.held = [⟨0x1061, 9, some .plain⟩] ∧ memoryKept heldBehind
      ∧ heldBehind.sys.part = .running
      ∧ heldBehind.gate.queue = .write 0x1060 [1, 2, 3] .plain :: []) := by decide

/-- STARTING in a stage of a cold power-on, its reads ended, with `n` entries in the queue and the Record
Unit waiting with posts. -/
def stageWaits (x : Stage) (n : Nat) (l : List Offer) : State :=
  let s := inPart .starting run
  { s with
    sys := { s.sys with kind := .cold, stage := x, evDone := true, callDone := true, tallyDone := true,
                        tamperDone := true },
    gate := { s.gate with
      waiters := [⟨.record, l⟩], queue := List.replicate n (.write 0x1060 [1] .plain) } }

theorem meets_stagesAwaitTheirPosts :
    let e : Offer := .entry (.write 5 [1] .plain)
    ((stageWaits .records 14 [e]).sys.part = .starting
      ∧ (stageWaits .records 14 [e]).gate.profile = some prof
      ∧ (stageWaits .records 14 [e]).gate.waiters = [⟨.record, [e]⟩]
      ∧ (stageWaits .records 14 [e]).gate.queue.length < 15
      ∧ (stageWaits .records 14 [e]).sys.stage = .records
      ∧ (stageWaits .records 14 [e]).sys.tamperDone = true)
    ∧ (stageWaits .announce 14 [e]).sys.stage = .announce
    ∧ ((stageWaits .records 15 [e, e]).gate.waiters = ⟨.record, e :: e :: []⟩ :: []
      ∧ (stageWaits .records 15 [e, e]).gate.queue.length = 15) := by decide

/-- Stage 6 with its last post in line, the lane to be flushed or not: on-hook with no active tariff, so that
mode and closing reasons stay as they are, and the Live Image as it stands shown. -/
def lastPostWaits (flush : Bool) : State :=
  let s := stageWaits .announce 14 [.entry (.write 5 [1] .plain)]
  let s := { s with
    coin := { s.coin with mustFlush := flush, started := false }, meter := .reset,
    call := { CallCtl.reset with mode := .closed }, tariff := { s.tariff with active := none } }
  let s := { s with coin := { s.coin with reasons := closingReasons s } }
  { s with img := { s.img with live := ⟨4, none, false, true, imageFields .live s⟩ } }

theorem meets_flushAtTheEntryToRunning :
    ((lastPostWaits true).sys.part = .starting ∧ (lastPostWaits true).sys.stage = .announce
      ∧ (lastPostWaits true).gate.profile = some prof
      ∧ (lastPostWaits true).gate.waiters = [⟨.record, [.entry (.write 5 [1] .plain)]⟩]
      ∧ (lastPostWaits true).gate.queue.length < 16 ∧ (lastPostWaits true).coin.mustFlush = true
      ∧ (lastPostWaits true).img.live.on = true
      ∧ u8 (lastPostWaits true).img.live.shown 1 / 16 % 8 ≠ 4)
    ∧ (lastPostWaits false).coin.mustFlush = false
    ∧ (lastPostWaits false).coin.lane ≠ .flushing := by decide

set_option maxRecDepth 20000 in
/-- A flush begun behind PRODUCER_ADMITTED, the service mode staying as it is, has the Live Image
rewritten to show FLUSHING (R76, R87). -/
theorem test_flush_is_shown :
    does .producerAdmitted (lastPostWaits true)
      (fun s => s.coin.lane == .flushing && s.call.mode == .closed
        && s.coin.reasons == (lastPostWaits true).coin.reasons && s.img.live.pos == some .lead) := by
  decide

/-- The load begins behind the last post of stage 3, and not before (R179). -/
theorem test_load_waits_for_stage_three :
    let e : Offer := .entry (.write 5 [1] .plain)
    does .producerAdmitted (stageWaits .records 14 [e]) (fun s => s.sys.stage == .tariff)
    ∧ does .producerAdmitted (stageWaits .records 15 [e, e]) (fun s => s.sys.stage == .records) := by
  decide

/-- Arrivals alone have changed since the Live Image was last shown. -/
def staleLive : List Byte := (imageFields .live run).set 2 7

theorem meets_imageRuns :
    (2, 1) ∈ spansFrom 0 (fieldLens .live) ∧ staleLive.length = (imageFields .live run).length
    ∧ staleLive ≠ imageFields .live run
    ∧ (∀ k < 94, k < 2 ∨ 2 + 1 ≤ k → staleLive.getD k 0 = (imageFields .live run).getD k 0)
    ∧ imageRun .live prof { run.img.live with shown := staleLive } .fields run
      = .write (prof.liveBase + 1 + 2) [1] .plain := by decide

theorem meets_orderContentsArrive :
    handed (.order 3) [9, 1] (reading (.order 3) [9, 1] (order []))
    ∧ (reading (.order 3) [9, 1] (order [])).orders.busy = some 3 :=
  ⟨⟨_, _, _, rfl, rfl, by decide⟩, rfl⟩

def starting (who : Requester) (d : List Byte) : State := reading who d (inPart .starting run)

/-- A profile page that passes its checks, at page 1. -/
def page : List Byte :=
  [1, 0x12, 0x34, 0x56, 0x78, 0, 0x10, 0, 0x12, 0, 0x15, 0, 0x20, 0, 0x21, 0, 0x22, 0, 0x23, 0, 0x30,
    0, 0x40] ++ List.replicate 18 0 ++ [1, 1, 1, 0] ++ List.replicate 210 0 ++ [0xBB]

set_option maxRecDepth 20000 in
theorem meets_anchorAndProfileAreJudged :
    (handed .anchor [1, 0xFE] (starting .anchor [1, 0xFE]) ∧ roomy (starting .anchor [1, 0xFE])
      ∧ (starting .anchor [1, 0xFE]).sys.part = .starting ∧ (0xFE : Byte) = 1 ^^^ 0xFF)
    ∧ handed .anchor [0xFF, 0] (starting .anchor [0xFF, 0])
    ∧ handed (.profile true) [3] (starting (.profile true) [3])
    ∧ profileFault 1 [3] = some 0x82 ∧ profileFault 1 page = none :=
  ⟨⟨⟨_, _, _, rfl, rfl, by decide⟩, by decide, rfl, by decide⟩, ⟨_, _, _, rfl, rfl, by decide⟩,
    ⟨_, _, _, rfl, rfl, by decide⟩, by decide, by decide⟩

def withPending (r : CallRecord) (s : State) : State :=
  { s with ring := { s.ring with slot := some r } }

theorem meets_slotsAndRingHeadersAreTaken :
    (handed (.slotState 3) [2] (starting (.slotState 3) [2]) ∧ roomy (starting (.slotState 3) [2])
      ∧ (starting (.slotState 3) [2]).orders.slots[(3 : Fin 16)] ≠ .posted
      ∧ (starting (.slotState 3) [2]).sys.restart = none)
    ∧ handed (.slotState 3) [0] (starting (.slotState 3) [0])
    ∧ handed (.slotState 3) [3] (starting (.slotState 3) [3])
    ∧ handed (.slotState 3) [4] (starting (.slotState 3) [4])
    ∧ handed .eventHeader [40, 7] (starting .eventHeader [40, 7])
    ∧ (handed .callHeader [70, 6] (starting .callHeader [70, 6]) ∧ ((70 : Byte) - 6).toNat = 64)
    ∧ (handed .callHeader [70, 7] (withPending rec_ (starting .callHeader [70, 7]))
      ∧ roomy (withPending rec_ (starting .callHeader [70, 7]))
      ∧ (withPending rec_ (starting .callHeader [70, 7])).ring.slot = some rec_
      ∧ ((70 : Byte) - 7).toNat ≠ 64) :=
  ⟨⟨⟨_, _, _, rfl, rfl, by decide⟩, by decide, by decide, rfl⟩, ⟨_, _, _, rfl, rfl, by decide⟩,
    ⟨_, _, _, rfl, rfl, by decide⟩, ⟨_, _, _, rfl, rfl, by decide⟩, ⟨_, _, _, rfl, rfl, by decide⟩,
    ⟨⟨_, _, _, rfl, rfl, by decide⟩, by decide⟩,
    ⟨⟨_, _, _, rfl, rfl, by decide⟩, by decide, rfl, by decide⟩⟩

/-- `page` with every timing parameter at the lower bound of its range. -/
def leastPage : List Byte :=
  page.take 86 ++ [100, 0, 200, 0, 1, 0, 1, 0, 4, 0, 10, 0, 30, 0, 1, 0, 30, 0, 10, 0, 1, 0, 30, 0]
    ++ page.drop 110

set_option maxRecDepth 20000 in
/-- A profile with no field out of its range, and one with. -/
theorem meets_clampedFields : leastPage.length = 256 ∧ ¬ someFieldOut leastPage
    ∧ someFieldOut (leastPage.set 44 4) := by
  and_intros <;> decide

/-- The page with one byte put in place and its checksum made right again. -/
def pageWith (i : Nat) (v last : Byte) : List Byte := (page.set i v).set 255 last

set_option maxRecDepth 20000 in
/-- A page for each check of R4, in their order, which fails that check and passes those before it. -/
theorem meets_profileChecks :
    (page.length = 256 ∧ (page.map (·.toNat)).sum % 256 = 0 ∧ u8 page 0 = 1)
    ∧ areasFit 1 page ∧ classesFit page ∧ stationFits page ∧ emergencyFits page
    ∧ ((page.set 255 0).map (·.toNat)).sum % 256 ≠ 0
    ∧ (((pageWith 0 2 0xBA).map (·.toNat)).sum % 256 = 0 ∧ u8 (pageWith 0 2 0xBA) 0 ≠ 1)
    ∧ (((pageWith 6 0x12 0xB9).map (·.toNat)).sum % 256 = 0 ∧ ¬ areasFit 1 (pageWith 6 0x12 0xB9))
    ∧ (((pageWith 25 1 0xBA).map (·.toNat)).sum % 256 = 0 ∧ areasFit 1 (pageWith 25 1 0xBA)
      ∧ ¬ classesFit (pageWith 25 1 0xBA))
    ∧ (((pageWith 1 0x1A 0xB3).map (·.toNat)).sum % 256 = 0 ∧ areasFit 1 (pageWith 1 0x1A 0xB3)
      ∧ classesFit (pageWith 1 0x1A 0xB3) ∧ ¬ stationFits (pageWith 1 0x1A 0xB3))
    ∧ (((pageWith 70 1 0xBA).map (·.toNat)).sum % 256 = 0 ∧ areasFit 1 (pageWith 70 1 0xBA)
      ∧ classesFit (pageWith 70 1 0xBA) ∧ stationFits (pageWith 70 1 0xBA)
      ∧ ¬ emergencyFits (pageWith 70 1 0xBA)) := by
  and_intros <;> decide

/-- An image whose change counts are `n` and `m`, its fields zeros. -/
def image (len : Nat) (n m : Byte) : List Byte := n :: List.replicate len 0 ++ [m]

set_option maxRecDepth 20000 in
theorem meets_tallyAndTamperAreaAreTaken :
    (handed (.tally true) (image 190 4 4) (starting (.tally true) (image 190 4 4))
      ∧ (image 190 4 4).getD 0 0 = (image 190 4 4).getD 191 0)
    ∧ (handed (.tally true) (image 190 5 4) (starting (.tally true) (image 190 5 4))
      ∧ (image 190 5 4).getD 0 0 ≠ (image 190 5 4).getD 191 0)
    ∧ (handed (.tamper true) (image 142 4 4) (starting (.tamper true) (image 142 4 4))
      ∧ tamperGood (image 142 4 4) = true)
    ∧ (handed (.tamper true) (image 142 4 5) (starting (.tamper true) (image 142 4 5))
      ∧ tamperGood (image 142 4 5) = false) :=
  ⟨⟨⟨_, _, _, rfl, rfl, by decide⟩, by decide⟩, ⟨⟨_, _, _, rfl, rfl, by decide⟩, by decide⟩,
    ⟨⟨_, _, _, rfl, rfl, by decide⟩, by decide⟩, ⟨⟨_, _, _, rfl, rfl, by decide⟩, by decide⟩⟩

set_option maxRecDepth 20000 in
/-- The field codes that the readers of the Tally and Tamper Areas tell apart. -/
theorem meets_areaReaders :
    (∀ v : Fin 4, u8 ((image 190 4 4).set 98 (BitVec.ofNat 8 v.val)) 98 = v.val)
    ∧ u8 ((image 190 4 4).set 99 2) 99 % 128 = 2 ∧ u8 ((image 190 4 4).set 123 1) 123 % 64 = 1
    ∧ (readTally ((image 190 4 4).set 123 1)).history.head? ≠ none
    ∧ tamperGood ((image 142 4 4).set 16 3) = false
    ∧ (∀ v : Fin 4, u8 ((image 142 4 4).set 30 (BitVec.ofNat 8 v.val)) 30 = v.val) := by
  and_intros <;> decide

/-- A finished Live Image of an idle station. -/
def liveBytes : List Byte := 4 :: liveFields { run with img := { run.img with final := true } } ++ [4]

/-- A usable Live Image of a seized call, with a record pending or none. -/
def liveBoth (pend : Option CallRecord) : List Byte :=
  4 :: liveFields { withCall { paid with seized := true } run with
    img := { run.img with final := true }, ring := { run.ring with slot := pend } } ++ [4]

def readingLive (pend : Option CallRecord) (unread : Byte) : State :=
  { starting (.live true) (liveBoth pend) with ring := { run.ring with w := unread, r := 0 } }

theorem meets_seizedCallBehindAPending :
    (handed (.live true) (liveBoth (some rec_)) (readingLive (some rec_) 62)
      ∧ liveGood (liveBoth (some rec_)) = true ∧ u8 (liveBoth (some rec_)) 57 / 8 % 2 = 1
      ∧ 128 ≤ u8 (liveBoth (some rec_)) 75)
    ∧ ((62 : Byte) - 0).toNat < 63 ∧ ((63 : Byte) - 0).toNat = 63 ∧ 64 ≤ ((64 : Byte) - 0).toNat
    ∧ (handed (.live true) (liveBoth none) (readingLive none 64)
      ∧ liveGood (liveBoth none) = true ∧ u8 (liveBoth none) 57 / 8 % 2 = 1
      ∧ u8 (liveBoth none) 75 < 128) :=
  ⟨⟨⟨_, _, _, rfl, rfl, by decide⟩, by decide, by decide, by decide⟩, by decide, by decide, by decide,
    ⟨_, _, _, rfl, rfl, by decide⟩, by decide, by decide, by decide⟩

theorem meets_liveImageIsRestored :
    (handed (.live true) liveBytes (starting (.live true) liveBytes) ∧ liveGood liveBytes = true)
    ∧ (handed (.live true) (image 94 4 6) (starting (.live true) (image 94 4 6))
      ∧ liveGood (image 94 4 6) = false) :=
  ⟨⟨⟨_, _, _, rfl, rfl, by decide⟩, by decide⟩, ⟨⟨_, _, _, rfl, rfl, by decide⟩, by decide⟩⟩

/-- Stage 4 under way, its read at the head. -/
def stageFour (bs : List Byte) : State :=
  let s := starting (.live true) bs
  { s with sys := { s.sys with stage := .live } }

theorem meets_stageFourEnds :
    (handed (.live true) liveBytes (stageFour liveBytes) ∧ (stageFour liveBytes).sys.part = .starting)
    ∧ handed (.live true) (image 94 4 6) (stageFour (image 94 4 6))
    ∧ (stageFour liveBytes).sys.stage = .live ∧ (stageFour liveBytes).gate.waiters = []
    ∧ (stageFour liveBytes).gate.queue.length ≤ 5 :=
  ⟨⟨⟨_, _, _, rfl, rfl, by decide⟩, rfl⟩, ⟨_, _, _, rfl, rfl, by decide⟩, rfl, rfl, by decide⟩

/-- `liveBytes` with bytes put in place. -/
def liveWith (l : List (Nat × Byte)) : List Byte := l.foldl (fun bs x => bs.set x.1 x.2) liveBytes

/-- A seized call in progress and a pending record in a Live Image: bytes 57 and 75. -/
theorem meets_liveImageRecords :
    (liveGood liveBytes = true ∧ u8 liveBytes 57 / 8 % 2 = 0 ∧ u8 liveBytes 75 < 128
      ∧ u8 liveBytes 2 / 16 % 8 = 0 ∧ 128 ≤ u8 liveBytes 1)
    ∧ (∀ i : Fin 6, run.tally.classes[i].collected + run.tally.classes[i].returned
        + run.tally.classes[i].cleared + 10 ≤ 65535)
    ∧ (liveGood (liveWith [(2, 0x80)]) = true ∧ 128 ≤ u8 (liveWith [(2, 0x80)]) 2)
    ∧ (liveGood (liveWith [(57, 0x09)]) = true ∧ u8 (liveWith [(57, 0x09)]) 57 / 8 % 2 = 1
      ∧ u8 (liveWith [(57, 0x09)]) 57 % 8 = 1 ∧ u8 (liveWith [(57, 0x09)]) 1 % 16 ≠ 8
      ∧ (run.ring.w - run.ring.r).toNat < 64)
    ∧ u8 (liveWith [(57, 0x09), (1, 0x88)]) 1 % 16 = 8
    ∧ (liveGood (liveWith [(75, 0x89)]) = true ∧ 128 ≤ u8 (liveWith [(75, 0x89)]) 75
      ∧ u8 (liveWith [(75, 0x89)]) 57 / 8 % 2 = 0)
    ∧ 64 ≤ ((pendingRing 64 rec_).ring.w - (pendingRing 64 rec_).ring.r).toNat
    ∧ (escrowCount (liveWith [(4, 1), (6, 4)]) = 1 ∧ 1 ≤ u8 (liveWith [(4, 1), (6, 4)]) 4
      ∧ (liveEscrow run.cal.time (liveWith [(4, 1), (6, 4)])).length = 1) := by
  and_intros <;> decide

set_option maxRecDepth 20000 in
/-- Usable images of an undecided seized call, of a lane found FLUSHING beside an OPEN purse (log 56), with
arrival counter 0 (log 57), and with C above D (log 59). -/
theorem meets_liveImageOddities :
    (liveGood (liveWith [(57, 0x08)]) = true ∧ u8 (liveWith [(57, 0x08)]) 57 % 8 = 0
      ∧ u8 (liveWith [(57, 0x08)]) 1 % 16 ≠ 8)
    ∧ (liveGood (liveWith [(2, 0x41)]) = true ∧ bitsOf (natAt (liveWith [(2, 0x41)]) 2) 4 3 = 4
      ∧ (livePurse (liveWith [(2, 0x41)])).state = .opened)
    ∧ (liveGood (liveWith [(3, 0)]) = true ∧ natAt (liveWith [(3, 0)]) 3 = 0)
    ∧ (liveGood (liveWith [(2, 0x01), (12, 9)]) = true
      ∧ u24 (liveWith [(2, 0x01), (12, 9)]) 9 < u24 (liveWith [(2, 0x01), (12, 9)]) 12) := by
  and_intros <;> decide

set_option maxRecDepth 20000 in
/-- An image found FLUSHING leaves the lane to be flushed, over an emptied list (R184). -/
theorem test_flushing_image_flushes_again :
    does .liveImageRead (starting (.live true) (liveWith [(2, 0x40), (4, 1), (6, 4)]))
      (fun s => s.coin.mustFlush && s.coin.escrow.isEmpty) := by decide

/-- A bank of one free zone; its sum is right when `ok`. -/
def bank (ok : Bool) : List Byte :=
  [5, 0, 1, 0, 0, 0, 5, 0, if ok then 36 else 35, 0, 0, 0, 0, 0, 0, 0]
    ++ [3, 0, 0, 0, 0, 10, 0, 0, 0, 12, 0, 0]

/-- `bank true` in its full length, with bytes put in place and the sum made right again. -/
def fullBank (l : List (Nat × Byte)) : List Byte :=
  let bs := l.foldl (fun bs x => bs.set x.1 x.2) (bank true ++ List.replicate 2020 0)
  let k := ((bs.take 8 ++ bs.drop 10).map (·.toNat)).sum
  (bs.set 8 (BitVec.ofNat 8 k)).set 9 (BitVec.ofNat 8 (k / 256))

def sumRight (bs : List Byte) : Bool :=
  ((bs.take 8 ++ bs.drop 10).map (·.toNat)).sum % 65536 == u16 bs 8

/-- Two equal prefix entries, and a band entry, of zone 0. -/
def twoPrefixes : List (Nat × Byte) :=
  [(3, 2), (4, 1), (208, 2), (209, 0x21), (214, 2), (215, 0x21)]

set_option maxRecDepth 40000 in
/-- A bank for each section and entry of R55's checks, in their order. -/
theorem meets_bankChecks :
    ((fullBank []).length = 2048 ∧ sumRight (fullBank []) = true ∧ headerFits (fullBank [])
      ∧ zoneFits (fullBank []) 0)
    ∧ u8 (fullBank [(2, 0)]) 2 < 1 ∧ 128 < u8 (fullBank [(3, 129)]) 3
    ∧ 16 < u8 (fullBank [(4, 17)]) 4 ∧ u8 (fullBank [(6, 0)]) 6 < 1
    ∧ u8 (fullBank [(5, 1)]) 2 ≤ u8 (fullBank [(5, 1)]) 5
    ∧ (headerFits (fullBank [(16, 5)]) ∧ ¬ zoneFits (fullBank [(16, 5)]) 0)
    ∧ (headerFits (fullBank [(3, 1)]) ∧ zoneFits (fullBank [(3, 1)]) 0
      ∧ ¬ prefixFits (fullBank [(3, 1)]) 0)
    ∧ (headerFits (fullBank twoPrefixes) ∧ prefixFits (fullBank twoPrefixes) 0
      ∧ prefixFits (fullBank twoPrefixes) 1 ∧ prefixesEqual (fullBank twoPrefixes) 0 1)
    ∧ (bandFits (fullBank [(4, 1)]) 0 ∧ ¬ bandFits (fullBank [(4, 1), (976, 128)]) 0) := by
  and_intros <;> decide

def loading (d : List Byte) : State :=
  at_ .talking { reading (.bank true) d run with
    tariff := { run.tariff with swap := .loading .b none ⟨3, 9⟩ } }

def startLoading (d : List Byte) : State :=
  { starting (.bank true) d with tariff := { run.tariff with startLoad := some .b, swap := .idle } }

theorem meets_bankLoadEnds :
    (handed (.bank true) (bank false) (loading (bank false)) ∧ roomy (loading (bank false))
      ∧ bankFault (bank false) = some (1, 0))
    ∧ (handed (.bank true) (bank true) (loading (bank true)) ∧ bankFault (bank true) = none
      ∧ (loading (bank true)).call.station = .talking)
    ∧ ((at_ .idle (loading (bank true))).call.station = .idle
      ∧ (loading (bank true)).ring.slot = none
      ∧ (run.cal.valid = true ∧ (⟨24, 1, 1, 0, 0, 0⟩ : FullTime).le run.cal.time = true)
      ∧ (⟨25, 1, 1, 0, 0, 0⟩ : FullTime).le run.cal.time = false)
    ∧ (handed (.bank true) (bank true) (startLoading (bank true))
      ∧ (startLoading (bank true)).sys.part = .starting
      ∧ (startLoading (bank true)).tariff.startLoad = some .b
      ∧ (startLoading (bank true)).tariff.swap = .idle
      ∧ (startLoading (bank true)).gate.queue.length ≤ 4) :=
  ⟨⟨⟨_, _, _, rfl, rfl, by decide⟩, by decide, by decide⟩,
    ⟨⟨_, _, _, rfl, rfl, by decide⟩, by decide, rfl⟩, ⟨rfl, rfl, by decide, by decide⟩,
    ⟨⟨_, _, _, rfl, rfl, by decide⟩, rfl, rfl, rfl, by decide⟩⟩

/-- STARTING, the Live Image judged. -/
def restoring : State :=
  { inPart .starting run with
    sys := { (inPart .starting run).sys with kind := .restoration, imageTaken := true } }

theorem meets_powerFailureAndResetStopThePart :
    (run.sys.part = .running ∧ run.gate.profile = some prof)
    ∧ (inPart .dark run).sys.part = .dark ∧ run.sys.part ≠ .dark
    ∧ (inPart .failing run).sys.part = .failing
    ∧ (restoring.sys.part = .starting ∧ restoring.sys.imageTaken = true
      ∧ restoring.gate.profile = some prof)
    ∧ (unconfigured.sys.part = .unconfigured ∧ unconfigured.gate.queue = [])
    ∧ ((inPart .starting run).sys.kind ≠ .soft ∧ (inPart .starting run).sys.imageTaken = false)
    ∧ (posting .plain).gate.queue = .write 0x1060 [1, 2, 3] .plain :: [] := by decide

theorem meets_darkEndsAndTheBatteryIsNoted :
    (inPart .dark run).sys.part = .dark
    ∧ { run with gate := { run.gate with pwrgood := false } }.gate.pwrgood = false
    ∧ run.gate.pwrgood = true := by decide

/-! #### Orders -/

def queued : State := { run with orders := { run.orders with queue := [3, 5] } }

theorem meets_ordersAreTakenOrUnknown :
    (queued.sys.part = .running ∧ queued.orders.busy = none ∧ queued.orders.queue = 3 :: [5]
      ∧ queued.gate.profile = some prof ∧ roomy queued)
    ∧ (orderAt 16 3 [16] (order [16]) ∧ roomy (order [16]) ∧ 15 < 16)
    ∧ orderAt 0 3 [0] (order [0]) := by decide

def visiting (k : VisitKind) (s : State) : State :=
  { s with visit := { Visit.none with state := .doorOpen, kind := k },
           tamper := { s.tamper with visitKind := some k } }

/-- A purse HELD with the lane jammed. -/
def heldJammed (s : State) : State :=
  { s with meter := { s.meter with purse := ⟨.held, 20, 0, 0, 0, 0, .laneJammed⟩ } }

theorem meets_unavailableOrderIsNotNow :
    run.gate.profile ≠ none ∧ roomy run ∧ orderAt 1 3 [1] (order [1]) ∧ orderAt 2 3 [2] (order [2])
    ∧ orderAt 3 3 [3] (order [3]) ∧ orderAt 4 3 [4] (order [4]) ∧ orderAt 5 3 [5] (order [5])
    ∧ run.call.station = .idle
    ∧ (orderAt 9 3 [9] (at_ .ready (order [9])) ∧ (at_ .ready (order [9])).call.station ≠ .idle)
    ∧ (orderAt 9 3 [9] (purse .opened 20 0 (order [9]))
      ∧ (purse .opened 20 0 (order [9])).meter.purse.state = .opened)
    ∧ (orderAt 9 3 [9] (visiting .service (order [9]))
      ∧ (visiting .service (order [9])).visit.state ≠ .closed)
    ∧ (orderAt 9 3 [9] (purse .settling 20 0 (order [9]))
      ∧ (purse .settling 20 0 (order [9])).meter.purse.state = .settling)
    ∧ (orderAt 9 3 [9] (purse .held 20 0 (order [9]))
      ∧ (purse .held 20 0 (order [9])).meter.purse.hold ≠ .laneJammed)
    ∧ (orderAt 9 3 [9] (heldJammed (visiting .service (order [9])))
      ∧ (heldJammed (visiting .service (order [9]))).meter.purse.hold = .laneJammed
      ∧ (heldJammed (visiting .service (order [9]))).visit.state ≠ .closed)
    ∧ (orderAt 13 3 [13] (visiting .collection (order [13]))
      ∧ (visiting .collection (order [13])).visit.kind = .collection)
    ∧ (orderAt 13 3 [13] (order [13]) ∧ (order [13]).visit.state = .closed)
    ∧ (orderAt 13 3 [13] (visiting .service (order [13]))
      ∧ (visiting .service (order [13])).visit.kind = .service
      ∧ (order [13]).coin.lane ≠ .jammed ∧ (order [13]).coin.uncertain = false)
    ∧ orderAt 15 3 [15] (at_ .ready (order [15]))
    ∧ orderAt 15 3 [15] (purse .opened 20 0 (order [15]))
    ∧ orderAt 15 3 [15] (visiting .service (order [15]))
    ∧ { order [15] with call := { run.call with claim := .report } }.call.claim = .report := by
  and_intros <;> decide

theorem meets_dialStartsACall :
    (orderAt 1 3 [1, 9, 1, 0, 5] (at_ .ready (order [1, 9, 1, 0, 5]))
      ∧ noReport (at_ .ready (order [1, 9, 1, 0, 5]))
      ∧ (at_ .ready (order [1, 9, 1, 0, 5])).line.state = .released
      ∧ dialDigits [1, 9, 1, 0, 5] = [5] ∧ natAt [1, 9, 1, 0, 5] 2 ≤ 24
      ∧ natAt [1, 9, 1, 0, 5] 3 = 0)
    ∧ (∀ l x, l ++ [x] <+: [5] → analyseDigit prof (run.tariff.active.map (·.2)) (l ++ [x]) x = none)
    := by
  refine ⟨by decide, fun l x h => ?_⟩
  rcases l with _ | ⟨a, l⟩
  · simp at h; subst h; decide
  · have := h.length_le; simp at this

/-- A DIAL's 28 bytes with `n` codes, packed two a byte. -/
def dial (code n : Byte) (codes : List Byte) : List Byte :=
  ([code, 9, n, 0] ++ codes ++ List.replicate 24 0).take 28

/-- DIAL's refusals, each with the first offset at fault (R95, R96), in READY and in REPORTING. -/
theorem meets_badDigits :
    (orderAt 1 3 (dial 1 25 []) (at_ .ready (order (dial 1 25 []))) ∧ (dial 1 25 []).length = 28
      ∧ 24 < u8 (dial 1 25 []) 2)
    ∧ (u8 (dial 1 3 [0x21, 0x0D]) 2 = 3 ∧ 12 < digitCode (dial 1 3 [0x21, 0x0D]) 4 2
      ∧ ∀ j < 2, digitCode (dial 1 3 [0x21, 0x0D]) 4 j ≤ 12)
    ∧ ((∀ j < 3, digitCode (dial 2 3 [0x21, 0x0A]) 4 j ≤ 12)
      ∧ digitCode (dial 2 3 [0x21, 0x0A]) 4 2 = 10
      ∧ ∀ j < 2, digitCode (dial 2 3 [0x21, 0x0A]) 4 j ≠ 10
          ∧ digitCode (dial 2 3 [0x21, 0x0A]) 4 j ≠ 11)
    ∧ { prof with pulse := true }.pulse = true
    ∧ orderAt 2 3 (dial 2 25 []) (at_ .creditWait (order (dial 2 25 []))) := by
  decide

/-- DIAL of an emergency number, and of another, in REPORTING (R109). -/
theorem meets_dialInReporting :
    (orderAt 1 3 (dial 1 3 [0x99, 0x09])
        (at_ .reporting { order (dial 1 3 [0x99, 0x09]) with
          call := { run.call with hook := true }, line := { run.line with state := .connected } })
      ∧ dialDigits (dial 1 3 [0x99, 0x09]) = [9, 9, 9]
      ∧ [9, 9, 9].filter (fun x => x != 12) ∈ prof.emergency)
    ∧ (dialDigits (dial 1 1 [5]) = [5] ∧ [5].filter (fun x => x != 12) ∉ prof.emergency)
    ∧ (order (dial 1 1 [5])).call.hook = false := by
  decide

/-- The last digit decides: an emergency number, no tariff, and zones of each kind (R63, R64, R99). -/
theorem meets_lastDigitDecides :
    (noReport (at_ .ready (order (dial 1 3 [0x99, 0x09]))) ∧ run.call.cur = none
      ∧ [9, 9, 9] = [9, 9] ++ [9]
      ∧ (∀ l' y, l' ++ [y] <+: [9, 9] → analyseDigit prof (some tab) (l' ++ [y]) y = none)
      ∧ analyseDigit prof (some tab) [9, 9, 9] 9 = some .emergency)
    ∧ analyseDigit prof none [5] 5 = some .noTariff
    ∧ (analyseDigit prof (some tab) [1] 1 = some (.zone 0)
      ∧ tab.zones[0]? = some ⟨.timed, 5, 10, 600, 60, 8⟩
      ∧ 5 + unitCharge 10 (tab.mults.getD 0 100) tab.q = 15)
    ∧ (analyseDigit prof (some tab) [5] 5 = none
      ∧ analyseDigit prof (some tab) [5, 5] 5 = some (.zone 1)
      ∧ tab.zones[1]? = some ⟨.free, 0, 0, 600, 0, 8⟩)
    ∧ (analyseDigit prof (some tab) [7] 7 = some (.zone 2)
      ∧ tab.zones[2]? = some ⟨.barred, 0, 0, 600, 0, 8⟩)
    ∧ 15 ≤ (purse .opened 20 0 run).meter.purse.d - (purse .opened 20 0 run).meter.purse.c
    ∧ run.meter.purse.d - run.meter.purse.c < 15 := by
  refine ⟨⟨by decide, rfl, rfl, fun l' y h => ?_, by decide⟩, by decide⟩
  have := List.prefix_iff_eq_take.mp h
  rcases l' with _ | ⟨a, _ | ⟨b, l'⟩⟩
  · simp at this; subst this; decide
  · simp at this; obtain ⟨rfl, rfl⟩ := this; decide
  · have := h.length_le; simp at this

/-- Prefixes of `tab`: none, an emergency number's, and the longest of those that match (R66). -/
theorem meets_analysis :
    [9] ∉ prof.emergency ∧ (∃ e ∈ prof.emergency, [9] <+: e ∧ e ≠ [])
    ∧ (∀ e ∈ prof.emergency, e ≠ [] → ¬ [5] <+: e)
    ∧ (∃ e ∈ tab.prefixes, [5] <+: e.digits ∧ [5] ≠ e.digits)
    ∧ (∀ e ∈ tab.prefixes, [5, 5] <+: e.digits → [5, 5] = e.digits)
    ∧ (∀ e ∈ tab.prefixes, ¬ e.digits <+: [1])
    ∧ ((⟨[7], 2⟩ : Prefix) ∈ tab.prefixes ∧ [7] <+: [7, 7]
      ∧ ∀ f ∈ tab.prefixes, f.digits <+: [7, 7] → f.digits.length < 1 ∨ (f.digits = [7] ∧ f.zone = 2))
    := by
  decide

def dialMoreAt (x : Station) (c : CallInfo) (sender : Option Sending) : State :=
  at_ x { withCall c (order [2, 9, 1, 0, 5]) with line := { run.line with sender := sender } }

theorem meets_dialMoreAddsDigits :
    (orderAt 2 3 [2, 9, 1, 0, 5] (dialMoreAt .dialling open_ none)
      ∧ (dialMoreAt .dialling open_ none).line.state ≠ .sending ∧ open_.decided = false
      ∧ open_.complete = false ∧ noReport (dialMoreAt .dialling open_ none)
      ∧ (dialMoreAt .dialling open_ none).call.cur = some open_)
    ∧ (∀ l x, l ++ [x] <+: [5] →
      analyseDigit prof (run.tariff.active.map (·.2)) (open_.number ++ l ++ [x]) x = none)
    ∧ (orderAt 2 3 [2, 9, 1, 0, 5] (dialMoreAt .talking paid (some ⟨4, .gap, 0, 80⟩))
      ∧ (dialMoreAt .talking paid (some ⟨4, .gap, 0, 80⟩)).line.sender ≠ none) := by
  refine ⟨by decide, fun l x h => ?_, by decide⟩
  rcases l with _ | ⟨a, l⟩
  · simp at h; subst h; decide
  · have := h.length_le; simp at this

def coins (l : List EscrowEntry) (s : State) : State := { s with coin := { s.coin with escrow := l } }

def coin20 : EscrowEntry := ⟨2, 20, 1, epoch⟩

theorem meets_returnCoinsAndNextCallEndTheAttempt :
    (orderAt 3 3 [3] (at_ .ready (order [3])) ∧ noReport (at_ .ready (order [3]))
      ∧ (at_ .ready (order [3])).meter.purse.state ≠ .opened)
    ∧ (orderAt 3 3 [3] (at_ .ready (purse .opened 20 0 (coins [coin20] (order [3]))))
      ∧ (purse .opened 20 0 (coins [coin20] (order [3]))).coin.escrow = coin20 :: []
      ∧ (purse .opened 20 0 (coins [coin20] (order [3]))).coin.started = true
      ∧ (purse .opened 20 0 (coins [coin20] (order [3]))).coin.lane = .clear ∧ coin20.cls ≠ 0)
    ∧ (orderAt 3 3 [3] (at_ .ready (purse .opened 20 0 (order [3])))
      ∧ (purse .opened 20 0 (order [3])).coin.escrow = [])
    ∧ (orderAt 3 3 [3] (at_ .ringback (withCall paid (purse .opened 20 0 (order [3]))))
      ∧ (withCall paid (purse .opened 20 0 (order [3]))).call.cur ≠ none)
    ∧ (orderAt 4 3 [4] (at_ .talking (withCall paid (purse .opened 20 0 (order [4]))))
      ∧ noReport (at_ .talking (withCall paid (purse .opened 20 0 (order [4]))))
      ∧ (withCall paid (order [4])).call.cur ≠ none
      ∧ (order [4]).call.cur.any (·.settleDue) = false) := by decide

def ringing (off : Bool) : State :=
  at_ .ringIn { order [5] with call := { run.call with hook := off, hookTimer := due },
                               pins := { run.pins with hook := true } }

theorem meets_incomingCallIsAnswered :
    (orderAt 5 3 [5] (ringing true) ∧ noReport (ringing true) ∧ roomy (ringing true)
      ∧ (ringing true).call.hook = true)
    ∧ (orderAt 5 3 [5] (ringing false) ∧ (ringing false).call.hook = false
      ∧ timerDue (ringing false).call.hookTimer = true ∧ (ringing false).pins.hook = true) := by
  decide

def setTime (month : Byte) : List Byte := [6, 9, 24, month, 15, 12, 30, 0]

theorem meets_clockOrdersSetTheTime :
    (orderAt 6 3 (setTime 13) (order (setTime 13)) ∧ timeFault (readFull (setTime 13) 2) = some 1)
    ∧ (orderAt 6 3 (setTime 3) (order (setTime 3)) ∧ timeFault (readFull (setTime 3) 2) = none
      ∧ run.tariff.swap = .idle)
    ∧ (orderAt 7 3 [7] (order [7]) ∧ (order [7]).cal.time.second = 0)
    ∧ (clock ⟨24, 3, 15, 11, 0, 29⟩).cal.time.second < 30
    ∧ 30 ≤ (clock ⟨24, 3, 15, 11, 58, 30⟩).cal.time.second
    ∧ (clock ⟨24, 3, 15, 22, 59, 30⟩).cal.time.hour < 23
    ∧ (clock ⟨24, 2, 28, 23, 59, 30⟩).cal.time.day < monthLength 24 2
    ∧ ((clock ⟨24, 2, 29, 23, 59, 30⟩).cal.time.day = monthLength 24 2
      ∧ (clock ⟨24, 2, 29, 23, 59, 30⟩).cal.time.month < 12)
    ∧ (clock ⟨98, 12, 31, 23, 59, 30⟩).cal.time.year < 99
    ∧ (clock ⟨99, 12, 31, 23, 59, 30⟩).cal.time.year = 99 := by decide

def swap (b month : Byte) : List Byte := [8, 9, b, 24, month, 1, 0, 0, 0]

theorem meets_swapTariffLoadsTheBank :
    orderAt 8 3 (swap 3 1) (order (swap 3 1)) ∧ natAt (swap 3 1) 2 ≠ 1 ∧ natAt (swap 3 1) 2 ≠ 2
    ∧ bankOf (natAt (swap 2 1) 2) = some .b ∧ bankOf (natAt (swap 1 1) 2) = some .a
    ∧ (loading []).tariff.swap = .loading .b none ⟨3, 9⟩
    ∧ run.tariff.active = some (.a, tab)
    ∧ timeFault (readFull (swap 2 13) 3) = some 1 ∧ timeFault (readFull (swap 2 1) 3) = none := by
  decide

theorem meets_visitOrdersOpenAndClose :
    (orderAt 9 3 [9, 9, 3] (order [9, 9, 3]) ∧ (order [9, 9, 3]).call.station = .idle
      ∧ (order [9, 9, 3]).visit.state = .closed
      ∧ (order [9, 9, 3]).meter.purse.state = .absent)
    ∧ { run with meter :=
          { run.meter with purse := ⟨.held, 20, 0, 0, 0, 0, .laneJammed⟩ } }.meter.purse.hold
      = .laneJammed
    ∧ (orderAt 9 3 [9, 9, 1, 0x21, 0x43] (order [9, 9, 1, 0x21, 0x43])
      ∧ (∀ x ∈ codesAt [9, 9, 1, 0x21, 0x43] 3 2, x ≤ 9) ∧ run.tamper.case.isOpen = false
      ∧ (getChan .case run).state ≠ .active)
    ∧ (orderAt 10 3 [10] (order [10]) ∧ (order [10]).visit.state = .closed)
    ∧ (orderAt 10 3 [10] (visiting .service (order [10])) ∧ run.tamper.door.isOpen = false
      ∧ (getChan .door run).state ≠ .active) := by decide

def chan (ch : Channel) (x : ChanState) (s : State) : State :=
  setChan ch { getChan ch s with state := x } s

theorem meets_clearTamperQuietsTheChannel :
    (orderAt 11 3 [11, 9, 9] (order [11, 9, 9]) ∧ 8 < natAt [11, 9, 9] 2)
    ∧ (orderAt 11 3 [11, 9, 5] (order [11, 9, 5]) ∧ natAt [11, 9, 5] 2 = channelCode .slot
      ∧ (getChan .slot (order [11, 9, 5])).state = .quiet ∧ run.report.phase = .noCall)
    ∧ (getChan .slot (chan .slot .active (order [11, 9, 5]))).state = .active
    ∧ (getChan .slot (chan .slot .latched (order [11, 9, 5]))).state = .latched := by decide

def reports (l : List ReportEntry) (s : State) : State :=
  { s with report := { s.report with queue := l } }

def entry (code : Nat) : ReportEntry := ⟨code, 2, ⟨3, 15, 10, 0, 0⟩, false, false, false⟩

/-- The round FAILED with the report of channel 4. -/
def roundFailed (s : State) : State :=
  { s with report := { s.report with queue := [{ entry 4 with failed := true }], round := .failed } }

theorem meets_reportNowQueuesATest :
    (orderAt 12 3 [12] (reports [entry 9] (order [12]))
      ∧ ∃ e ∈ (reports [entry 9] (order [12])).report.queue, e.code = 9)
    ∧ (orderAt 12 3 [12] (reports [entry 4] (order [12]))
      ∧ ∀ e ∈ (reports [entry 4] (order [12])).report.queue, e.code ≠ 9 ∧ e.failed = false)
    ∧ (orderAt 12 3 [12] (roundFailed (order [12])) ∧ (roundFailed (order [12])).report.round ≠ .inRound
      ∧ (∀ e ∈ (roundFailed (order [12])).report.queue, e.code ≠ 9)
      ∧ ∃ e ∈ (roundFailed (order [12])).report.queue, e.failed = true) := by
  decide

def lane (x : LaneState) (s : State) : State := { s with coin := { s.coin with lane := x } }

theorem meets_clearLaneEmptiesIt :
    (orderAt 13 3 [13] (lane .jammed (visiting .service (order [13])))
      ∧ (visiting .service (order [13])).visit.state ≠ .closed
      ∧ (visiting .service (order [13])).visit.kind = .service
      ∧ (lane .jammed (order [13])).coin.lane = .jammed)
    ∧ (lane .toBox { run with coin := { run.coin with uncertain := true } }).coin.uncertain = true
    ∧ (lane .toBox (order [13])).coin.lane = .toBox := by decide

theorem meets_serviceOrdersTheClosure :
    (orderAt 14 3 [14, 9, 3] (order [14, 9, 3]) ∧ natAt [14, 9, 3] 2 ≠ 1 ∧ natAt [14, 9, 3] 2 ≠ 2)
    ∧ (orderAt 14 3 [14, 9, 1] (order [14, 9, 1]) ∧ natAt [14, 9, 1] 2 = 1
      ∧ (order [14, 9, 1]).call.ordered ≠ true)
    ∧ (orderAt 14 3 [14, 9, 2] (order [14, 9, 2]) ∧ natAt [14, 9, 2] 2 = 2
      ∧ (order [14, 9, 2]).call.ordered = false)
    ∧ liveGood liveBytes = true := by decide

theorem meets_restartIsAccepted :
    orderAt 15 3 [15, 9] (order [15, 9]) ∧ (order [15, 9]).call.station = .idle
    ∧ (order [15, 9]).meter.purse.state = .absent ∧ (order [15, 9]).visit.state = .closed
    ∧ (order [15, 9]).call.claim ≠ .report
    ∧ (slots .posted).orders.slots[(3 : Fin 16)] = .posted ∧ (5 : Fin 16) ≠ 3
    ∧ (slots .taken).orders.slots[(3 : Fin 16)] = .taken
    ∧ (slots .done).orders.slots[(3 : Fin 16)] ≠ .posted
    ∧ (slots .done).orders.slots[(3 : Fin 16)] ≠ .taken
    ∧ (order [15, 9]).gate.waiters = [] ∧ (order [15, 9]).gate.queue = []
    ∧ (lane .toBox run).coin.lane ≠ .flushing := by decide

/-! #### Events, coins, visits, levels -/

/-- The SLOT condition about to end, as the step's only event. -/
def slotEnding (r : RingIndex) : State :=
  let s := chan .slot .active run
  { s with
    tamper := { s.tamper with slotClear := due }, coin := { s.coin with started := false },
    ev := { s.ev with w := 32, r := r }, call := { s.call with mode := modeOf s } }

theorem meets_eventIsWrittenOrDropped :
    ((slotEnding 1).sys.part = .running ∧ (slotEnding 1).gate.profile = some prof
      ∧ roomy (slotEnding 1) ∧ noReport (slotEnding 1)
      ∧ (slotEnding 1).call.mode = modeOf (slotEnding 1) ∧ (slotEnding 1).tariff.swap = .idle
      ∧ (slotEnding 1).coin.started = false ∧ (slotEnding 1).ev.outbox = []
      ∧ timerDue (slotEnding 1).tamper.slotClear = true
      ∧ (slotEnding 1).tamper.chans.slot.state = .active
      ∧ ((slotEnding 1).ev.w - (slotEnding 1).ev.r).toNat < 32)
    ∧ (32 ≤ ((slotEnding 0).ev.w - (slotEnding 0).ev.r).toNat ∧ (slotEnding 0).ev.dropped < 255)
    ∧ ({ (slotEnding 0).ev with dropped := 255 }.dropped = 255
      ∧ (slotEnding 0).gate.queue.length ≤ 4)
    ∧ (slotEnding 0).tamper.chans.slot.trips < 65536 := by
  decide

theorem meets_outsideImages : outsideImages prof (prof.eventsBase + 2) := by
  intro i; cases i <;> decide

def passing (l : List Passage) : State := { run with coin := { run.coin with passages := l } }

theorem meets_entryAndStrobeFillThePassages :
    (run.pins.entry = false ∧ run.coin.reasons = 0)
    ∧ { run with coin := { run.coin with reasons := 1 } }.coin.reasons ≠ 0
    ∧ { run with pins := { run.pins with entry := true } }.pins.entry = true
    ∧ (∀ x ∈ (passing [⟨some 1, 300, false⟩]).coin.passages, x.cls ≠ none)
    ∧ (passing [⟨some 1, 300, false⟩, ⟨none, 400, false⟩]).coin.passages
      = [⟨some 1, 300, false⟩] ++ ⟨none, 400, false⟩ :: []
    ∧ (prof.classes.getD 0 (0, false)).2 = true ∧ (prof.classes.getD 5 (0, false)).2 = false := by
  decide

/-- Class 1 has been accepted 65535 times. -/
def fullCount (s : State) : State :=
  { s with tally := { s.tally with classes := s.tally.classes.set 0 ⟨65535, 0, 0, 0⟩ } }

/-- R170: an accepted count at 65535 is held there and the marker set; the coin is credited all the
same (R117). -/
theorem test_accepted_count_is_held : does .laneEdge (fullCount (passing [⟨some 1, 300, false⟩]))
    (fun t => t.tally.classes[(0 : Fin 6)].accepted == 65535 && t.coin.uncertain
      && t.coin.escrow.map (·.value) == [10] && t.meter.purse.d == 10) = true := by decide

theorem meets_laneEdgeAddsAnEntry :
    ((passing [⟨some 1, 300, false⟩]).coin.escrow.length < 10
      ∧ (passing [⟨some 1, 300, false⟩]).coin.passages = ⟨some ((0 : Fin 6).val + 1), 300, false⟩ :: []
      ∧ run.tally.classes[(0 : Fin 6)].accepted = 0
      ∧ (fullCount run).tally.classes[(0 : Fin 6)].accepted = 65535
      ∧ (coins (List.replicate 9 coin20) run).coin.escrow.length < 10)
    ∧ (∀ x ∈ (passing [⟨none, 300, false⟩]).coin.passages, x.cls = none)
    ∧ 10 ≤ (coins (List.replicate 10 coin20) run).coin.escrow.length
    ∧ { run with call := { run.call with hook := true } }.call.hook = true
    ∧ run.meter.purse.state = .absent ∧ (purse .opened 20 0 run).meter.purse.state = .opened
    ∧ (purse .settling 20 0 run).meter.purse.state = .settling
    ∧ (purse .held 20 0 run).meter.purse.state = .held
    ∧ (noReport (withCall paid run) ∧ { run.call with claim := .caller }.claim ≠ .free
      ∧ (at_ .creditWait run).call.station ≠ .idle)
    ∧ ((passing [⟨some 1, 300, true⟩]).coin.passages = ⟨some ((0 : Fin 6).val + 1), 300, true⟩ :: []
      ∧ run.coin.started = true ∧ run.coin.lane = .clear ∧ run.coin.escrow = []
      ∧ paidCall run = false ∧ paidCall (withCall paid run) = true) := by
  decide

theorem meets_dropEdgeEmptiesTheHead :
    ((coins [coin20] run).coin.escrow = coin20 :: [] ∧ coin20.cls = (1 : Fin 6).val + 1
      ∧ (lane .toBox run).coin.lane = .toBox ∧ (lane .toReturn run).coin.lane = .toReturn)
    ∧ (coins [⟨0, 0, 1, epoch⟩] run).coin.escrow = ⟨0, 0, 1, epoch⟩ :: []
    ∧ (lane .flushing run).coin.lane = .flushing
    ∧ timerDue { run.coin with flushTimer := due }.flushTimer = true
    ∧ run.coin.lane = .clear ∧ run.gate.profile ≠ none ∧ (getChan .lane run).state ≠ .active
    ∧ (getChan .lane (chan .lane .active run)).state = .active := by decide

theorem meets_windowsJamAndStrand :
    (timerDue { run.coin with dropTimer := due }.dropTimer = true
      ∧ (lane .toBox run).coin.lane = .toBox ∧ (getChan .lane run).state ≠ .active)
    ∧ ((passing [⟨some 1, 100, false⟩, ⟨none, 99, false⟩]).coin.passages
        = [⟨some 1, 100, false⟩] ++ ⟨none, 99, false⟩ :: []
      ∧ (∀ y ∈ [(⟨some 1, 100, false⟩ : Passage)], 100 ≤ y.window) ∧ run.pins.entry = false) := by decide

def boxDue (x : VisitState) (present doorIsOpen : Bool) : State :=
  { run with
    visit := { Visit.none with state := x, kind := .service, timer := due },
    coin := { run.coin with boxTimer := due }, pins := { run.pins with box := present, door := true },
    tamper := { run.tamper with visitKind := some .service, door := ⟨doorIsOpen, due⟩ } }

theorem meets_visitFollowsDoorAndBox :
    (timerDue (boxDue .closed true false).coin.boxTimer = true
      ∧ (boxDue .closed true false).visit.state = .closed)
    ∧ ((boxDue .doorOpen false true).visit.state = .doorOpen
      ∧ (boxDue .doorOpen false true).pins.box = false)
    ∧ ((boxDue .boxOut true true).visit.state = .boxOut ∧ (boxDue .boxOut true true).pins.box = true
      ∧ (boxDue .boxOut true true).tamper.door.isOpen = true
      ∧ (boxDue .boxOut true true).meter.purse.state = .absent)
    ∧ ((boxDue .doorOpen true true).visit.state = .doorOpen ∧ (boxDue .doorOpen true true).pins.box = true)
    ∧ ((boxDue .boxOut false true).visit.state = .boxOut ∧ (boxDue .boxOut false true).pins.box = false)
    ∧ (timerDue (boxDue .boxOut false true).tamper.door.timer = true
      ∧ { (boxDue .boxOut false true).pins with door := false }.door = false
      ∧ (getChan .door (boxDue .boxOut false true)).state ≠ .active)
    ∧ (timerDue (boxDue .awaitingDoor true false).tamper.door.timer = true
      ∧ (boxDue .awaitingDoor true false).pins.door = true
      ∧ (boxDue .awaitingDoor true false).tamper.visitKind ≠ none
      ∧ (getChan .door (boxDue .awaitingDoor true false)).state ≠ .active)
    ∧ (timerDue (boxDue .awaitingDoor true false).visit.timer = true
      ∧ (boxDue .awaitingDoor true false).tamper.door.isOpen = false
      ∧ (boxDue .awaitingDoor true false).tamper.case.isOpen = false
      ∧ (getChan .case (boxDue .awaitingDoor true false)).state ≠ .active)
    ∧ ((boxDue .boxOut true false).visit.state = .boxOut ∧ (boxDue .boxOut true false).pins.box = true
      ∧ (boxDue .boxOut true false).tamper.door.isOpen = false
      ∧ (boxDue .boxOut true false).tamper.case.isOpen = false
      ∧ (getChan .door (boxDue .boxOut true false)).state ≠ .active)
    ∧ (timerDue (boxDue .doorOpen true true).tamper.door.timer = true
      ∧ { (boxDue .doorOpen true true).pins with door := false }.door = false
      ∧ (boxDue .doorOpen true true).visit.state = .doorOpen
      ∧ (boxDue .doorOpen true true).tamper.case.isOpen = false
      ∧ (getChan .case (boxDue .doorOpen true true)).state ≠ .active) := by decide

def onLine (x : LineState) (s : State) : State :=
  { s with line := { s.line with state := x, seize := true } }

theorem meets_inputLevelsStartPeriods :
    run.sys.part = .running ∧ run.pins.hook ≠ true ∧ run.pins.loop ≠ true ∧ run.pins.rev ≠ true
    ∧ run.pins.dialtone ≠ true ∧ run.pins.linev ≠ false ∧ run.pins.door ≠ true
    ∧ run.pins.case ≠ true ∧ run.pins.cord ≠ true ∧ run.pins.box ≠ false ∧ noReport run
    ∧ run.call.dialQueue = [] ∧ run.line.sender = none
    ∧ ((onLine .connected run).line.state = .connected ∧ (onLine .connected run).line.seize = true
      ∧ { run.pins with loop := true }.loop ≠ false)
    ∧ (at_ .ringback run).call.station = .ringback ∧ (at_ .talking run).call.station = .talking
    ∧ (at_ .talkingIn run).call.station = .talkingIn := by decide

def hookDue (x : Station) (level filtered : Bool) : State :=
  at_ x { run with call := { run.call with hook := filtered, hookTimer := due },
                   pins := { run.pins with hook := level } }

theorem meets_hookMovesTheStation :
    (timerDue (hookDue .idle true false).call.hookTimer = true ∧ noReport (hookDue .idle true false)
      ∧ (hookDue .idle true false).pins.hook = true ∧ (hookDue .idle true false).call.hook = false
      ∧ (hookDue .idle true false).call.station = .idle)
    ∧ (hookDue .reporting true false).call.station = .reporting
    ∧ ((hookDue .ready false true).pins.hook = false ∧ (hookDue .ready false true).call.hook = true
      ∧ (purse .opened 20 0 (hookDue .ready false true)).meter.purse.state = .opened
      ∧ (hookDue .ready false true).meter.metered = none
      ∧ (hookDue .ready false true).coin.started = true)
    ∧ (hookDue .reporting false true).call.station = .reporting := by decide

/-! #### Calls -/

def allDue (x : Station) (l : LineState) : State :=
  let s := at_ x (withCall { paid with seized := true } (onLine l run))
  { s with
    call := { s.call with hook := true, hookTimer := due, creditTimer := due, answerTimer := due,
                          interDigit := due, claim := .caller },
    line := { s.line with loopTimer := due, toneLimit := due, loss := due, clearP := due } }

theorem meets_callsEndForEachCause :
    (noReport (allDue .talking .connected) ∧ (allDue .talking .connected).call.cur ≠ none
      ∧ timerDue (allDue .talking .connected).call.hookTimer = true
      ∧ (allDue .talking .connected).pins.hook = false
      ∧ (allDue .talking .connected).call.hook = true ∧ inCall .talking = true
      ∧ (allDue .talking .connected).call.cur.any (·.settleDue) = false)
    ∧ (timerDue (allDue .creditWait .sending).call.creditTimer = true
      ∧ (allDue .creditWait .sending).call.station = .creditWait)
    ∧ (timerDue (allDue .ringback .connected).call.answerTimer = true
      ∧ (allDue .ringback .connected).call.station = .ringback)
    ∧ (timerDue (allDue .dialling .seizing).line.loopTimer = true
      ∧ (allDue .dialling .seizing).line.state = .seizing
      ∧ (allDue .dialling .seizing).call.claim ≠ .report)
    ∧ (timerDue (allDue .dialling .awaitTone).line.toneLimit = true
      ∧ (allDue .dialling .awaitTone).line.state = .awaitTone)
    ∧ (timerDue (allDue .talking .connected).line.loss = true
      ∧ pastSeizing (allDue .talking .connected).line = true
      ∧ (allDue .talking .connected).pins.loop = false)
    ∧ (timerDue (allDue .talking .connected).line.clearP = true
      ∧ (allDue .talking .connected).call.station = .talking
      ∧ (allDue .talking .connected).call.cur = some { paid with seized := true }
      ∧ roomy (allDue .talking .connected)
      ∧ ((allDue .talking .connected).ring.w - (allDue .talking .connected).ring.r).toNat < 64
      ∧ (allDue .talking .connected).ring.slot = none)
    ∧ (64 ≤ ((pendingRing 64 rec_).ring.w - (pendingRing 64 rec_).ring.r).toNat
      ∧ (pendingRing 64 rec_).ring.slot = some rec_ ∧ (pendingRing 64 rec_).ring.notKept ≤ 255
      ∧ (pendingRing 64 rec_).ring.notKept < 255)
    ∧ ¬ (rec_.kind = .paid ∧ rec_.gatePassed = true)
    ∧ ({ rec_ with gatePassed := true }.kind = .paid
      ∧ { rec_ with gatePassed := true }.gatePassed = true) := by
  decide

def deciding (number : List Nat) : State :=
  withCall { open_ with number := number } (allDue .dialling .sending)

theorem meets_interDigitExpiryDecides :
    (noReport (deciding [5]) ∧ timerDue (deciding [5]).call.interDigit = true
      ∧ (deciding [5]).call.station = .dialling ∧ open_.complete = false ∧ open_.decided = false
      ∧ (deciding [5]).line.state = .sending ∧ (deciding [5]).line.sender = none
      ∧ (deciding [5]).call.dialQueue = [] ∧ (deciding [5]).call.mode = .full)
    ∧ { deciding [5] with tariff := { run.tariff with active := none } }.tariff.active = none
    ∧ tab.zones[longestZone tab (analysed [5])]? = some ⟨.timed, 5, 10, 600, 60, 8⟩
    ∧ tab.zones[longestZone tab (analysed [5, 5])]? = some ⟨.free, 0, 0, 600, 0, 8⟩
    ∧ tab.zones[longestZone tab (analysed [7])]? = some ⟨.barred, 0, 0, 600, 0, 8⟩
    ∧ 5 + unitCharge 10 (tab.mults.getD (deciding [5]).cal.band 100) tab.q
      ≤ (purse .opened 20 0 (deciding [5])).meter.purse.d
        - (purse .opened 20 0 (deciding [5])).meter.purse.c
    ∧ (deciding [5]).meter.purse.d - (deciding [5]).meter.purse.c
      < 5 + unitCharge 10 (tab.mults.getD (deciding [5]).cal.band 100) tab.q
    ∧ (purse .settling 20 0 (deciding [5])).meter.purse.state = .settling := by decide

def sendingOf (d : Sending) (q : List Nat) : State :=
  at_ .dialling { withCall open_ (onLine .sending run) with
    line := { (onLine .sending run).line with sender := some d },
    call := { (withCall open_ run).call with dialQueue := q } }

theorem meets_digitsAreSignalled :
    ((sendingOf ⟨5, .strobe, 0, 50⟩ []).line.sender = some ⟨5, .strobe, 0, 50⟩ ∧ 50 < 100)
    ∧ (sendingOf ⟨5, .brk, 2, 0⟩ []).line.sender = some ⟨5, .brk, 2, 0⟩
    ∧ (sendingOf ⟨5, .make, 0, 0⟩ []).line.sender = some ⟨5, .make, 0, 0⟩
    ∧ (noReport (sendingOf ⟨5, .gap, 0, 0⟩ []) ∧ (sendingOf ⟨5, .gap, 0, 0⟩ []).call.dialQueue = [])
    ∧ ((sendingOf ⟨5, .gap, 0, 0⟩ [12, 7]).call.dialQueue = 12 :: [7]
      ∧ (sendingOf ⟨5, .gap, 0, 0⟩ [12, 7]).call.cur = some open_
      ∧ (sendingOf ⟨5, .gap, 0, 0⟩ [12, 7]).call.station = .dialling
      ∧ (sendingOf ⟨5, .gap, 0, 0⟩ [12, 7]).line.state = .sending ∧ open_.decided = false) := by
  decide

/-- The sender's digit ends in a station and a line state. -/
def toneEnding (x : Station) (q : List Nat) : State :=
  { at_ x (sendingOf ⟨5, .gap, 0, 0⟩ q) with
    line := { (sendingOf ⟨5, .gap, 0, 0⟩ q).line with state := .connected } }

/-- The sender's digit ends in a report call. -/
def reportSending (x : Phase) (toDial symbols : List Nat) : State :=
  { at_ .reporting (sendingOf ⟨5, .gap, 0, 0⟩ []) with
    report := { run.report with phase := x, toDial := toDial, symbols := symbols } }

theorem meets_tonesAndReportDigitsAreSignalled :
    (noReport (toneEnding .talking [7]) ∧ (toneEnding .talking [7]).call.dialQueue = 7 :: []
      ∧ (toneEnding .talking [7]).call.cur = some open_
      ∧ (toneEnding .talking [7]).call.station = .talking
      ∧ (toneEnding .talkingIn [12]).call.station = .talkingIn
      ∧ (toneEnding .talking [7]).line.state = .connected)
    ∧ ((reportSending .dialling [10, 7] []).call.station = .reporting
      ∧ (reportSending .dialling [10, 7] []).report.phase = .dialling
      ∧ [10, 7].dropWhile (fun x => x == 10 || x == 11) = 7 :: []
      ∧ (reportSending .dialling [] []).report.toDial = [])
    ∧ ((reportSending .sending [] [3]).report.phase = .sending
      ∧ (reportSending .sending [] [3]).report.symbols = 3 :: []
      ∧ (reportSending .sending [] []).report.symbols = []) := by decide

def answering_ (c : CallInfo) (s : State) : State :=
  at_ .ringback { withCall c s with
    line := { (onLine .connected s).line with answerP := due }, pins := { s.pins with rev := true } }

def awaitingCentre : State :=
  let s := at_ .reporting (answering_ (newCall .report 0) run)
  { at_ .reporting s with report := { s.report with phase := .awaitCentre, centreTimer := due,
                                                    queue := [entry 1], nextDue := due },
                          call := { s.call with station := .reporting, claim := .report } }

/-- A call whose exchange answers before RINGBACK. -/
def answeredEarly (passed : Bool) : State :=
  at_ .dialling (answering_ { free_ with gatePassed := passed } run)

theorem meets_otherAnswers :
    (noReport (answeredEarly true) ∧ (answeredEarly true).call.station = .dialling
      ∧ (answeredEarly true).call.dialQueue = [] ∧ (answeredEarly true).line.sender = none
      ∧ timerDue (answeredEarly true).line.answerP = true ∧ (answeredEarly true).pins.rev = true)
    ∧ { free_ with gatePassed := false }.gatePassed = false
    ∧ (at_ .creditWait (answeredEarly true)).call.station = .creditWait
    ∧ { free_ with kind := .emergency }.kind = .emergency
    ∧ { tab with zones := [⟨.pulsed, 5, 10, 600, 0, 8⟩] }.zones[0]? = some ⟨.pulsed, 5, 10, 600, 0, 8⟩
    ∧ { tab with zones := [⟨.timed, 5, 10, 600, 0, 8⟩] }.zones[0]? = some ⟨.timed, 5, 10, 600, 0, 8⟩
    ∧ unitCharge 10 (tab.mults.getD run.cal.band 100) tab.q ≤ 20 - (0 + 5)
    ∧ 10 - (0 + 5) < unitCharge 10 (tab.mults.getD run.cal.band 100) tab.q := by
  refine ⟨⟨by decide, rfl, rfl, rfl, by decide, rfl⟩, rfl, rfl, rfl, rfl, rfl, by decide, by decide⟩

theorem meets_answersAreTaken :
    (timerDue (answering_ free_ run).line.answerP = true ∧ (answering_ free_ run).pins.rev = true
      ∧ (answering_ free_ run).call.cur = some free_ ∧ noReport (answering_ free_ run)
      ∧ free_.kind = .free)
    ∧ (paid.kind = .paid ∧ paid.zone = some 0 ∧ tab.zones[0]? = some ⟨.timed, 5, 10, 600, 60, 8⟩
      ∧ (answering_ paid run).meter.purse.d - (answering_ paid run).meter.purse.c < 5)
    ∧ 5 ≤ (answering_ paid (purse .opened 20 0 run)).meter.purse.d
        - (answering_ paid (purse .opened 20 0 run)).meter.purse.c
    ∧ (awaitingCentre.call.station = .reporting ∧ awaitingCentre.report.phase = .awaitCentre
      ∧ awaitingCentre.report.answered = false
      ∧ awaitingCentre.call.cur = some (newCall .report 0)) := by
  refine ⟨by decide, by decide, by decide, rfl, rfl, rfl, rfl⟩

def talking (timed : Bool) (units : Nat) (s : State) : State :=
  at_ .talking { withCall paid s with meter := { s.meter with
    metered := some ⟨timed, 5, 10, 600, 60, 5⟩, units := units, t := 60, nextUnit := 60 } }

/-- A late coin during a paid call opens a purse that settles when the call has ended (R126, R128). -/
theorem test_late_coin_settles_after_the_call :
    let s := creditLate 20 (talking true 0 run)
    s.meter.purse.state = .opened
    ∧ (endCall .nextCall .ready s).meter.purse.state = .settling := by decide

theorem meets_unitsAreCharged :
    ((talking true 0 (purse .opened 20 5 run)).meter.metered = some ⟨true, 5, 10, 600, 60, 5⟩
      ∧ (talking true 0 run).call.station = .talking
      ∧ (talking true 0 run).meter.nextUnit ≤ (talking true 0 run).meter.t
      ∧ unitCharge 10 (bandMult run 0) 5 ≤ (purse .opened 20 5 run).meter.purse.d
          - (purse .opened 20 5 run).meter.purse.c)
    ∧ ((talking false 0 run).meter.metered = some ⟨false, 5, 10, 600, 60, 5⟩
      ∧ (talking false 0 run).line.meterTicks = none)
    ∧ ({ (talking true 0 run).cal with sub := 9 }.sub = 9
      ∧ { (talking true 0 run).meter with t := 59 }.nextUnit
        ≤ { (talking true 0 run).meter with t := 59 }.t + 1)
    ∧ (talking true 65535 run).meter.units = 65535
    ∧ (run.meter.purse.d - run.meter.purse.c < unitCharge 10 (bandMult run 0) 5
      ∧ (talking true 0 run).call.cur ≠ none ∧ noReport (talking true 0 run))
    ∧ run.meter.metered = none
    ∧ { run.line with meterTicks := some 1, meterPhase := 30 }.meterTicks = some 1
    ∧ 100 * 1 + 29 < 100 + 30 ∧ 100 + 30 ≤ 100 * 1 + 30 := by
  refine ⟨by decide, by decide, by decide, by decide, ⟨by decide, ?_, by decide⟩, by decide⟩
  exact Option.some_ne_none _

theorem meets_warnAndRingAreTimed :
    timerDue { run.meter with warnTimer := due }.warnTimer = true
    ∧ run.line.state = .released ∧ (at_ .ringIn run).call.station = .ringIn
    ∧ prof.incoming = true ∧ run.call.mode ≠ .closed ∧ run.call.claim = .free
    ∧ run.call.station = .idle ∧ (at_ .talking run).call.station ≠ .ready
    ∧ (onLine .connected run).line.state ≠ .released
    ∧ (timerDue { run.call with ringTimer := due }.ringTimer = true ∧ noReport run) := by decide

theorem meets_lineIsSeizedAndReleased :
    ((allDue .dialling .seizing).line.state = .seizing ∧ { run.pins with loop := true }.loop = true
      ∧ (allDue .dialling .seizing).call.claim = .caller ∧ noReport (allDue .dialling .seizing))
    ∧ awaitingCentre.call.claim = .report ∧ (allDue .talkingIn .seizing).call.station = .talkingIn
    ∧ ((allDue .dialling .awaitTone).line.state = .awaitTone
      ∧ timerDue { run.line with tonePeriod := due }.tonePeriod = true
      ∧ { run.pins with dialtone := true }.dialtone = true
      ∧ (allDue .dialling .awaitTone).line.sender = none ∧ prof.pulse = false
      ∧ paid.complete = false ∧ (allDue .dialling .awaitTone).call.dialQueue = []
      ∧ run.call.interDigit = none)
    ∧ (sendingOf ⟨5, .gap, 0, 0⟩ [6]).call.dialQueue = 6 :: []
    ∧ { run.report with toDial := [5, 6] }.toDial = 5 :: [6]
    ∧ ((onLine .clearing run).line.state = .clearing
      ∧ timerDue { run.line with guard := due }.guard = true ∧ run.report.due = false
      ∧ run.report.phase = .noCall ∧ run.line.waiting = false)
    ∧ { run.line with waiting := true }.waiting = true := by
  refine ⟨by decide, rfl, by decide⟩

/-! #### Tamper channels and reports -/

def tamperDue (force : Timer) : State :=
  { run with
    tamper := { run.tamper with
      door := ⟨false, due⟩, case := ⟨false, due⟩, cord := ⟨false, due⟩, slotBlock := due,
      lossTimer := due, quiet := due, slotClear := due, presentTimer := due, shockWindow := due,
      shockCount := 2, force := force },
    pins := { run.pins with door := true, case := true, cord := true } }

theorem meets_conditionsTripTheirChannels :
    (timerDue (tamperDue none).tamper.door.timer = true ∧ (tamperDue none).pins.door = true
      ∧ (tamperDue none).tamper.visitKind = none ∧ (tamperDue none).visit.state = .closed
      ∧ (getChan .door (tamperDue none)).state ≠ .active)
    ∧ (timerDue (tamperDue none).tamper.case.timer = true ∧ (tamperDue none).pins.case = true)
    ∧ (timerDue (tamperDue none).tamper.cord.timer = true ∧ (tamperDue none).pins.cord = true
      ∧ prof.threshold = 0 ∧ noReport (tamperDue none)
      ∧ (withCall paid (tamperDue none)).call.cur = some paid ∧ inCall .talking = true)
    ∧ timerDue (tamperDue none).tamper.slotBlock = true
    ∧ timerDue (tamperDue none).tamper.lossTimer = true
    ∧ ((tamperDue due).tamper.force ≠ none ∧ (getChan .force (tamperDue due)).state ≠ .active)
    ∧ (∀ e ∈ (tamperDue none).report.queue, e.failed = false)
    ∧ ((tamperDue none).tamper.shockCount + 1 = prof.shockCount
      ∧ (getChan .shock (tamperDue none)).state ≠ .active)
    ∧ 1 ≠ prof.shockCount ∧ run.tamper.shockWindow = none
    ∧ timerDue (tamperDue none).tamper.shockWindow = true := by decide

theorem meets_conditionsEndInLatched :
    (run.pins.door = false ∧ timerDue (tamperDue none).tamper.door.timer = true
      ∧ (tamperDue none).visit.state ≠ .doorOpen
      ∧ (getChan .door (chan .door .active run)).state = .active)
    ∧ (run.pins.case = false ∧ run.pins.cord = false
      ∧ timerDue (tamperDue none).tamper.case.timer = true
      ∧ timerDue (tamperDue none).tamper.cord.timer = true)
    ∧ timerDue (tamperDue none).tamper.quiet = true
    ∧ timerDue (tamperDue none).tamper.slotClear = true
    ∧ timerDue (tamperDue none).tamper.presentTimer = true
    ∧ timerDue (tamperDue due).tamper.force = true
    ∧ (getChan .slot (chan .slot .active run)).state = .active
    ∧ (getChan .force (chan .force .active run)).state = .active
    ∧ (getChan .slot run).state ≠ .active := by decide

def attempt (r : Round) (n : Nat) : State :=
  { run with report := { run.report with
    round := r, attempt := n, nextDue := due, queue := [{ entry 4 with failed := true }] } }

/-- A claim of severity 3 falls due in READY. -/
def urgent (sev : Nat) (s : State) : State :=
  at_ .ready { s with report := { (attempt .inRound 1).report with
    queue := [{ entry 1 with severity := sev }] } }

theorem meets_claimsInReady :
    ((urgent 3 run).call.claim = .free ∧ (urgent 3 run).call.station = .ready
      ∧ (urgent 3 run).meter.purse.state = .absent ∧ (urgent 3 run).line.state = .released
      ∧ (urgent 3 run).report.queue = { entry 1 with severity := 3 } :: []
      ∧ timerDue (urgent 3 run).report.nextDue = true)
    ∧ { run.line with state := .clearing }.state = .clearing
    ∧ { entry 1 with severity := 2 }.severity ≠ 3
    ∧ ((urgent 3 (purse .opened 20 0 run)).meter.purse.state = .opened
      ∧ { run.call with hook := true }.hook = true)
    ∧ ((purse .held 20 0 (coins [coin20] run)).meter.purse.state ≠ .absent
      ∧ (purse .held 20 0 (coins [coin20] run)).coin.escrow ≠ [])
    ∧ { run.call with claim := .caller }.claim ≠ .free := by decide

theorem meets_attemptsFallDue :
    (timerDue (attempt .inRound 3).report.nextDue = true
      ∧ (attempt .inRound 3).report.phase = .noCall ∧ (attempt .inRound 3).report.round = .inRound
      ∧ prof.primary ≠ []
      ∧ (attempt .inRound 3).report.queue = { entry 4 with failed := true } :: []
      ∧ (attempt .inRound 3).call.claim = .free ∧ (attempt .inRound 3).call.station = .idle
      ∧ (attempt .inRound 3).line.state = .released)
    ∧ { prof with primary := [] }.primary = []
    ∧ (at_ .talking (attempt .inRound 3)).call.station ≠ .ready
    ∧ ((attempt .failed 1).report.round = .failed
      ∧ ∃ e ∈ (attempt .failed 1).report.queue, e.failed = true ∧ e.code = channelCode .shock) := by
  decide

theorem meets_centreToneTakesTheSnapshot :
    awaitingCentre.sys.part = .running ∧ awaitingCentre.gate.profile = some prof
    ∧ awaitingCentre.report.phase = .awaitCentre ∧ awaitingCentre.report.centreTimer = due
    ∧ awaitingCentre.line.sender = none ∧ awaitingCentre.report.queue = [entry 1]
    ∧ awaitingCentre.call.station = .reporting ∧ prof.station.length = 8 :=
  ⟨rfl, rfl, rfl, rfl, rfl, rfl, rfl, rfl⟩

def awaitingAck (pos n : Nat) : State :=
  { awaitingCentre with report := { awaitingCentre.report with
    phase := .awaitAck, ackTimer := due, round := .inRound, attempt := n, pos := pos,
    frames := [⟨1, [10, 11]⟩, ⟨4, [10, 1, 11]⟩],
    queue := [{ entry 1 with snap := true }, entry 4] } }

theorem meets_reportAttemptsEnd :
    ((awaitingAck 0 1).report.phase = .awaitAck
      ∧ (awaitingAck 0 1).report.frames[(awaitingAck 0 1).report.pos + 1]? = some ⟨4, [10, 1, 11]⟩
      ∧ (awaitingAck 0 1).line.sender = none ∧ (awaitingAck 0 1).call.station = .reporting)
    ∧ ((awaitingAck 1 1).report.frames.length ≤ (awaitingAck 1 1).report.pos + 1
      ∧ (awaitingAck 1 1).line.state = .connected)
    ∧ (timerDue (awaitingAck 0 3).report.ackTimer = true
      ∧ (awaitingAck 0 3).report.round = .inRound ∧ (awaitingAck 0 3).report.attempt < 4)
    ∧ 4 ≤ (awaitingAck 0 4).report.attempt
    ∧ (awaitingCentre.report.phase = .awaitCentre
      ∧ timerDue awaitingCentre.report.centreTimer = true) :=
  ⟨⟨rfl, rfl, rfl, rfl⟩, ⟨by decide, rfl⟩, ⟨rfl, rfl, by decide⟩, by decide, rfl, rfl⟩

/-- A report call with the line at `x` and every period of its failures run out. -/
def reportDue (x : LineState) (ph : Phase) : State :=
  let s := allDue .reporting x
  { s with
    call := { s.call with claim := .report },
    report := { s.report with phase := ph, round := .inRound, answered := true, answerTimer := due,
                              queue := [entry 5] } }

/-- CLEAR TAMPER of the one channel reported, with the report call at `x`. -/
def clearing (x : LineState) (ph : Phase) : State :=
  let s := { reportDue x ph with orders := (order [11, 9, 5]).orders }
  setChan .slot { getChan .slot s with state := .latched, status := .queued } s

theorem meets_reportCallsFail :
    ((reportDue .seizing .seize).line.state = .seizing
      ∧ timerDue (reportDue .seizing .seize).line.loopTimer = true
      ∧ (reportDue .seizing .seize).call.claim = .report
      ∧ (reportDue .seizing .seize).report.round = .inRound)
    ∧ ((reportDue .awaitTone .awaitTone).line.state = .awaitTone
      ∧ timerDue (reportDue .awaitTone .awaitTone).line.toneLimit = true)
    ∧ ((reportDue .connected .awaitCentre).call.station = .reporting
      ∧ (reportDue .connected .awaitCentre).report.phase = .awaitCentre
      ∧ timerDue (reportDue .connected .awaitCentre).report.answerTimer = true
      ∧ timerDue (reportDue .connected .awaitCentre).line.loss = true
      ∧ pastSeizing (reportDue .connected .awaitCentre).line = true
      ∧ (reportDue .connected .awaitCentre).pins.loop = false
      ∧ timerDue (reportDue .connected .awaitCentre).line.clearP = true
      ∧ (reportDue .connected .awaitCentre).report.answered = true)
    ∧ (orderAt 11 3 [11, 9, 5] (clearing .sending .dialling)
      ∧ roomy (clearing .sending .dialling) ∧ natAt [11, 9, 5] 2 = channelCode .slot
      ∧ (getChan .slot (clearing .sending .dialling)).state = .latched
      ∧ (getChan .slot (clearing .sending .dialling)).status = .queued
      ∧ (clearing .sending .dialling).report.queue = [entry 5]
      ∧ (entry 5).code = channelCode .slot
      ∧ (clearing .sending .dialling).report.phase = .dialling
      ∧ (clearing .sending .dialling).line.state = .sending) := by
  decide

end Sys2Proof.Tests
end

