-- ==== Sys2Proof/Proofs/TimeBands.lean ====
section
/-! The match of a band entry (R48) and the choice of the current band (R49). -/
namespace Sys2Proof.Proofs
open Sys2Proof.Machine

/-- The three shapes of a span (R48 item 3), as two conditions: a span whose start equals its end
meets the premise of neither and so holds every minute. -/
theorem inSpan_iff (e : BandEntry) (m : Nat) :
    inSpan e m = true ↔
      (e.start < e.stop → e.start ≤ m ∧ m < e.stop)
        ∧ (e.stop < e.start → e.start ≤ m ∨ m < e.stop) := by
  rcases Nat.lt_trichotomy e.start e.stop with hlt | heq | hgt
  · simp only [inSpan, hlt, Nat.lt_asymm hlt, if_true, decide_eq_true_eq, forall_const,
      false_implies, and_true]
  · simp only [inSpan, heq, Nat.lt_irrefl, if_false, if_true, false_implies, and_true]
  · simp only [inSpan, hgt, Nat.lt_asymm hgt, Nat.ne_of_gt hgt, if_false, decide_eq_true_eq,
      forall_const, false_implies, true_and]

theorem bandMatches_iff (e : BandEntry) (c : Calendar) :
    bandMatches e c = true ↔
      e.days.getLsbD c.weekday = true ∧ (e.day = 0 ∨ e.day = c.time.day)
        ∧ (e.month = 0 ∨ e.month = c.time.month)
        ∧ inSpan e (c.time.hour * 60 + c.time.minute) = true := by
  simp only [bandMatches, Bool.and_eq_true, Bool.or_eq_true, beq_iff_eq, and_assoc]

@[simp] theorem chooseBand_none (c : Calendar) : chooseBand none c = 0 := rfl

theorem chooseBand_of_invalid (bank : Bank) (t : Tables) {c : Calendar} (hc : c.valid = false) :
    chooseBand (some (bank, t)) c = 0 := by
  simp only [chooseBand, hc, Bool.false_eq_true, if_false]

/-- With a valid calendar the current band is read off the search for the first match. -/
theorem chooseBand_of_valid (bank : Bank) (t : Tables) {c : Calendar} (hc : c.valid = true) :
    chooseBand (some (bank, t)) c = ((t.bands.find? (bandMatches · c)).map (·.band)).getD 0 := by
  simp only [chooseBand, hc, if_true]
  cases t.bands.find? (bandMatches · c) <;> rfl

theorem find?_bandMatches_eq_none {bands : List BandEntry} {c : Calendar}
    (h : ∀ e ∈ bands, bandMatches e c = false) : bands.find? (bandMatches · c) = none :=
  List.find?_eq_none.mpr fun e he => Bool.eq_false_iff.mp (h e he)

theorem chooseBand_of_no_match (bank : Bank) (t : Tables) (c : Calendar)
    (h : ∀ e ∈ t.bands, bandMatches e c = false) : chooseBand (some (bank, t)) c = 0 := by
  cases hc : c.valid with
  | false => exact chooseBand_of_invalid bank t hc
  | true => rw [chooseBand_of_valid bank t hc, find?_bandMatches_eq_none h]; rfl

theorem chooseBand_of_first_match (bank : Bank) {t : Tables} {c : Calendar}
    {l l' : List BandEntry} {e : BandEntry} (hc : c.valid = true) (hbands : t.bands = l ++ e :: l')
    (hl : ∀ f ∈ l, bandMatches f c = false) (he : bandMatches e c = true) :
    chooseBand (some (bank, t)) c = e.band := by
  have hfind : t.bands.find? (bandMatches · c) = some e := by
    rw [hbands, List.find?_append, find?_bandMatches_eq_none hl, Option.none_or]
    exact List.find?_cons_of_pos he
  rw [chooseBand_of_valid bank t hc, hfind]; rfl

/-- Settles O12: the match condition by the shape of the span, the choice by the search for the
first match. -/
theorem bandOfTheFirstMatch : Obligations.BandOfTheFirstMatch := by
  refine ⟨fun e c => ?_, chooseBand_none, fun bank t _ hc => chooseBand_of_invalid bank t hc,
    chooseBand_of_no_match, fun bank _ _ _ _ _ hc hbands hl he =>
      chooseBand_of_first_match bank hc hbands hl he⟩
  rw [bandMatches_iff, inSpan_iff]

end Sys2Proof.Proofs
end

/-! SERVICE (R94): how an order handed to its owner ends a step, how the mode stands at a step's end, and
what the closure's bit of the Live Image gives back. -/
namespace Sys2Proof.Proofs
open Sys2Proof.Machine Sys2Proof.Safety Sys2Proof.Laws

/-! ### An order carried out and answered (R22, R23) -/

/-- An order with every condition met is its owner's, and its step ends with the judgments (R22). -/
theorem carryOut_owner {code : Nat} {conds : State → List (Nat × Bool)}
    {owner : Fin 16 → List Byte → State → State} {n : Fin 16} {d : List Byte} {s : State}
    (h : orderAt code n d s) (hc : firstUnmet (conds s) = none) :
    carryOut code conds owner s = finish (waiting (owner n d s)) (owner n d s) := by
  obtain ⟨-, hbusy, hdata, hcode⟩ := h
  simp only [carryOut, hbusy, hdata, hcode, hc, if_true]

/-- An order's command leads to what the judgments at its step's end make of the owner's work. -/
theorem leadsWith_owner {c : Instr} {code : Nat} {conds : State → List (Nat × Bool)}
    {owner : Fin 16 → List Byte → State → State} {n : Fin 16} {d : List Byte} {s t v : State}
    {P : State → Prop} (he : exec c s = .next (carryOut code conds owner s))
    (h : orderAt code n d s) (hc : firstUnmet (conds s) = none) (ht : owner n d s = t)
    (hP : ∀ k, steady (finish k t) = steady v ∧ P (finish k t)) : leadsWith c s v P :=
  ⟨finish (waiting t) t, by rw [he, carryOut_owner h hc, ht], hP _⟩

theorem outcomeEntry_eq_outcomeRun (p : Profile) (n : Fin 16) (o : OrderOutcome) (detail : Nat) :
    outcomeEntry p n o detail = outcomeRun p n (orderOutcomeCode o) detail := rfl

/-- An answer gives posts and puts the order's contents by. -/
theorem answer_unposted (n : Fin 16) (o : OrderOutcome) (detail : Nat) (s : State) :
    unposted (answer n o detail s) = unposted (answering s) := by
  unfold answer giveOutcome
  split
  · rfl
  · exact offer_unposted _ _ _

/-- An answer leaves the part's own state alone. -/
theorem answer_sys (n : Fin 16) (o : OrderOutcome) (detail : Nat) (s : State) :
    (answer n o detail s).sys = s.sys :=
  show (unposted (answer n o detail s)).sys = (unposted (answering s)).sys from
    congrArg (·.sys) (answer_unposted n o detail s)

/-- Where the Post Queue has room, an outcome run is appended at once (R12, R23). -/
theorem giveOutcome_queue {p : Profile} {s : State} (hp : s.gate.profile = some p) (hr : roomy s)
    (n : Fin 16) (o : OrderOutcome) (detail : Nat) :
    (giveOutcome n o detail s).gate.queue
      = s.gate.queue ++ [outcomeRun p n (orderOutcomeCode o) detail] := by
  obtain ⟨hwait, hlen⟩ := hr
  have hplace : s.gate.queue.length + [outcomeEntry p n o detail].length ≤ 16 := by
    rw [List.length_singleton]; omega
  simp only [giveOutcome, hp]
  rw [offer_room _ _ _ hwait hplace, outcomeEntry_eq_outcomeRun]

theorem answer_queue {p : Profile} {s : State} (hp : s.gate.profile = some p) (hr : roomy s)
    (n : Fin 16) (o : OrderOutcome) (detail : Nat) :
    (answer n o detail s).gate.queue
      = s.gate.queue ++ [outcomeRun p n (orderOutcomeCode o) detail] :=
  giveOutcome_queue (s := answering s) hp hr n o detail

/-- What stands appended to the Post Queue is posted, whatever is appended behind it. -/
theorem posted_of_append {e : PostEntry} {s u t : State} (h : u.gate.queue = s.gate.queue ++ [e])
    (hg : grows u t) : posted e s t := by
  obtain ⟨l, hl⟩ := hg
  have ht : t.gate.queue = s.gate.queue ++ ([e] ++ l) := by rw [← hl, h, List.append_assoc]
  refine ⟨⟨[e] ++ l, ht.symm⟩, ?_⟩
  rw [ht, List.drop_left]
  exact List.mem_append_left l (List.mem_singleton_self e)

/-- A step whose owner answers the order leaves the steady part as the owner had it, and the outcome
run is given. -/
theorem finish_answer {s u : State} (hq : u.gate = s.gate) (hp : s.gate.profile ≠ none)
    (hr : roomy s) (k : Nat) (n : Fin 16) (o : OrderOutcome) (detail : Nat) :
    steady (finish k (answer n o detail u)) = steady (answering u)
      ∧ answered n (orderOutcomeCode o) detail s (finish k (answer n o detail u)) := by
  obtain ⟨p, hprof⟩ := Option.ne_none_iff_exists'.mp hp
  have hqueue := answer_queue (hq ▸ hprof) (by rwa [roomy, hq]) n o detail
  rw [hq] at hqueue
  exact ⟨(finish_steady _ _).trans (steady_of_unposted (answer_unposted n o detail u)),
    p, hprof, posted_of_append hqueue (finish_grows _ _)⟩

/-! ### The mode at the end of a step (R92, R93) -/

/-- The inputs of the service mode are in the steady part, but for whether a table is active. -/
theorem modeOf_of_steady {s t : State} (h : steady s = steady t)
    (ha : s.tariff.active = t.tariff.active) : modeOf s = modeOf t := by
  have inputs : ∀ u : State, modeOf u
      = modeOf { steady u with
          tariff := { (steady u).tariff with active := u.tariff.active } } := fun _ => rfl
  rw [inputs s, inputs t, h, ha]

/-- The mode last judged, and the one of its inputs that is not in the steady part. -/
def modeShown (s : State) := (s.call.mode, s.tariff.active)

theorem modeShown_of_unposted {s t : State} (h : unposted s = unposted t) :
    modeShown s = modeShown t :=
  show modeShown (unposted s) = modeShown (unposted t) from congrArg modeShown h

theorem askSeize_modeShown (s : State) : modeShown (askSeize s) = modeShown s := by
  unfold askSeize closeSeize
  split
  · dsimp only
    split <;> rfl
  · rfl

theorem judgeReport_modeShown (s : State) : modeShown (judgeReport s) = modeShown s := by
  have hgrant : ∀ u : State, modeShown (grantReport u) = modeShown u := by
    intro u
    unfold grantReport
    split
    · rfl
    · exact askSeize_modeShown _
  unfold judgeReport
  dsimp only
  split
  · rfl
  · split
    · exact hgrant _
    · rfl

theorem judgeGate_modeShown (s : State) : modeShown (judgeGate s) = modeShown s := by
  unfold judgeGate
  split
  · rfl
  · split <;> rfl

theorem startDigit_modeShown (p : Bool) (d : Nat) (s : State) :
    modeShown (startDigit p d s) = modeShown s := by
  unfold startDigit
  split
  · rfl
  · split <;> rfl

theorem offerDigit_modeShown (s : State) : modeShown (offerDigit s) = modeShown s := by
  unfold offerDigit
  split
  · split
    · exact startDigit_modeShown _ _ _
    · split
      · exact startDigit_modeShown _ _ _
      · rfl
  · rfl

theorem judgeRingback_modeShown (s : State) : modeShown (judgeRingback s) = modeShown s := by
  unfold judgeRingback
  split
  · split <;> rfl
  · rfl

theorem judgeInterDigit_modeShown (s : State) : modeShown (judgeInterDigit s) = modeShown s := by
  unfold judgeInterDigit
  split
  · split <;> rfl
  · rfl

theorem offerReport_modeShown (s : State) : modeShown (offerReport s) = modeShown s := by
  unfold offerReport
  split
  · split
    · split
      · exact startDigit_modeShown _ _ _
      · rfl
    · split
      · exact startDigit_modeShown _ _ _
      · rfl
    all_goals rfl
  · rfl

theorem judgeSender_modeShown (s : State) : modeShown (judgeSender s) = modeShown s := by
  unfold judgeSender
  rw [offerReport_modeShown, judgeInterDigit_modeShown, judgeRingback_modeShown,
    offerDigit_modeShown, judgeGate_modeShown]

theorem judgeReasons_modeShown (s : State) : modeShown (judgeReasons s) = modeShown s := by
  have h : ∀ r : BitVec 10, modeShown (if r = s.coin.reasons then s
      else touchLive { s with coin := { s.coin with reasons := r } }) = modeShown s := by
    intro r
    split <;> rfl
  exact h (closingReasons s)

/-- What follows the judgment of the mode in a step shows the mode as judged. -/
theorem finish_modeShown (n : Nat) {s : State} (h : s.sys.part = .running) :
    modeShown (finish n s) = modeShown (judgeMode (judgeActivationClock (judgeMoney s))) := by
  unfold finish settle
  rw [if_pos h, modeShown_of_unposted (shuffleWaiters_unposted _ _),
    modeShown_of_unposted (postImages_unposted _), modeShown_of_unposted (flushEvents_unposted _),
    judgeReasons_modeShown, judgeSender_modeShown, judgeReport_modeShown]

/-- The mode is judged afresh, whether or not it changes (R92, R93). -/
theorem judgeMode_modeShown (s : State) :
    modeShown (judgeMode s) = (modeOf s, s.tariff.active) := by
  unfold judgeMode
  dsimp only
  split
  · next h => rw [modeShown, h]
  · exact modeShown_of_unposted (raise_unposted _ _ _ _)

/-- The judgment of the mode changes none of its inputs, so the mode stands as judged (R92). -/
theorem judgeMode_mode (s : State) : (judgeMode s).call.mode = modeOf (judgeMode s) := by
  obtain ⟨hmode, hactive⟩ := Prod.mk.inj (judgeMode_modeShown s)
  rw [hmode, modeOf_of_steady (judgeMode_steady s) hactive]

/-- At the end of every step in RUNNING the mode stands as its inputs then give it (R92, R93). -/
theorem finish_mode (n : Nat) {s : State} (h : s.sys.part = .running) :
    (finish n s).call.mode = modeOf (finish n s) := by
  obtain ⟨hmode, hactive⟩ := Prod.mk.inj (finish_modeShown n h)
  have hsteady : steady (finish n s)
      = steady (judgeMode (judgeActivationClock (judgeMoney s))) := by
    rw [finish_steady, judgeMode_steady, judgeActivationClock_steady, judgeMoney_steady]
  rw [hmode, judgeMode_mode, modeOf_of_steady hsteady hactive]

/-- A closure ordered makes the mode CLOSED (R92). -/
theorem modeOf_of_ordered {s : State} (h : s.call.ordered = true) : modeOf s = .closed := by
  simp only [modeOf, closedInputs, h, List.any_cons, id_eq, Bool.true_or, Bool.or_true, if_true]

/-- The closure ordered is in the steady part. -/
theorem ordered_of_steady {s t : State} (h : steady s = steady t) :
    s.call.ordered = t.call.ordered :=
  show (steady s).call.ordered = (steady t).call.ordered from congrArg (·.call.ordered) h

/-! ### The order itself (R94) -/

theorem execService_eq (s : State) :
    exec .service s = .next (carryOut 14 always serviceOrder s) := rfl

theorem serviceOrder_bad {d : List Byte} (h1 : natAt d 2 ≠ 1) (h2 : natAt d 2 ≠ 2)
    (n : Fin 16) (s : State) : serviceOrder n d s = answer n .badParameter 2 s :=
  if_pos (by omega)

/-- The state with the closure standing as asked. -/
def withClosure (close : Bool) (s : State) : State :=
  { s with call := { s.call with ordered := close } }

theorem serviceOrder_asked {d : List Byte} {close : Bool}
    (h : natAt d 2 = if close then 1 else 2) (n : Fin 16) (s : State) :
    serviceOrder n d s = if s.call.ordered = close then answer n .unchanged 0 s
      else answer n .done 0 (touchLive (withClosure close s)) := by
  cases close with
  | true =>
    have hclose : natAt d 2 = 1 := h
    simp [serviceOrder, withClosure, hclose]
  | false =>
    have hopen : natAt d 2 = 2 := h
    simp [serviceOrder, withClosure, hopen]

theorem service_bad {s : State} {n : Fin 16} {d : List Byte} (h : orderAt 14 n d s)
    (hp : s.gate.profile ≠ none) (hr : roomy s) (h1 : natAt d 2 ≠ 1) (h2 : natAt d 2 ≠ 2) :
    leadsWith .service s (answering s) (answered n 4 2 s) :=
  leadsWith_owner (execService_eq s) h rfl (serviceOrder_bad h1 h2 n s) fun k =>
    finish_answer rfl hp hr k n .badParameter 2

theorem service_unchanged {s : State} {n : Fin 16} {d : List Byte} {close : Bool}
    (h : orderAt 14 n d s) (hp : s.gate.profile ≠ none) (hr : roomy s)
    (hd : natAt d 2 = if close then 1 else 2) (hs : s.call.ordered = close) :
    leadsWith .service s (answering s) (answered n 2 0 s) :=
  leadsWith_owner (execService_eq s) h rfl ((serviceOrder_asked hd n s).trans (if_pos hs)) fun k =>
    finish_answer rfl hp hr k n .unchanged 0

theorem service_changes {s : State} {n : Fin 16} {d : List Byte} {close : Bool}
    (h : orderAt 14 n d s) (hp : s.gate.profile ≠ none) (hr : roomy s)
    (hd : natAt d 2 = if close then 1 else 2) (hs : s.call.ordered ≠ close) :
    leadsWith .service s (withClosure close (answering s)) (fun t => answered n 1 0 s t
      ∧ t.call.mode = modeOf t ∧ (close = true → t.call.mode = .closed)) := by
  have howner := (serviceOrder_asked hd n s).trans (if_neg hs)
  refine leadsWith_owner (execService_eq s) h rfl howner fun k => ?_
  obtain ⟨hpart, -⟩ := h
  obtain ⟨hsteady, hanswered⟩ :=
    finish_answer (u := touchLive (withClosure close s)) rfl hp hr k n .done 0
  have hrun : (answer n .done 0 (touchLive (withClosure close s))).sys.part = .running := by
    rw [answer_sys]; exact hpart
  have hmode := finish_mode k hrun
  refine ⟨hsteady, hanswered, hmode, fun hclose => ?_⟩
  rw [hmode, modeOf_of_ordered ((ordered_of_steady hsteady).trans hclose)]

/-! ### The closure in the Live Image (R186, R188) -/

theorem stationCode_lt (x : Station) : stationCode x < 16 := by cases x <;> decide

theorem modeCode_lt (m : Mode) : modeCode m < 4 := by cases m <;> decide

theorem nBool_lt (b : Bool) : nBool b < 2 := by cases b <;> decide

/-- Bit 6 of a byte that holds two low fields, a flag and a last flag. -/
theorem bitSet_six {a m : Nat} (ha : a < 16) (hm : m < 4) (o f : Bool) :
    bitSet (b8 (a + 16 * m + 64 * nBool o + 128 * nBool f)).toNat 6 = o := by
  have hlow : (a + 16 * m + 64 * nBool o + 128 * nBool f) % 256 / 64 % 2 = nBool o := by
    have ho := nBool_lt o
    have hf := nBool_lt f
    omega
  simp only [bitSet, b8, BitVec.toNat_ofNat, Nat.reducePow, hlow]
  cases o <;> rfl

theorem liveFields_ordered (s : State) : bitSet (natAt (liveFields s) 0) 6 = s.call.ordered :=
  bitSet_six (stationCode_lt _) (modeCode_lt _) s.call.ordered s.img.final

/-- Posts leave the Call Controller alone. -/
theorem offer_call (p : Producer) (es : List PostEntry) (s : State) :
    (offer p es s).call = s.call :=
  show (unposted (offer p es s)).call = (unposted s).call from
    congrArg (·.call) (offer_unposted p es s)

theorem placeRecord_call (c : CallRecord) (s : State) : (placeRecord c s).call = s.call := by
  unfold placeRecord
  split
  · rfl
  · exact offer_call _ _ _

theorem dropRecord_call (s : State) : (dropRecord s).call = s.call := by
  unfold dropRecord
  dsimp only
  split
  · rfl
  · split
    · exact offer_call _ _ _
    · rfl

theorem placePending_call (s : State) : (placePending s).call = s.call := by
  unfold placePending
  split
  · rfl
  · split
    · exact placeRecord_call _ _
    · rfl

/-- The Record Unit takes a record without touching the Call Controller (R164 to R166). -/
theorem handRecord_call (c : CallRecord) (s : State) : (handRecord c s).1.call = s.call := by
  unfold handRecord
  dsimp only
  split
  · split
    · exact (placeRecord_call _ _).trans (placePending_call s)
    · exact placePending_call s
  · split
    · exact (dropRecord_call _).trans (placePending_call s)
    · exact (dropRecord_call _).trans (placePending_call s)

theorem restoreLost_call (bs : List Byte) (s : State) : (restoreLost bs s).call = s.call := by
  unfold restoreLost
  split
  · exact handRecord_call _ s
  · rfl

theorem restoreLive_ordered {bs : List Byte} (h : liveGood bs = true) (s : State) :
    (restoreLive bs s).call.ordered = bitSet (natAt bs 1) 6 := by
  unfold restoreLive
  rw [if_pos h, restoreLost_call, placePending_call]

/-- Settles O38: the owner's answer by the parameter, the mode by the judgment at every step's end,
the closure's bit by the layout of the image's first field. -/
theorem serviceOrdersTheClosure : Obligations.ServiceOrdersTheClosure :=
  ⟨fun _ _ _ h hp hr => ⟨service_bad h hp hr, fun _ hd =>
      ⟨service_unchanged h hp hr hd, service_changes h hp hr hd⟩⟩,
    liveFields_ordered, fun _ s h => restoreLive_ordered h s⟩

end Sys2Proof.Proofs

/-! The unit charge (R119): both roundings as least upper multiples, and the greatest charge. -/
namespace Sys2Proof.Proofs
open Sys2Proof.Machine

/-! ### E0 (R119 step 1) -/

/-- E0 is the least whole figure whose hundredfold reaches U × M. -/
theorem rawCharge_le_iff (u m k : Nat) : rawCharge u m ≤ k ↔ u * m ≤ 100 * k := by
  unfold rawCharge; omega

theorem le_hundred_mul_rawCharge (u m : Nat) : u * m ≤ 100 * rawCharge u m :=
  (rawCharge_le_iff u m _).mp (Nat.le_refl _)

theorem hundred_mul_rawCharge_lt (u m : Nat) : 100 * rawCharge u m < u * m + 100 := by
  unfold rawCharge; omega

@[simp] theorem rawCharge_zero (m : Nat) : rawCharge 0 m = 0 :=
  Nat.le_zero.mp ((rawCharge_le_iff 0 m 0).mpr (Nat.le_of_eq (Nat.zero_mul m)))

/-- At M = 100, the multiplier of a PULSED call (R123), E0 is U. -/
@[simp] theorem rawCharge_hundred (u : Nat) : rawCharge u 100 = u := by
  unfold rawCharge; omega

theorem rawCharge_mono {u m u' m' : Nat} (hu : u ≤ u') (hm : m ≤ m') :
    rawCharge u m ≤ rawCharge u' m' :=
  (rawCharge_le_iff u m _).mpr
    (Nat.le_trans (Nat.mul_le_mul hu hm) (le_hundred_mul_rawCharge u' m'))

/-! ### E (R119 step 2) -/

theorem unitCharge_of_pos (u m : Nat) {q : Nat} (hq : 0 < q) :
    unitCharge u m q = (rawCharge u m + (q - 1)) / q * q := if_neg (Nat.ne_of_gt hq)

theorem dvd_unitCharge (u m : Nat) {q : Nat} (hq : 0 < q) : q ∣ unitCharge u m q :=
  unitCharge_of_pos u m hq ▸ Nat.dvd_mul_left q _

theorem unitCharge_lt (u m : Nat) {q : Nat} (hq : 0 < q) :
    unitCharge u m q < rawCharge u m + q := by
  have hfloor := Nat.div_mul_le_self (rawCharge u m + (q - 1)) q
  rw [unitCharge_of_pos u m hq]; omega

theorem rawCharge_le_unitCharge (u m : Nat) {q : Nat} (hq : 0 < q) :
    rawCharge u m ≤ unitCharge u m q := by
  have hfloor := Nat.lt_div_mul_add (a := rawCharge u m + (q - 1)) hq
  rw [unitCharge_of_pos u m hq]; omega

/-- No multiple of Q that reaches E0 is below E: E is less than Q above E0, so a smaller multiple
is at least Q below E and misses E0. -/
theorem unitCharge_le_of_dvd {u m q k : Nat} (hq : 0 < q) (hk : q ∣ k) (hle : rawCharge u m ≤ k) :
    unitCharge u m q ≤ k := by
  have hclose := unitCharge_lt u m hq
  refine Nat.le_of_not_lt fun hlt => ?_
  have hgap : q ≤ unitCharge u m q - k :=
    Nat.le_of_dvd (by omega) (Nat.dvd_sub (dvd_unitCharge u m hq) hk)
  omega

theorem unitCharge_mono {u m u' m' q : Nat} (hq : 0 < q) (hu : u ≤ u') (hm : m ≤ m') :
    unitCharge u m q ≤ unitCharge u' m' q :=
  unitCharge_le_of_dvd hq (dvd_unitCharge u' m' hq)
    (Nat.le_trans (rawCharge_mono hu hm) (rawCharge_le_unitCharge u' m' hq))

theorem unitCharge_zero (m : Nat) {q : Nat} (hq : 0 < q) : unitCharge 0 m q = 0 :=
  Nat.le_zero.mp (unitCharge_le_of_dvd hq (Nat.dvd_zero q) (Nat.le_of_eq (rawCharge_zero m)))

/-! ### The greatest charge -/

theorem rawCharge_greatest : rawCharge 9999 400 = 39996 := by decide

/-- Up to Q = 227 the rounding adds too little to pass 40222; the steps above it are tried one by
one. -/
theorem unitCharge_greatest_le {q : Nat} (hq : 0 < q) (hq' : q ≤ 250) :
    unitCharge 9999 400 q ≤ 40222 := by
  by_cases hsmall : q ≤ 227
  · have hlt := unitCharge_lt 9999 400 hq
    rw [rawCharge_greatest] at hlt; omega
  · have hlarge : ∀ i < 23, unitCharge 9999 400 (228 + i) ≤ 40222 := by decide
    obtain ⟨i, rfl⟩ := Nat.exists_eq_add_of_le (Nat.lt_of_not_le hsmall)
    exact hlarge i (by omega)

/-- Settles O10: each rounding is the least upper multiple, and no charge in range passes that of
U = 9999 and M = 400 at its own Q. -/
theorem unitChargeRoundsUp : Obligations.UnitChargeRoundsUp := by
  refine ⟨fun u m q hu _ hm hq hq' => ?_, by decide, fun _ _ => rfl⟩
  have hraw : rawCharge u m ≤ 39996 :=
    Nat.le_trans (rawCharge_mono hu hm) (Nat.le_of_eq rawCharge_greatest)
  have hunit : unitCharge u m q ≤ 40222 :=
    Nat.le_trans (unitCharge_mono hq hu hm) (unitCharge_greatest_le hq hq')
  have hfree : u = 0 → rawCharge u m = 0 ∧ unitCharge u m q = 0 := by
    rintro rfl; exact ⟨rawCharge_zero m, unitCharge_zero m hq⟩
  have hplain : m = 100 → rawCharge u m = u := by rintro rfl; exact rawCharge_hundred u
  exact ⟨⟨le_hundred_mul_rawCharge u m, hundred_mul_rawCharge_lt u m⟩, dvd_unitCharge u m hq,
    rawCharge_le_unitCharge u m hq, fun _ hk hle => unitCharge_le_of_dvd hq hk hle,
    unitCharge_lt u m hq, hfree, hplain, hraw, hunit⟩

end Sys2Proof.Proofs

/-! The invariants of every step (R12, R30, R38, R76, R165): one relation between states that every operation of
the model keeps to, from the posts up to the commands. -/
namespace Sys2Proof.Proofs
open Sys2Proof.Machine Sys2Proof.Safety Sys2Proof.Laws

/-- From `s` to `t` no invariant is lost, and the queue of commands is the same. -/
structure Keeps (s t : State) : Prop where
  memory : memoryKept s → memoryKept t
  calendar : calendarInRange s → calendarInRange t
  lane : laneHolds s → laneHolds t
  posts : postsHold s → postsHold t
  rings : ringsHold s → ringsHold t
  pending : t.pending = s.pending

/-- What the invariants speak of. -/
def guarded (s : State) :=
  (s.mem, (s.cal.time, s.cal.sub, s.cal.weekday), s.coin.escrow, s.gate.queue, (s.ev.w, s.ev.r),
    (s.ring.w, s.ring.r), s.pending)

theorem Keeps.refl (s : State) : Keeps s s := ⟨id, id, id, id, id, rfl⟩

theorem Keeps.trans {s t u : State} (h : Keeps s t) (h' : Keeps t u) : Keeps s u :=
  ⟨h'.memory ∘ h.memory, h'.calendar ∘ h.calendar, h'.lane ∘ h.lane, h'.posts ∘ h.posts,
    h'.rings ∘ h.rings, h'.pending.trans h.pending⟩

/-- A change of what the invariants do not speak of keeps them. -/
theorem Keeps.same {s t u : State} (h : Keeps s t) (e : guarded u = guarded t) : Keeps s u := by
  refine h.trans ?_
  simp only [guarded, Prod.mk.injEq] at e
  obtain ⟨hmem, ⟨htime, hsub, hday⟩, hlane, hqueue, ⟨hw, hr⟩, ⟨hcw, hcr⟩, hpending⟩ := e
  refine ⟨?_, ?_, ?_, ?_, ?_, hpending⟩
  · rw [memoryKept, memoryKept, hmem]; exact id
  · rw [calendarInRange, calendarInRange, htime, hsub, hday]; exact id
  · rw [laneHolds, laneHolds, hlane]; exact id
  · rw [postsHold, postsHold, hqueue]; exact id
  · rw [ringsHold, ringsHold, hw, hr, hcw, hcr]; exact id

/-- The same, with the state that the change was made to named first. -/
theorem Keeps.of {s u : State} (t : State) (e : guarded u = guarded t) (h : Keeps s t) : Keeps s u :=
  h.same e

theorem Keeps.ite {c : Prop} [Decidable c] {s a b : State} (ha : c → Keeps s a) (hb : ¬ c → Keeps s b) :
    Keeps s (if c then a else b) := by
  split
  · exact ha ‹_›
  · exact hb ‹_›

theorem foldl_keeps {α : Type} {f : State → α → State} {s : State}
    (hf : ∀ t a, Keeps s t → Keeps s (f t a)) (l : List α) {t : State} (h : Keeps s t) :
    Keeps s (l.foldl f t) := by
  induction l generalizing t with
  | nil => exact h
  | cons a l ih => exact ih (hf t a h)

/-! ### Posts (R12, R13) -/

section
variable {s t : State}

theorem raise_keeps (b : Block) (code : Nat) (d : List Byte) (h : Keeps s t) :
    Keeps s (raise b code d t) := by
  unfold raise
  exact .ite (fun _ => h.same rfl) fun _ => h

theorem joinLine_keeps (p : Producer) (l : List Offer) (h : Keeps s t) :
    Keeps s (joinLine p l t) := by
  unfold joinLine
  exact .ite (fun _ => h.same rfl) fun _ => h.same rfl

/-- A queue with a place takes one entry more. -/
theorem append_keeps (e : PostEntry) (hr : t.gate.queue.length < 16) (h : Keeps s t) :
    Keeps s (append e t) :=
  h.trans ⟨id, id, id, fun _ => by simp [postsHold, append]; omega, id, rfl⟩

theorem setImage_guarded (i : ImageId) (x : Image) (s : State) :
    guarded (setImage i x s) = guarded s := by cases i <;> rfl

theorem setImage_keeps (i : ImageId) (x : Image) (h : Keeps s t) : Keeps s (setImage i x t) :=
  h.same (setImage_guarded i x t)

theorem startOwed_keeps (i : ImageId) (h : Keeps s t) : Keeps s (startOwed i t) := by
  unfold startOwed
  exact .ite (fun _ => setImage_keeps i _ h) fun _ => h

theorem appendRun_keeps (i : ImageId) (hr : t.gate.queue.length < 16) (h : Keeps s t) :
    Keeps s (appendRun i t) := by
  unfold appendRun
  dsimp only
  split
  · exact startOwed_keeps i (setImage_keeps i _ (append_keeps _ hr h))
  · exact setImage_keeps i _ h

/-- A place is free only in a queue of fewer than sixteen entries (R12). -/
theorem length_of_placeFree (hp : placeFree t = true) : t.gate.queue.length < 16 :=
  of_decide_eq_true (Bool.and_eq_true_iff.mp hp).2

theorem pumpImage_keeps (i : ImageId) (n : Nat) (h : Keeps s t) : Keeps s (pumpImage i n t) := by
  induction n generalizing t with
  | zero => exact h
  | succ n ih =>
    unfold pumpImage
    exact .ite (fun _ => h) fun _ => .ite
      (fun hp => ih (appendRun_keeps i (length_of_placeFree hp) h)) fun _ => joinLine_keeps _ _ h

theorem goOnImage_keeps (i : ImageId) (h : Keeps s t) : Keeps s (goOnImage i t) :=
  pumpImage_keeps i 20 h

theorem giveRewrite_keeps (i : ImageId) (h : Keeps s t) : Keeps s (giveRewrite i t) := by
  unfold giveRewrite
  refine .ite (fun _ => ?_) fun _ => h
  split
  · exact goOnImage_keeps i (startOwed_keeps i (setImage_keeps i _ h))
  · exact h
  · exact h
  · exact setImage_keeps i _ h
  · exact setImage_keeps i _ h

theorem beginImage_keeps (i : ImageId) (h : Keeps s t) : Keeps s (beginImage i t) :=
  giveRewrite_keeps i (setImage_keeps i _ h)

theorem touchLive_keeps (h : Keeps s t) : Keeps s (touchLive t) := h.same rfl

theorem updTally_keeps (f : Tally → Tally) (h : Keeps s t) : Keeps s (updTally f t) := h.same rfl

theorem offerItems_keeps (p : Producer) (l : List Offer) (h : Keeps s t) :
    Keeps s (offerItems p l t) := by
  induction l generalizing t with
  | nil => exact h
  | cons o l ih =>
    cases o with
    | entry e =>
      unfold offerItems
      exact .ite (fun hp => ih (append_keeps e (length_of_placeFree hp) h))
        fun _ => joinLine_keeps _ _ h
    | imageRun i => exact ih (goOnImage_keeps i h)
    | finished d => exact ih (raise_keeps _ _ _ h)

theorem offer_keeps (p : Producer) (es : List PostEntry) (h : Keeps s t) : Keeps s (offer p es t) :=
  offerItems_keeps p _ h

theorem postImages_keeps (h : Keeps s t) : Keeps s (postImages t) := by
  have tally : Keeps s (if t.img.tallyDirty = true then
      giveRewrite .tally { t with img := { t.img with tallyDirty := false } } else t) :=
    .ite (fun _ => giveRewrite_keeps _ (h.same rfl)) fun _ => h
  exact .ite (fun _ => giveRewrite_keeps _ (tally.same rfl)) fun _ => tally

/-! ### The rings (R29 to R31, R165 to R168) -/

/-- One more record in a ring with room leaves it within its places. -/
theorem unread_next {w r : RingIndex} {n : Nat} (hn : n < 255) (h : unread w r < n) :
    (w + 1 - r).toNat ≤ n := by
  unfold unread at h
  bv_omega

theorem writeEvent_keeps (e : Event) (h : Keeps s t) : Keeps s (writeEvent e t) := by
  unfold writeEvent
  split
  · exact h
  · refine .ite (fun hr => offer_keeps _ _ (h.trans ?_)) fun _ =>
      .ite (fun _ => offer_keeps _ _ (h.same rfl)) fun _ => h.same rfl
    exact ⟨id, id, id, id, fun hk => ⟨unread_next (by omega) hr, hk.2⟩, rfl⟩

theorem flushEvents_keeps (h : Keeps s t) : Keeps s (flushEvents t) := by
  unfold flushEvents
  exact .ite (fun _ => foldl_keeps (fun _ e => writeEvent_keeps e) _ (h.same rfl)) fun _ => h

theorem writeHeld_keeps (h : Keeps s t) : Keeps s (writeHeld t) :=
  foldl_keeps (fun _ e => writeEvent_keeps e) _ (h.same rfl)

theorem placeRecord_keeps (c : CallRecord) (hr : unread t.ring.w t.ring.r < 64) (h : Keeps s t) :
    Keeps s (placeRecord c t) := by
  unfold placeRecord
  split
  · exact h
  · exact offer_keeps _ _ (h.trans
      ⟨id, id, id, id, fun hk => ⟨hk.1, unread_next (by omega) hr⟩, rfl⟩)

theorem dropRecord_keeps (h : Keeps s t) : Keeps s (dropRecord t) := by
  unfold dropRecord
  dsimp only
  split
  · exact h.same rfl
  · exact .ite (fun _ => offer_keeps _ _ (h.same rfl)) fun _ => h.same rfl

theorem fillSlot_keeps (c : CallRecord) (h : Keeps s t) : Keeps s (fillSlot c t) := h.same rfl

theorem placePending_keeps (h : Keeps s t) : Keeps s (placePending t) := by
  unfold placePending
  split
  · exact h
  · exact .ite (fun hr => touchLive_keeps (placeRecord_keeps _ hr (h.same rfl))) fun _ => h

theorem handRecord_keeps (c : CallRecord) (h : Keeps s t) : Keeps s (handRecord c t).1 := by
  have hp := placePending_keeps h
  unfold handRecord
  dsimp only
  split
  · split
    · next hr => exact placeRecord_keeps _ hr (hp.same rfl)
    · exact fillSlot_keeps _ (hp.same rfl)
  · split
    · exact fillSlot_keeps _ (dropRecord_keeps (hp.same rfl))
    · exact dropRecord_keeps (hp.same rfl)

/-- A read index is taken only where it leaves no more unread than there were (R31). -/
theorem takenIndex_le (w r v : RingIndex) : (w - takenIndex w r v).toNat ≤ (w - r).toNat := by
  unfold takenIndex
  split
  · next h => unfold unread at h; bv_omega
  · simp

theorem takeCallIndex_keeps (v : Byte) (h : Keeps s t) : Keeps s (takeCallIndex v t) := by
  unfold takeCallIndex
  split
  · exact h
  · next p _ =>
    have taken := offer_keeps .record
      [.write (p.callsBase + 1) [takenIndex t.ring.w t.ring.r v] .plain]
      (h.trans (u := { t with ring := { t.ring with r := takenIndex t.ring.w t.ring.r v } })
        ⟨id, id, id, id, fun hk => ⟨hk.1, Nat.le_trans (takenIndex_le _ _ v) hk.2⟩, rfl⟩)
    exact .ite (fun _ => placePending_keeps taken) fun _ => taken

theorem takeEventIndex_keeps (v : Byte) (h : Keeps s t) : Keeps s (takeEventIndex v t) := by
  unfold takeEventIndex
  split
  · exact h
  · exact offer_keeps _ _ (h.trans
      ⟨id, id, id, id, fun hk => ⟨Nat.le_trans (takenIndex_le _ _ v) hk.1, hk.2⟩, rfl⟩)

/-! ### Orders (R23, R24) -/

theorem giveOutcome_keeps (n : Fin 16) (o : OrderOutcome) (d : Nat) (h : Keeps s t) :
    Keeps s (giveOutcome n o d t) := by
  unfold giveOutcome
  split
  · exact h
  · exact offer_keeps _ _ h

theorem finishDeferred_keeps (x : Deferred) (code : Nat) (o : OrderOutcome) (d : Nat)
    (h : Keeps s t) : Keeps s (finishDeferred x code o d t) := by
  unfold finishDeferred
  split
  · exact h
  · exact offerItems_keeps _ _ h

theorem slotWritten_keeps (n : Fin 16) (h : Keeps s t) : Keeps s (slotWritten n t) :=
  .ite (fun _ => h.same rfl) fun _ => h.same rfl

theorem indexWritten_keeps (w : RingIndex) (h : Keeps s t) : Keeps s (indexWritten w t) :=
  .ite (fun _ => h.same rfl) fun _ => h.same rfl

end
end Sys2Proof.Proofs

namespace Sys2Proof.Proofs
open Sys2Proof.Machine Sys2Proof.Safety Sys2Proof.Laws
section
variable {s t : State}

/-! ### The line, the reports and the calls -/

theorem closeSeize_keeps (h : Keeps s t) : Keeps s (closeSeize t) :=
  .ite (fun _ => h.same rfl) fun _ => h.same rfl

theorem askSeize_keeps (h : Keeps s t) : Keeps s (askSeize t) :=
  .ite (fun _ => closeSeize_keeps h) fun _ => h.same rfl

theorem releaseLine_keeps (h : Keeps s t) : Keeps s (releaseLine t) :=
  .ite (fun _ => h) fun _ => h.same rfl

theorem startDigit_keepsAll (pulse : Bool) (code : Nat) (h : Keeps s t) :
    Keeps s (startDigit pulse code t) :=
  .ite (fun _ => h.same rfl) fun _ => .ite (fun _ => h.same rfl) fun _ => h.same rfl

theorem nextPhase_keeps (d : Sending) (h : Keeps s t) : Keeps s (nextPhase t d) := by
  unfold nextPhase
  split
  case h_3 => exact .ite (fun _ => h.same rfl) fun _ => h.same rfl
  all_goals exact h.same rfl

theorem handStatus_keeps (code : Nat) (x : RepStatus) (h : Keeps s t) :
    Keeps s (handStatus code x t) := by
  unfold handStatus
  split
  · exact h
  · exact giveRewrite_keeps _ (h.same rfl)

theorem handStatuses_keeps (x : RepStatus) (codes : List Nat) (h : Keeps s t) :
    Keeps s (handStatuses x codes t) := foldl_keeps (fun _ c => handStatus_keeps c x) _ h

theorem requeueFailed_keeps (h : Keeps s t) : Keeps s (requeueFailed t) :=
  handStatuses_keeps _ _ (h.same rfl)

theorem startRound_keeps (h : Keeps s t) : Keeps s (startRound t) :=
  .ite (fun _ => h) fun _ => (requeueFailed_keeps h).same rfl

theorem joinReport_keeps (code sev : Nat) (time : ShortTime) (h : Keeps s t) :
    Keeps s (joinReport code sev time t) := startRound_keeps (h.same rfl)

theorem recordReport_keeps (o : CallOutcome) (h : Keeps s t) : Keeps s (recordReport o t) :=
  .ite (fun _ => raise_keeps _ _ _ (handRecord_keeps _ h)) fun _ => h

theorem endReport_keeps (o : CallOutcome) (h : Keeps s t) : Keeps s (endReport o t) :=
  .of (recordReport o _) rfl (recordReport_keeps o
    (.of (releaseLine _) rfl (releaseLine_keeps (h.same rfl))))

theorem abortReport_keeps (h : Keeps s t) : Keeps s (abortReport t) :=
  have ended : Keeps s (clearSnaps (endReport .abandoned t)) := (endReport_keeps _ h).same rfl
  .ite (fun _ => ended) fun _ => ended.same rfl

theorem countFailure_keeps (h : Keeps s t) : Keeps s (countFailure t) :=
  .ite (fun _ => h) fun _ => .ite (fun _ => h.same rfl) fun _ =>
    raise_keeps _ _ _ (handStatuses_keeps _ _ (h.same rfl))

theorem failReport_keeps (o : CallOutcome) (h : Keeps s t) : Keeps s (failReport o t) :=
  countFailure_keeps ((endReport_keeps o h).same rfl)

theorem succeedReport_keeps (h : Keeps s t) : Keeps s (succeedReport t) := by
  have ended := endReport_keeps .endedByCaller h
  unfold succeedReport
  dsimp only
  generalize hx : raise .report 18 _ _ = u
  have sent : Keeps s u := hx ▸ raise_keeps _ _ _ (handStatuses_keeps _ _ (ended.same rfl))
  exact .ite (fun _ => sent.same rfl) fun _ => sent.same rfl

theorem withdrawReport_keeps (code : Nat) (h : Keeps s t) : Keeps s (withdrawReport code t) :=
  .ite (fun _ => .ite (fun _ => .of (abortReport _) rfl (abortReport_keeps (h.same rfl)))
    fun _ => h.same rfl) fun _ => h.same rfl

theorem chargeCall_keeps (amount : Nat) (h : Keeps s t) : Keeps s (chargeCall amount t) := h.same rfl

theorem judgeWarn_keeps (m : Metered) (h : Keeps s t) : Keeps s (judgeWarn m t) :=
  .ite (fun _ => raise_keeps _ _ _ (h.same rfl)) fun _ => h

theorem beginSettlement_keeps (h : Keeps s t) : Keeps s (beginSettlement t) :=
  .ite (fun _ => h.same rfl) fun _ => h

theorem settleAfterCall_keeps (h : Keeps s t) : Keeps s (settleAfterCall t) :=
  .ite (fun _ => h.same rfl) fun _ => beginSettlement_keeps h

theorem takeEnd_keeps (c : CallInfo) (h : Keeps s t) : Keeps s (takeEnd c t) :=
  .ite (fun _ => beginSettlement_keeps (h.same rfl)) fun _ => h.same rfl

theorem endCall_keeps (o : CallOutcome) (x : Station) (h : Keeps s t) : Keeps s (endCall o x t) := by
  unfold endCall
  split
  · exact h
  · refine Keeps.of (ite _ _ _) rfl (.ite (fun _ => ?_) fun _ => ?_)
    · exact raise_keeps _ _ _ (handRecord_keeps _ (.of (releaseLine _) rfl
        (releaseLine_keeps (.of (takeEnd _ _) rfl (takeEnd_keeps _ (h.same rfl))))))
    · exact .of (releaseLine _) rfl
        (releaseLine_keeps (.of (takeEnd _ _) rfl (takeEnd_keeps _ (h.same rfl))))

theorem judgeMode_keeps (h : Keeps s t) : Keeps s (judgeMode t) :=
  .ite (fun _ => h) fun _ => raise_keeps _ _ _ (h.same rfl)

theorem refuseCall_keeps (why : RefuseReason) (h : Keeps s t) : Keeps s (refuseCall why t) := by
  unfold refuseCall
  split
  · exact h
  · exact endCall_keeps _ _ (raise_keeps _ _ _ h)

theorem creditGate_keeps (z : Zone) (h : Keeps s t) : Keeps s (creditGate z t) :=
  .ite (fun _ => h.same rfl) fun _ => raise_keeps _ _ _ (h.same rfl)

theorem limitNumber_keeps (h : Keeps s t) : Keeps s (limitNumber t) := by
  unfold limitNumber
  split
  · exact h
  · exact .ite (fun _ => h.same rfl) fun _ => h

theorem takeDecision_keeps (d : Decision) (h : Keeps s t) : Keeps s (takeDecision d t) := by
  unfold takeDecision
  split
  · exact limitNumber_keeps (h.same rfl)
  · exact refuseCall_keeps _ (h.same rfl)
  · split
    · exact refuseCall_keeps _ (h.same rfl)
    · exact .ite (fun _ => refuseCall_keeps _ (h.same rfl)) fun _ =>
        .ite (fun _ => refuseCall_keeps _ (h.same rfl)) fun _ =>
        .ite (fun _ => refuseCall_keeps _ (h.same rfl)) fun _ =>
        .ite (fun _ => limitNumber_keeps (h.same rfl)) fun _ =>
          limitNumber_keeps (creditGate_keeps _ (h.same rfl))

theorem completeNumber_keeps (h : Keeps s t) : Keeps s (completeNumber t) := by
  unfold completeNumber
  split
  · exact h
  · exact .ite (fun _ => h) fun _ => .ite (fun _ => h.same rfl) fun _ =>
      takeDecision_keeps _ (h.same rfl)

theorem acceptDigit_keeps (d : Nat) (h : Keeps s t) : Keeps s (acceptDigit d t) := by
  unfold acceptDigit
  split
  · refine .ite (fun _ => limitNumber_keeps (h.same rfl)) fun _ => ?_
    split
    · exact h.same rfl
    · exact takeDecision_keeps _ (h.same rfl)
  · exact h

theorem acceptDigits_keeps (ds : List Nat) (h : Keeps s t) : Keeps s (acceptDigits ds t).1 := by
  induction ds generalizing t with
  | nil => exact h
  | cons d ds ih =>
    unfold acceptDigits
    split
    · exact ih (acceptDigit_keeps d h)
    · exact h

theorem unitTest_keeps (m : Metered) (h : Keeps s t) : Keeps s (unitTest m t) :=
  .ite (fun _ => endCall_keeps _ _ h) fun _ => .ite
    (fun _ => judgeWarn_keeps m ((chargeCall_keeps _ h).same rfl)) fun _ => endCall_keeps _ _ h

theorem meterAnswer_keeps (z : Zone) (h : Keeps s t) : Keeps s (meterAnswer z t) :=
  have charged := fun m => judgeWarn_keeps m (chargeCall_keeps z.s (h.same (u := { t with
    meter := { t.meter with
      metered := some m, units := 0, charge := 0, t := 0,
      nextUnit := if m.timed then z.f else 0 } }) rfl))
  .ite (fun _ => endCall_keeps _ _ h) fun _ => .ite (fun _ => unitTest_keeps _ (charged _))
    fun _ => charged _

theorem answerCall_keeps (h : Keeps s t) : Keeps s (answerCall t) := by
  unfold answerCall
  split
  · exact h
  · dsimp only
    split
    · exact .ite (fun _ => meterAnswer_keeps _ (raise_keeps _ _ _ (h.same rfl)))
        fun _ => raise_keeps _ _ _ (h.same rfl)
    · exact raise_keeps _ _ _ (h.same rfl)

theorem enterRingback_keeps (h : Keeps s t) : Keeps s (enterRingback t) := h.same rfl

/-! ### Money, the lane and the tamper channels -/

theorem startLane_keeps (h : Keeps s t) : Keeps s (startLane t) := by
  unfold startLane
  refine .ite (fun _ => ?_) fun _ => h
  split
  · exact h
  · refine .ite (fun _ => h.same rfl) fun _ => ?_
    split
    · exact .ite (fun _ => h.same rfl) fun _ => h
    · exact h.same rfl
    · exact h

theorem closePurse_keeps (h : Keeps s t) : Keeps s (closePurse t) :=
  .of (raise _ _ _ _) rfl (raise_keeps _ _ _ (h.same rfl))

theorem setHold_keeps (c : HoldCause) (h : Keeps s t) : Keeps s (setHold c t) :=
  .ite (fun _ => .ite (fun _ => h.same rfl) fun _ => h) fun _ =>
    .ite (fun _ => .ite (fun _ => h) fun _ => h.same rfl) fun _ => raise_keeps _ _ _ (h.same rfl)

theorem settleOnHook_keeps (h : Keeps s t) : Keeps s (settleOnHook t) :=
  .ite (fun _ => beginSettlement_keeps h) fun _ => h

theorem coinStarted_keeps (h : Keeps s t) : Keeps s (coinStarted t) :=
  .ite (fun _ => h.same rfl) fun _ => h.same rfl

theorem judgeDemand_keeps (h : Keeps s t) : Keeps s (judgeDemand t) := by
  have settles : Keeps s (if requestInFlight t.coin = true then t
      else if (t.coin.escrow.isEmpty && !inFlight t.coin.lane) = true then closePurse t
      else setHold (holdCauseOf (settleDemand t) t) (setDemand (settleDemand t) t)) :=
    .ite (fun _ => h) fun _ => .ite (fun _ => closePurse_keeps h) fun _ =>
      setHold_keeps _ (h.same rfl)
  unfold judgeDemand
  split
  · exact h.same rfl
  · exact .ite (fun _ => h) fun _ => h.same rfl
  · exact settles
  · exact settles

theorem judgeMoney_keeps (h : Keeps s t) : Keeps s (judgeMoney t) :=
  .ite (fun _ => startLane_keeps (judgeDemand_keeps (settleOnHook_keeps h))) fun _ => h

/-- A lane that loses entries holds no more of them. -/
theorem Keeps.shorter (h : Keeps s t) (l : List EscrowEntry) (hl : l.length ≤ t.coin.escrow.length) :
    Keeps s { t with coin := { t.coin with escrow := l } } :=
  h.trans ⟨id, id, fun hk => Nat.le_trans hl hk, id, id, rfl⟩

theorem completeAction_keeps (h : Keeps s t) : Keeps s (completeAction t) := by
  unfold completeAction
  split
  · exact h
  · next e l he =>
    have left : Keeps s (touchLive { t with coin := { t.coin with
        escrow := l, lane := .clear, gatePos := .hold, dropTimer := none } }) :=
      (h.shorter l (by simp [he])).same rfl
    have moved : ∀ p q b, Keeps s (if t.meter.purse.state = .absent then (touchLive { t with
        coin := { t.coin with escrow := l, lane := .clear, gatePos := .hold, dropTimer := none } })
        else if b = true then setPurse p (touchLive { t with
          coin := { t.coin with escrow := l, lane := .clear, gatePos := .hold, dropTimer := none } })
        else setPurse q (touchLive { t with coin := { t.coin with
          escrow := l, lane := .clear, gatePos := .hold, dropTimer := none } })) := fun p q b =>
      .ite (fun _ => left) fun _ => .ite (fun _ => left.same rfl) fun _ => left.same rfl
    exact .ite (fun _ => left) fun _ =>
      .ite (fun _ => updTally_keeps _ (moved _ _ _)) fun _ => updTally_keeps _ (moved _ _ _)

theorem setUncertain_keeps (h : Keeps s t) : Keeps s (setUncertain t) := h.same rfl

theorem countAccepted_keeps (cls : Nat) (h : Keeps s t) : Keeps s (countAccepted cls t) :=
  .ite (fun _ => h.same rfl) fun _ => h.same rfl

theorem creditCoin_keeps (v : Nat) (h : Keeps s t) : Keeps s (creditCoin v t) :=
  .ite (fun _ => h.same rfl) fun _ => h.same rfl

theorem creditLate_keeps (v : Nat) (h : Keeps s t) : Keeps s (creditLate v t) :=
  .ite (fun _ => settleAfterCall_keeps (creditCoin_keeps v h)) fun _ => creditCoin_keeps v h

/-- A lane with a place takes one entry more (R73, R74). -/
theorem Keeps.longer (h : Keeps s t) (e : EscrowEntry) (hl : t.coin.escrow.length < 10) :
    Keeps s { t with coin := { t.coin with escrow := t.coin.escrow ++ [e] } } :=
  h.trans ⟨id, id, fun _ => by simp [laneHolds]; omega, id, id, rfl⟩

theorem arriveCoin_keeps (cls : Nat) (late : Bool) (hl : t.coin.escrow.length < 10)
    (h : Keeps s t) : Keeps s (arriveCoin cls late t) := by
  unfold arriveCoin
  split
  · exact h
  · have entered := fun e => countAccepted_keeps cls ((h.longer e hl).same (u := touchLive { t with
      coin := { t.coin with
        passages := t.coin.passages.drop 1, escrow := t.coin.escrow ++ [e],
        arrival := nextSeq e.seq } }) rfl)
    cases late
    · exact raise_keeps _ _ _ (creditCoin_keeps _ (entered _))
    · exact raise_keeps _ _ _ (creditLate_keeps _ (entered _))

theorem arriveForeign_keeps (hl : t.coin.escrow.length < 10) (h : Keeps s t) :
    Keeps s (arriveForeign t) :=
  raise_keeps _ _ _ ((h.longer _ hl).same rfl)

theorem arriveFull_keeps (h : Keeps s t) : Keeps s (arriveFull t) :=
  raise_keeps _ _ _ (h.same rfl)

theorem rebuildClass_keepsAll (cls : Nat) (h : Keeps s t) : Keeps s (rebuildClass t cls) := by
  unfold rebuildClass
  split
  · exact h
  · exact .ite (fun _ => h.same rfl) fun _ => h.same rfl

theorem rebuildCounts_keepsAll (h : Keeps s t) : Keeps s (rebuildCounts t) :=
  foldl_keeps (fun _ c => rebuildClass_keepsAll c) _ h

theorem tripOne_keeps (ch : Channel) (h : Keeps s t) : Keeps s (tripOne ch t) := by
  unfold tripOne
  split
  · exact h
  · dsimp only
    refine giveRewrite_keeps _ ?_
    have joined : ∀ c code sev time x b k d, Keeps s
        (raise b k d (if c = true then joinReport code sev time (setChan ch x t) else setChan ch x t)) :=
      fun c code sev time x b k d => raise_keeps _ _ _
        (.ite (fun _ => joinReport_keeps _ _ _ (h.same rfl)) fun _ => h.same rfl)
    have cut : ∀ {u : State}, Keeps s u → Keeps s
        (if ch = .cord ∧ inCall u.call.station = true then endCall .cord .ready u else u) :=
      fun hu => .ite (fun _ => endCall_keeps _ _ hu) fun _ => hu
    exact .ite (fun _ => (cut (joined _ _ _ _ _ _ _ _)).same rfl) fun _ => cut (joined _ _ _ _ _ _ _ _)

theorem condAppears_keeps (ch : Channel) (h : Keeps s t) : Keeps s (condAppears ch t) :=
  .ite (fun _ => h) fun _ => .ite (fun _ => tripOne_keeps _ (tripOne_keeps ch h))
    fun _ => tripOne_keeps ch h

theorem condEnds_keeps (ch : Channel) (h : Keeps s t) : Keeps s (condEnds ch t) :=
  .ite (fun _ => giveRewrite_keeps _ (raise_keeps _ _ _ (h.same rfl))) fun _ => h

theorem judgeChan_keeps (ch : Channel) (b : Bool) (h : Keeps s t) : Keeps s (judgeChan ch b t) :=
  .ite (fun _ => condAppears_keeps ch h) fun _ => condEnds_keeps ch h

theorem strandSlot_keeps (h : Keeps s t) : Keeps s (strandSlot t) :=
  .ite (fun _ => condAppears_keeps _ h) fun _ => (condAppears_keeps _ h).same rfl

theorem reportVisit_keeps (k : Option VisitKind) (h : Keeps s t) : Keeps s (reportVisit k t) :=
  judgeChan_keeps _ _ (judgeChan_keeps _ _ (h.same rfl))

theorem closeVisitRecord_keeps (b : Bool) (h : Keeps s t) : Keeps s (closeVisitRecord b t) :=
  raise_keeps _ _ _ (h.same rfl)

theorem endVisit_keeps (b : Bool) (h : Keeps s t) : Keeps s (endVisit b t) :=
  reportVisit_keeps _ (closeVisitRecord_keeps b h)

theorem visitDoor_keeps (b : Bool) (h : Keeps s t) : Keeps s (visitDoor b t) := by
  unfold visitDoor
  split
  · exact h.same rfl
  · exact endVisit_keeps _ h
  · exact h

theorem visitBox_keeps (b : Bool) (h : Keeps s t) : Keeps s (visitBox b t) := by
  unfold visitBox
  split
  · exact h.same rfl
  · exact .ite (fun _ => h.same rfl) fun _ => endVisit_keeps _ (h.same rfl)
  · exact h

theorem closeBoxOut_keeps (h : Keeps s t) : Keeps s (closeBoxOut t) :=
  .ite (fun _ => h.same rfl) fun _ => h

/-! ### The judgments at the end of a step -/

theorem setBankGuard_guarded (bank : Bank) (on : Bool) (s : State) :
    guarded (setBankGuard bank on s) = guarded s := by cases bank <;> rfl

theorem setBankGuard_keeps (bank : Bank) (on : Bool) (h : Keeps s t) :
    Keeps s (setBankGuard bank on t) := h.same (setBankGuard_guarded bank on t)

theorem activate_keeps (bank : Bank) (x : Tables) (h : Keeps s t) : Keeps s (activate bank x t) := by
  unfold activate
  have raised : ∀ {u : State}, Keeps s u → Keeps s (handBank (some bank) x.edition
      (raise .tariff 21 (activeDetail bank x.edition t.tariff.active) (reselectBand u))) := fun hu =>
    .of (raise _ _ _ _) rfl (raise_keeps _ _ _ (hu.same rfl))
  refine raised ?_
  split
  · exact .ite (fun _ => h.same rfl) fun _ => setBankGuard_keeps _ _ (h.same rfl)
  · exact h.same rfl

theorem judgeActivation_keeps (h : Keeps s t) : Keeps s (judgeActivation t) := by
  unfold judgeActivation
  split
  · exact .ite (fun _ => activate_keeps _ _ h) fun _ => h
  · exact h
  · exact h

theorem judgeActivationClock_keeps (h : Keeps s t) : Keeps s (judgeActivationClock t) :=
  .ite (fun _ => judgeActivation_keeps h) fun _ => giveRewrite_keeps _ (judgeActivation_keeps h)

theorem grantReport_keeps (h : Keeps s t) : Keeps s (grantReport t) := by
  unfold grantReport
  split
  · exact h
  · exact askSeize_keeps (h.same rfl)

theorem judgeReport_keeps (h : Keeps s t) : Keeps s (judgeReport t) := by
  unfold judgeReport
  dsimp only
  split
  · exact h.same rfl
  · exact .ite (fun _ => grantReport_keeps (h.same rfl)) fun _ => h.same rfl

theorem judgeGate_keepsAll (h : Keeps s t) : Keeps s (judgeGate t) := by
  unfold judgeGate
  split
  · exact h
  · exact .ite (fun _ => h.same rfl) fun _ => h

theorem offerDigit_keepsAll (h : Keeps s t) : Keeps s (offerDigit t) := by
  unfold offerDigit
  split
  · exact .ite (fun _ => startDigit_keepsAll _ _ (h.same rfl)) fun _ =>
      .ite (fun _ => startDigit_keepsAll _ _ (h.same rfl)) fun _ => h
  · exact h

theorem judgeRingback_keepsAll (h : Keeps s t) : Keeps s (judgeRingback t) := by
  unfold judgeRingback
  split
  · exact .ite (fun _ => enterRingback_keeps h) fun _ => h
  · exact h

theorem judgeInterDigit_keepsAll (h : Keeps s t) : Keeps s (judgeInterDigit t) := by
  unfold judgeInterDigit
  refine .ite (fun _ => ?_) fun _ => h.same rfl
  split
  · exact h
  · exact h.same rfl

theorem offerReport_keepsAll (h : Keeps s t) : Keeps s (offerReport t) := by
  unfold offerReport
  refine .ite (fun _ => ?_) fun _ => h
  split
  · split
    · exact startDigit_keepsAll _ _ (h.same rfl)
    · exact h.same rfl
  · split
    · exact startDigit_keepsAll _ _ (h.same rfl)
    · exact h.same rfl
  all_goals exact h

theorem judgeSender_keepsAll (h : Keeps s t) : Keeps s (judgeSender t) :=
  offerReport_keepsAll (judgeInterDigit_keepsAll (judgeRingback_keepsAll
    (offerDigit_keepsAll (judgeGate_keepsAll h))))

theorem judgeReasons_keeps (h : Keeps s t) : Keeps s (judgeReasons t) :=
  have judged : ∀ r : BitVec 10, Keeps s (if r = t.coin.reasons then t
      else touchLive { t with coin := { t.coin with reasons := r } }) :=
    fun _ => .ite (fun _ => h) fun _ => h.same rfl
  judged (closingReasons t)

theorem settle_keeps (h : Keeps s t) : Keeps s (settle t) :=
  .ite (fun _ => judgeSender_keepsAll (judgeReport_keeps (judgeMode_keeps
    (judgeActivationClock_keeps (judgeMoney_keeps h))))) fun _ => h

theorem shuffleWaiters_keeps (n : Nat) (h : Keeps s t) : Keeps s (shuffleWaiters n t) := h.same rfl

theorem finish_keeps (n : Nat) (h : Keeps s t) : Keeps s (finish n t) :=
  shuffleWaiters_keeps n (postImages_keeps (flushEvents_keeps (judgeReasons_keeps (settle_keeps h))))

theorem stepWith_keeps {f : State → State} (hf : ∀ {u}, Keeps s u → Keeps s (f u)) (h : Keeps s t) :
    Keeps s (stepWith f t) := finish_keeps _ (hf h)

theorem inRunning_keeps {f : State → State} (hf : ∀ {u}, Keeps s u → Keeps s (f u))
    (h : Keeps s t) : Keeps s (inRunning f t) :=
  .ite (fun _ => stepWith_keeps hf h) fun _ => h

end
end Sys2Proof.Proofs

namespace Sys2Proof.Proofs
open Sys2Proof.Machine Sys2Proof.Safety Sys2Proof.Laws
section
variable {s t : State}

/-! ### Station-processor writes (R1, R15) -/

theorem postOrder_keeps (n : Fin 16) (h : Keeps s t) : Keeps s (postOrder n t) := by
  unfold postOrder
  split
  · exact h
  · have given := fun es => offer_keeps .orderUnit es (h.same (u := setGuard n true t) rfl)
    exact .ite (fun _ => giveOutcome_keeps _ _ _ ((given _).same rfl)) fun _ => (given _).same rfl

theorem freeSlot_keeps (n : Fin 16) (h : Keeps s t) : Keeps s (freeSlot n t) := by
  unfold freeSlot
  split
  · exact h
  · exact .ite (fun _ => offer_keeps _ _ (h.same rfl)) fun _ => h

theorem beginStart_keeps (h : Keeps s t) : Keeps s (beginStart t) := offer_keeps _ _ (h.same rfl)

theorem actOn_keeps (c : ByteClass) (v : Byte) (h : Keeps s t) : Keeps s (actOn c v t) := by
  unfold actOn
  split
  · exact h
  · exact h
  · exact .ite (fun _ => freeSlot_keeps _ h) fun _ => postOrder_keeps _ h
  · exact takeEventIndex_keeps v h
  · exact takeCallIndex_keeps v h
  · exact .ite (fun _ => beginStart_keeps h) fun _ => h

theorem guardedWrite_keeps (a : Addr) (v : Byte) (h : Keeps s t) : Keeps s (guardedWrite a v t) := by
  have counted : Keeps s (if tallyAwaited t = true then
      { t with sys := { t.sys with heldRefused := inc16 t.sys.heldRefused } }
      else updTally (fun t => { t with refusedHost := inc16 t.refusedHost }) t) :=
    .ite (fun _ => h.same rfl) fun _ => h.same rfl
  exact .ite (fun _ => counted) fun _ => raise_keeps _ _ _ counted

theorem serveWrite_keeps (c : ByteClass) (a : Addr) (v : Byte) (h : Keeps s t) :
    Keeps s (serveWrite c a v t) :=
  actOn_keeps c v (h.trans ⟨write_wf _ _ _, id, id, id, id, rfl⟩)

theorem hostWrite_keeps (a : Addr) (v : Byte) (h : Keeps s t) : Keeps s (hostWrite a v t) := by
  unfold hostWrite
  refine .ite (fun _ => h) fun _ => .ite (fun _ => h.same rfl) fun _ => ?_
  split
  · exact guardedWrite_keeps a v h
  · exact .ite (fun _ => h.same rfl) fun _ => serveWrite_keeps _ a v h

theorem serveHeld_keeps (h : Keeps s t) : Keeps s (serveHeld t) := by
  unfold serveHeld
  split
  · exact h
  · exact foldl_keeps (fun _ x hx => stepWith_keeps (hostWrite_keeps x.addr x.value) hx) _
      (stepWith_keeps (serveWrite_keeps _ _ _) (h.same rfl))

/-! ### The Post Engine (R13) -/

/-- The head entry's last byte cycles write memory alone, and a place comes free. -/
theorem finishHead_keeps (h : Keeps s t) : Keeps s (finishHead t).1 := by
  unfold finishHead
  split
  · exact h
  · next hq => exact h.trans ⟨writeRun_wf _ _ _, id, id,
      fun hk => by rw [postsHold, hq, List.length_cons] at hk; exact Nat.le_of_succ_le hk, id, rfl⟩
  · next hq => exact h.trans ⟨id, id, id,
      fun hk => by rw [postsHold, hq, List.length_cons] at hk; exact Nat.le_of_succ_le hk, id, rfl⟩

theorem byteCycle_keeps (h : Keeps s t) : Keeps s (byteCycle t) := by
  unfold byteCycle
  split
  · exact h
  · exact .ite (fun _ => h.trans ⟨write_wf _ _ _, id, id, id, id, rfl⟩) fun _ => h
  · exact .ite (fun _ => h.same rfl) fun _ => h

theorem completeStep_keeps {f : List Byte → State → State}
    (hf : ∀ d {u}, Keeps s u → Keeps s (f d u)) (h : Keeps s t) : Keeps s (completeStep f t) :=
  serveHeld_keeps (stepWith_keeps (fun hu => hf _ (finishHead_keeps hu)) h)

theorem goDark_keeps (b : Bool) (h : Keeps s t) : Keeps s (goDark b t) :=
  h.trans ⟨id, id, fun _ => Nat.zero_le _, fun _ => Nat.zero_le _,
    fun _ => ⟨by simp [goDark, State.reset], by simp [goDark, State.reset]⟩, rfl⟩

theorem endFailing_keeps (h : Keeps s t) : Keeps s (endFailing t) :=
  .ite (fun _ => goDark_keeps _ h) fun _ => h

theorem writtenEffect_keeps (tag : WriteTag) (h : Keeps s t) : Keeps s (writtenEffect tag t) := by
  unfold writtenEffect
  split
  · exact h
  · exact slotWritten_keeps _ h
  · exact indexWritten_keeps _ h
  · exact goOnImage_keeps _ (startOwed_keeps _ h)

theorem handedEffect_keeps (who : Requester) (d : List Byte) (h : Keeps s t) :
    Keeps s (handedEffect who d t) := by
  unfold handedEffect
  split
  case h_5 => exact .ite (fun _ => h.same rfl) fun _ => h
  case h_6 => exact .ite (fun _ => h.same rfl) fun _ => h
  all_goals exact h.same rfl

theorem completeEntry_keeps (h : Keeps s t) : Keeps s (completeEntry t) := by
  unfold completeEntry
  split
  · exact h
  · exact completeStep_keeps (fun _ => writtenEffect_keeps _) h
  · exact .ite (fun _ => h) fun _ => completeStep_keeps (fun d => handedEffect_keeps _ d) h

/-! ### Start-up (R179) -/

theorem startLoad_keeps (h : Keeps s t) : Keeps s (startLoad t) := by
  unfold startLoad
  split
  · exact h
  · exact offer_keeps _ _ (.of (setBankGuard _ _ _) rfl (setBankGuard_keeps _ _ h))

theorem leaveRecords_keeps (h : Keeps s t) : Keeps s (leaveRecords t) := by
  unfold leaveRecords
  split
  · exact offer_keeps _ _ (h.same rfl)
  · exact offer_keeps _ _ (h.same rfl)
  · exact startLoad_keeps h

theorem endRecords_keeps (h : Keeps s t) : Keeps s (endRecords t) :=
  .ite (fun _ => leaveRecords_keeps h) fun _ => h

theorem endLive_keeps (h : Keeps s t) : Keeps s (endLive t) :=
  .ite (fun _ => startLoad_keeps h) fun _ => h

theorem startCoin_keeps (h : Keeps s t) : Keeps s (startCoin t) := by
  unfold startCoin
  refine .ite (fun _ => rebuildCounts_keepsAll ?_) fun _ => .ite (fun _ => h.same rfl) fun _ =>
    coinStarted_keeps (h.same rfl)
  exact (h.shorter [] (Nat.zero_le _)).same rfl

theorem firstJudge_keeps (ch : Channel) (b : Bool) (h : Keeps s t) : Keeps s (firstJudge ch b t) :=
  .ite (fun _ => .ite (fun _ => h) fun _ => h.same rfl) fun _ =>
    .ite (fun _ => condAppears_keeps ch h) fun _ => h

theorem rebuildReports_keeps (h : Keeps s t) : Keeps s (rebuildReports t) := by
  unfold rebuildReports
  dsimp only
  generalize List.foldl _ _ _ = q
  exact .ite (fun _ => h.same rfl) fun _ => .ite
    (fun _ => .of (requeueFailed _) rfl (requeueFailed_keeps (h.same rfl))) fun _ => h.same rfl

theorem startTamper_keeps (h : Keeps s t) : Keeps s (startTamper t) :=
  beginImage_keeps _ (rebuildReports_keeps (firstJudge_keeps _ _ (firstJudge_keeps _ _
    (firstJudge_keeps _ _ (firstJudge_keeps _ _ (firstJudge_keeps _ _ (firstJudge_keeps _ _
    (firstJudge_keeps _ _ (firstJudge_keeps _ _ (h.same rfl))))))))))

theorem finishRestart_keeps (h : Keeps s t) : Keeps s (finishRestart t) := by
  unfold finishRestart
  split
  · exact h
  · exact finishDeferred_keeps _ _ _ _ (h.same rfl)

theorem startVisit_keeps (h : Keeps s t) : Keeps s (startVisit t) :=
  .ite (fun _ => h) fun _ => closeVisitRecord_keeps _ (closeBoxOut_keeps h)

theorem announceLost_keeps (h : Keeps s t) : Keeps s (announceLost t) := by
  unfold announceLost
  split
  · exact h
  · exact raise_keeps _ _ _ (h.same rfl)

theorem startCall_keeps (h : Keeps s t) : Keeps s (startCall t) := h.same rfl

theorem enterRunning_keeps (h : Keeps s t) : Keeps s (enterRunning t) :=
  announceLost_keeps (startTamper_keeps (startVisit_keeps (startCoin_keeps (startCall_keeps
    (finishRestart_keeps (writeHeld_keeps (h.same rfl)))))))

theorem endAnnounce_keeps (h : Keeps s t) : Keeps s (endAnnounce t) :=
  .ite (fun _ => enterRunning_keeps h) fun _ => h

theorem nextStage_keeps (h : Keeps s t) : Keeps s (nextStage t) := by
  unfold nextStage
  split
  · exact endRecords_keeps h
  · exact endLive_keeps h
  · exact endAnnounce_keeps h
  all_goals exact h

theorem announceStart_keeps (h : Keeps s t) : Keeps s (announceStart t) :=
  endAnnounce_keeps (writeEvent_keeps _ (beginImage_keeps _
    (.of (offer _ _ t) rfl (offer_keeps _ _ h))))

theorem refuseProfile_keeps (code : Byte) (h : Keeps s t) : Keeps s (refuseProfile code t) :=
  offer_keeps _ _ (h.same rfl)

theorem beginCold_keeps (p : Profile) (h : Keeps s t) : Keeps s (beginCold p t) :=
  beginImage_keeps _ (offer_keeps _ _ (h.same rfl))

theorem beginRestore_keeps (p : Profile) (h : Keeps s t) : Keeps s (beginRestore p t) :=
  offer_keeps _ _ (offer_keeps _ _ h)

theorem beginSoft_keeps (old : Option Profile) (p : Profile) (h : Keeps s t) :
    Keeps s (beginSoft old p t) := giveRewrite_keeps _ (offer_keeps _ _ (h.same rfl))

theorem acceptProfile_keeps (bs : List Byte) (h : Keeps s t) : Keeps s (acceptProfile bs t) := by
  have begun := fun p (q : Profile) => beginImage_keeps .clock (offer_keeps .orderUnit (scanRuns q)
    (h.same (u := { t with
      gate := { t.gate with profile := some p, slotGuard := slotGuards t.orders.slots },
      sys := { t.sys with accepted := true, stage := .records,
                          status := if profileClamped bs then 2 else 1 },
      cal := { t.cal with note := false },
      coin := { t.coin with inhibits := inhibitsOf p } }) rfl))
  unfold acceptProfile
  refine endRecords_keeps ?_
  split
  · exact beginCold_keeps _ (begun _ _)
  · exact beginRestore_keeps _ (begun _ _)
  · exact beginRestore_keeps _ (begun _ _)
  · exact beginSoft_keeps _ _ (begun _ _)

theorem anchorEffect_keeps (d : List Byte) (h : Keeps s t) : Keeps s (anchorEffect d t) :=
  .ite (fun _ => offer_keeps _ _ (h.same rfl)) fun _ => refuseProfile_keeps _ h

theorem profileEffect_keeps (d : List Byte) (h : Keeps s t) : Keeps s (profileEffect d t) := by
  unfold profileEffect
  dsimp only
  split
  · exact refuseProfile_keeps _ h
  · exact acceptProfile_keeps _ h

theorem scanEffect_keeps (n : Fin 16) (d : List Byte) (h : Keeps s t) : Keeps s (scanEffect n d t) := by
  unfold scanEffect
  split
  · exact h
  · refine .ite (fun _ => h) fun _ => ?_
    split
    · exact h.same rfl
    · exact h.same rfl
    all_goals exact offer_keeps _ _ (h.same rfl)

theorem eventHeaderEffect_keeps (d : List Byte) (h : Keeps s t) :
    Keeps s (eventHeaderEffect d t) := by
  unfold eventHeaderEffect
  split
  · exact h
  · dsimp only
    have taken : ∀ dr lw y, Keeps s { t with
        ev := { t.ev with
          w := byteAt d 0,
          r := if decide (32 < unread (byteAt d 0) (byteAt d 1)) = true then byteAt d 0 else byteAt d 1,
          dropped := dr, lastW := lw },
        sys := y } := fun dr lw y => h.trans ⟨id, id, id, id, fun hk => ⟨by
          dsimp only
          split
          · simp
          · next hu => exact Nat.le_of_not_lt fun hx => hu (decide_eq_true hx), hk.2⟩, rfl⟩
    exact endRecords_keeps (.ite (fun _ => offer_keeps _ _ (taken _ _ _)) fun _ => taken _ _ _)

theorem callHeaderEffect_keeps (d : List Byte) (h : Keeps s t) :
    Keeps s (callHeaderEffect d t) := by
  unfold callHeaderEffect
  split
  · exact h
  · dsimp only
    have taken : ∀ k y, Keeps s { t with
        ring := { t.ring with
          w := byteAt d 0,
          r := if decide (64 < unread (byteAt d 0) (byteAt d 1)) = true then byteAt d 0 else byteAt d 1,
          notKept := k },
        sys := y } := fun k y => h.trans ⟨id, id, id, id, fun hk => ⟨hk.1, by
          dsimp only
          split
          · simp
          · next hu => exact Nat.le_of_not_lt fun hx => hu (decide_eq_true hx)⟩, rfl⟩
    exact endRecords_keeps (placePending_keeps
      (.ite (fun _ => offer_keeps _ _ (taken _ _)) fun _ => taken _ _))

theorem tallyEffect_keeps (d : List Byte) (h : Keeps s t) : Keeps s (tallyEffect d t) :=
  endRecords_keeps (h.same rfl)

theorem tamperEffect_keeps (d : List Byte) (h : Keeps s t) : Keeps s (tamperEffect d t) :=
  endRecords_keeps (h.same rfl)

/-- A usable image names at most ten entries (R184). -/
theorem liveCount_le {bs : List Byte} (h : liveGood bs = true) : liveCount bs ≤ 10 := by
  simp only [liveGood, escrowGood, Bool.and_eq_true, decide_eq_true_eq] at h
  obtain ⟨⟨⟨⟨⟨-, ⟨hcount, -⟩, -⟩, -⟩, -⟩, -⟩, -⟩ := h
  exact hcount

theorem restoreLane_keeps {bs : List Byte} (hg : liveGood bs = true) (h : Keeps s t) :
    Keeps s (restoreLane bs t) := by
  refine h.trans ⟨id, id, fun _ => ?_, id, id, rfl⟩
  simp only [laneHolds, restoreLane]
  split
  · exact Nat.zero_le _
  · simpa [liveEscrow] using liveCount_le hg

theorem restoreLost_keeps (bs : List Byte) (h : Keeps s t) : Keeps s (restoreLost bs t) :=
  .ite (fun _ => .of (handRecord _ _).1 rfl (handRecord_keeps _ h)) fun _ => h

theorem restoreLive_keeps (bs : List Byte) (h : Keeps s t) : Keeps s (restoreLive bs t) := by
  unfold restoreLive
  refine .ite (fun hg => restoreLost_keeps _ (placePending_keeps ?_)) fun _ => h.same rfl
  exact .of (restoreLane bs t) rfl (restoreLane_keeps hg h)

theorem liveEffect_keeps (d : List Byte) (h : Keeps s t) : Keeps s (liveEffect d t) := by
  have rebuilt := rebuildCounts_keepsAll (restoreLive_keeps (t.sys.liveBuf ++ d) h)
  unfold liveEffect
  dsimp only
  generalize rebuildCounts (restoreLive (t.sys.liveBuf ++ d) t) = u at rebuilt ⊢
  exact endLive_keeps (beginImage_keeps _ (rebuilt.same rfl))

theorem endStartLoad_keeps (bank : Bank) (bs : List Byte) (h : Keeps s t) :
    Keeps s (endStartLoad bank bs t) := by
  unfold endStartLoad
  dsimp only
  split
  · refine announceStart_keeps (Keeps.of (ite _ _ _) rfl (.ite (fun _ => h.same rfl) fun _ =>
      giveRewrite_keeps _ (h.same rfl)))
  · exact announceStart_keeps (.of (setBankGuard _ _ _) rfl (setBankGuard_keeps _ _ (h.same rfl)))

theorem endSwapLoad_keeps (bank : Bank) (eff : Option FullTime) (o : Deferred) (bs : List Byte)
    (h : Keeps s t) : Keeps s (endSwapLoad bank eff o bs t) := by
  unfold endSwapLoad
  split
  · exact finishDeferred_keeps _ _ _ _ (raise_keeps _ _ _ (h.same rfl))
  · exact finishDeferred_keeps _ _ _ _ (setBankGuard_keeps _ _ (h.same rfl))

theorem bankEffect_keeps (d : List Byte) (h : Keeps s t) : Keeps s (bankEffect d t) := by
  unfold bankEffect
  dsimp only
  split
  · exact endStartLoad_keeps _ _ h
  · exact endSwapLoad_keeps _ _ _ _ h
  all_goals exact h

theorem softReset_keeps (own : Deferred) (h : Keeps s t) : Keeps s (softReset own t) := by
  have aborted : ∀ {u : State} (l : List (Fin 16)), Keeps s u → Keeps s (l.foldl (fun s n =>
      giveOutcome n .aborted (kindCode .soft) (setSlot n .taken s)) u) := fun l hu =>
    foldl_keeps (fun v n hx => giveOutcome_keeps n .aborted (kindCode .soft)
      (hx.same (u := setSlot n .taken v) rfl)) l hu
  exact .of (List.foldl _ _ _) rfl (aborted (restartAborts own.slot t) (h.same rfl))

end
end Sys2Proof.Proofs

namespace Sys2Proof.Proofs
open Sys2Proof.Machine Sys2Proof.Safety Sys2Proof.Laws
section
variable {s t : State}

/-! ### Power (R16, R17, R177, R178, R183) -/

theorem stopBlocks_keeps (h : Keeps s t) : Keeps s (stopBlocks t) := by
  refine h.trans ⟨id, id, fun hk => ?_, fun hk => ?_, id, rfl⟩
  · show (if t.coin.lane = .flushing then [] else t.coin.escrow).length ≤ 10
    split
    · exact Nat.zero_le _
    · exact hk
  · exact Nat.le_trans (List.length_take_le' 1 t.gate.queue) hk

theorem giveFinal_keeps (h : Keeps s t) : Keeps s (giveFinal t) :=
  .of (giveRewrite _ _) rfl (giveRewrite_keeps .live (h.same rfl))

theorem enterFailing_keeps (h : Keeps s t) : Keeps s (enterFailing t) := by
  have stopped : ∀ r, Keeps s { stopBlocks t with coin := { (stopBlocks t).coin with reasons := r } } :=
    fun _ => .of (stopBlocks t) rfl (stopBlocks_keeps h)
  exact endFailing_keeps (.ite (fun _ => giveFinal_keeps (stopped (closingReasons _)))
    fun _ => stopped (closingReasons _))

theorem startFromDark_keeps (h : Keeps s t) : Keeps s (startFromDark t) := by
  refine h.trans ⟨id, fun hk => ?_, fun _ => Nat.zero_le _, fun _ => by simp [startFromDark, State.reset],
    fun _ => ⟨by simp [startFromDark, State.reset], by simp [startFromDark, State.reset]⟩, rfl⟩
  have cold : calendarInRange State.reset := by decide
  by_cases hd : darkKind t = .cold
  · simpa only [startFromDark, hd, if_true] using cold
  · simpa only [startFromDark, hd, if_false] using hk

/-! ### Orders (R22, R23) -/

theorem answer_keeps (n : Fin 16) (o : OrderOutcome) (d : Nat) (h : Keeps s t) :
    Keeps s (answer n o d t) := giveOutcome_keeps _ _ _ (h.same rfl)

theorem carryOut_keeps {code : Nat} {conds : State → List (Nat × Bool)}
    {owner : Fin 16 → List Byte → State → State}
    (ho : ∀ n d {u}, Keeps s u → Keeps s (owner n d u)) (h : Keeps s t) :
    Keeps s (carryOut code conds owner t) := by
  unfold carryOut
  split
  · refine .ite (fun _ => finish_keeps _ ?_) fun _ => h
    split
    · exact answer_keeps _ _ _ h
    · exact ho _ _ h
  · exact h

theorem takeOrder_keeps (h : Keeps s t) : Keeps s (takeOrder t) := by
  unfold takeOrder
  split
  · exact offer_keeps _ _ (h.same rfl)
  · exact h

theorem beginCall_keeps (h : Keeps s t) : Keeps s (beginCall t) :=
  .of (askSeize _) rfl (askSeize_keeps (h.same rfl))

theorem takeDigits_keeps (n : Fin 16) (d : List Byte) (h : Keeps s t) : Keeps s (takeDigits n d t) := by
  have accepted := acceptDigits_keeps (dialDigits d) h
  exact answer_keeps _ _ _ (.ite (fun _ => completeNumber_keeps accepted) fun _ => accepted)

theorem emergencyInReporting_keeps (ds : List Nat) (h : Keeps s t) :
    Keeps s (emergencyInReporting ds t) := by
  have begun := beginCall_keeps (abortReport_keeps h)
  unfold emergencyInReporting
  dsimp only
  generalize beginCall (abortReport t) = u at begun ⊢
  exact begun.same rfl

theorem dialOrder_keeps (n : Fin 16) (d : List Byte) (h : Keeps s t) : Keeps s (dialOrder n d t) := by
  unfold dialOrder
  split
  · exact answer_keeps _ _ _ h
  · exact .ite (fun _ => .ite (fun _ => answer_keeps _ _ _ h) fun _ =>
        .ite (fun _ => answer_keeps _ _ _ (emergencyInReporting_keeps _ h))
          fun _ => answer_keeps _ _ _ (raise_keeps _ _ _ h))
      fun _ => takeDigits_keeps _ _ (beginCall_keeps h)

theorem dialMoreOrder_keeps (n : Fin 16) (d : List Byte) (h : Keeps s t) :
    Keeps s (dialMoreOrder n d t) := by
  unfold dialMoreOrder
  split
  · exact answer_keeps _ _ _ h
  · exact .ite (fun _ => answer_keeps _ _ _ (h.same rfl)) fun _ => takeDigits_keeps _ _ h

theorem returnOrder_keeps (n : Fin 16) (d : List Byte) (h : Keeps s t) : Keeps s (returnOrder n d t) :=
  .ite (fun _ => answer_keeps _ _ _ h) fun _ =>
    .ite (fun _ => answer_keeps _ _ _ (beginSettlement_keeps h))
      fun _ => answer_keeps _ _ _ (beginSettlement_keeps (endCall_keeps _ _ h))

theorem takeIncoming_keeps (h : Keeps s t) : Keeps s (takeIncoming t) :=
  .of (askSeize _) rfl (askSeize_keeps (h.same rfl))

theorem answerOrder_keeps (n : Fin 16) (d : List Byte) (h : Keeps s t) : Keeps s (answerOrder n d t) :=
  .ite (fun _ => answer_keeps _ _ _ (takeIncoming_keeps h)) fun _ => answer_keeps _ _ _ h

theorem clockChanged_keeps (kind : Byte) (old : FullTime) (h : Keeps s t) :
    Keeps s (clockChanged kind old t) := giveRewrite_keeps _ (writeEvent_keeps _ (h.same rfl))

/-! ### The calendar (R38, R39, R43 to R45) -/

/-- What a time in range is (R43). -/
theorem timeFault_eq_none {x : FullTime} : timeFault x = none ↔
    x.year ≤ 99 ∧ 1 ≤ x.month ∧ x.month ≤ 12 ∧ 1 ≤ x.day ∧ x.day ≤ monthLength x.year x.month
      ∧ x.hour ≤ 23 ∧ x.minute ≤ 59 ∧ x.second ≤ 59 := by
  unfold timeFault
  repeat' split
  all_goals simp only [reduceCtorEq, false_iff, true_iff]; omega

theorem weekdayOf_lt (x : FullTime) : weekdayOf x < 7 := Nat.mod_lt _ (by decide)

theorem monthLength_pos (y m : Nat) : 1 ≤ monthLength y m := by
  unfold monthLength
  repeat' split
  all_goals omega

/-- A day carry leaves a time in its ranges (R38). -/
theorem nextDay_inRange {x : FullTime} (h : timeFault x = none) : timeFault (nextDay x).1 = none := by
  rw [timeFault_eq_none] at h ⊢
  obtain ⟨hy, hm, hm', hd, hd', hh, hmin, hs⟩ := h
  unfold nextDay
  split
  · exact ⟨hy, hm, hm', by simp, by assumption, hh, hmin, hs⟩
  · split
    · exact ⟨hy, by simp, by assumption, by simp, monthLength_pos _ _, hh, hmin, hs⟩
    · split
      · exact ⟨by assumption, by simp, by simp, by simp, monthLength_pos _ _, hh, hmin, hs⟩
      · exact ⟨by simp, by simp, by simp, by simp, monthLength_pos _ _, hh, hmin, hs⟩

/-- A calendar's counters are in their ranges. -/
def calGood (c : Calendar) : Prop := timeFault c.time = none ∧ c.sub ≤ 9 ∧ c.weekday ≤ 6

theorem carryMinute_good {c : Calendar} (h : calGood c) : calGood (carryMinute c) := by
  obtain ⟨ht, hs, hw⟩ := h
  have hr := timeFault_eq_none.mp ht
  unfold carryMinute
  split
  · exact ⟨timeFault_eq_none.mpr (by dsimp only; omega), hs, hw⟩
  · split
    · exact ⟨timeFault_eq_none.mpr (by dsimp only; omega), hs, hw⟩
    · have hn : timeFault (nextDay { c.time with minute := 0, hour := 0 }).1 = none :=
        nextDay_inRange (timeFault_eq_none.mpr (by dsimp only; omega))
      dsimp only
      split
      · exact ⟨hn, hs, Nat.le_of_lt_succ (weekdayOf_lt _)⟩
      · refine ⟨hn, hs, ?_⟩
        dsimp only
        split <;> omega

theorem carrySecond_good {c : Calendar} (h : calGood c) : calGood (carrySecond c).1 := by
  obtain ⟨ht, -, hw⟩ := h
  have hr := timeFault_eq_none.mp ht
  unfold carrySecond
  split
  · exact ⟨timeFault_eq_none.mpr (by dsimp only; omega), Nat.zero_le _, hw⟩
  · exact carryMinute_good ⟨timeFault_eq_none.mpr (by dsimp only; omega), Nat.zero_le _, hw⟩

theorem adjustTime_good {c : Calendar} (h : calGood c) : calGood (adjustTime c) := by
  obtain ⟨ht, -, hw⟩ := h
  have hr := timeFault_eq_none.mp ht
  have h1 : calGood { c with time := { c.time with second := 0 }, sub := 0 } :=
    ⟨timeFault_eq_none.mpr (by dsimp only; omega), Nat.zero_le _, hw⟩
  unfold adjustTime
  split
  · exact h1
  · exact carryMinute_good h1

/-- A change of the calendar that keeps its ranges. -/
theorem Keeps.clock (h : Keeps s t) (c : Calendar) (hc : calGood t.cal → calGood c) :
    Keeps s { t with cal := c } := h.trans ⟨id, hc, id, id, id, rfl⟩

theorem setOrder_keeps (n : Fin 16) (d : List Byte) (h : Keeps s t) : Keeps s (setOrder n d t) := by
  unfold setOrder
  dsimp only
  split
  · exact answer_keeps _ _ _ h
  · next hf => exact answer_keeps _ _ _ (clockChanged_keeps _ _ (h.clock _ fun _ =>
      ⟨hf, Nat.zero_le _, Nat.le_of_lt_succ (weekdayOf_lt _)⟩))

theorem adjustOrder_keeps (n : Fin 16) (d : List Byte) (h : Keeps s t) : Keeps s (adjustOrder n d t) :=
  .ite (fun _ => answer_keeps _ _ _ h) fun _ =>
    answer_keeps _ _ _ (clockChanged_keeps _ _ (h.clock _ adjustTime_good))

theorem tickBlocks_keeps (h : Keeps s t) : Keeps s (tickBlocks t) :=
  .ite (fun _ => h.same rfl) fun _ => h

theorem advanceCalendar_keeps (h : Keeps s t) : Keeps s (advanceCalendar t) := by
  have carried := h.clock (carrySecond t.cal).1 carrySecond_good
  exact .ite (fun _ => carried.same rfl) fun _ => carried

theorem secondTenth_keeps (h : Keeps s t) : Keeps s (secondTenth t) :=
  .ite (fun _ => touchLive_keeps (advanceCalendar_keeps (tickBlocks_keeps h)))
    fun _ => advanceCalendar_keeps (tickBlocks_keeps h)

theorem secondWork_keeps (h : Keeps s t) : Keeps s (secondWork t) :=
  giveRewrite_keeps _ (giveRewrite_keeps _
    (.ite (fun _ => judgeActivation_keeps (secondTenth_keeps h)) fun _ => secondTenth_keeps h))

theorem tickBlocks_cal (s : State) : (tickBlocks s).cal = s.cal := by
  unfold tickBlocks
  split <;> rfl

theorem tenth_keeps (hs : t.cal.sub ≠ 9) (h : Keeps s t) :
    Keeps s { tickBlocks t with cal := { (tickBlocks t).cal with sub := (tickBlocks t).cal.sub + 1 } } := by
  refine (tickBlocks_keeps h).clock _ fun hg => ⟨hg.1, ?_, hg.2.2⟩
  have := hg.2.1
  rw [tickBlocks_cal] at this ⊢
  dsimp only
  omega

/-! ### The other orders -/

theorem acceptSwap_keeps (bank : Bank) (eff : Option FullTime) (o : Deferred) (h : Keeps s t) :
    Keeps s (acceptSwap bank eff o t) := by
  have withdrawn : Keeps s (withdrawPending bank t) := by
    unfold withdrawPending
    split
    · exact .ite (fun _ => h) fun _ => setBankGuard_keeps _ _ h
    all_goals exact h
  unfold acceptSwap
  split
  · exact h
  · exact offer_keeps _ _ (.of (setBankGuard _ _ _) rfl (setBankGuard_keeps _ _ withdrawn))

theorem swapOrder_keeps (n : Fin 16) (d : List Byte) (h : Keeps s t) : Keeps s (swapOrder n d t) := by
  unfold swapOrder
  split
  · exact answer_keeps _ _ _ h
  · exact acceptSwap_keeps _ _ _ h
  · exact answer_keeps _ _ _ h

theorem openOrder_keeps (n : Fin 16) (d : List Byte) (h : Keeps s t) : Keeps s (openOrder n d t) := by
  unfold openOrder
  refine .ite (fun _ => answer_keeps _ _ _ h) fun _ => .ite (fun _ => answer_keeps _ _ _ h) fun _ => ?_
  split
  · exact answer_keeps _ _ _ h
  · exact answer_keeps _ _ _ (raise_keeps _ _ _ (reportVisit_keeps _ (h.same rfl)))

theorem closeOrder_keeps (n : Fin 16) (d : List Byte) (h : Keeps s t) : Keeps s (closeOrder n d t) :=
  .ite (fun _ => answer_keeps _ _ _ h) fun _ =>
    answer_keeps _ _ _ (endVisit_keeps _ (closeBoxOut_keeps h))

theorem clearChannel_keeps (ch : Channel) (h : Keeps s t) : Keeps s (clearChannel ch t) := by
  unfold clearChannel
  dsimp only
  exact giveRewrite_keeps _ (.ite (fun _ => withdrawReport_keeps _ (h.same rfl)) fun _ => h.same rfl)

theorem clearOrder_keeps (n : Fin 16) (d : List Byte) (h : Keeps s t) : Keeps s (clearOrder n d t) := by
  unfold clearOrder
  split
  · exact answer_keeps _ _ _ h
  · split
    · exact answer_keeps _ _ _ h
    · exact answer_keeps _ _ _ h
    · exact answer_keeps _ _ _ (clearChannel_keeps _ h)

theorem reportOrder_keeps (n : Fin 16) (d : List Byte) (h : Keeps s t) : Keeps s (reportOrder n d t) :=
  .ite (fun _ => answer_keeps _ _ _ h) fun _ => answer_keeps _ _ _ (joinReport_keeps _ _ _ h)

theorem clearLaneNow_keeps (h : Keeps s t) : Keeps s (clearLaneNow t) := by
  have emptied : ∀ {u : State}, Keeps s u → Keeps s { u with coin := { u.coin with
      escrow := [], lane := .clear, gatePos := .hold, dropTimer := none } } := fun hu =>
    (hu.shorter [] (Nat.zero_le _)).same rfl
  have credited : ∀ {u : State} p, Keeps s u →
      Keeps s (if purseOpen u = true then setPurse p u else u) := fun _ hu =>
    .ite (fun _ => hu.same rfl) fun _ => hu
  unfold clearLaneNow
  refine Keeps.of (ite _ _ _) rfl (.ite (fun _ => condEnds_keeps _ ?_) fun _ => ?_)
  all_goals exact emptied (credited _ (h.same rfl))

theorem laneOrder_keeps (n : Fin 16) (d : List Byte) (h : Keeps s t) : Keeps s (laneOrder n d t) :=
  .ite (fun _ => answer_keeps _ _ _ (clearLaneNow_keeps h)) fun _ => answer_keeps _ _ _ h

theorem serviceOrder_keeps (n : Fin 16) (d : List Byte) (h : Keeps s t) :
    Keeps s (serviceOrder n d t) :=
  .ite (fun _ => answer_keeps _ _ _ h) fun _ => .ite (fun _ => answer_keeps _ _ _ h)
    fun _ => answer_keeps _ _ _ (h.same rfl)

/-! ### The bodies of the steps -/

theorem entryBody_keeps (h : Keeps s t) : Keeps s (entryBody t) :=
  .ite (fun _ => h.same rfl) fun _ => h.same rfl

theorem strobeBody_keeps (code : Nat) (h : Keeps s t) : Keeps s (strobeBody code t) := by
  unfold strobeBody
  split
  · exact h
  · exact .ite (fun _ => h.same rfl) fun _ => .ite (fun _ => raise_keeps _ _ _ (h.same rfl))
      fun _ => .ite (fun _ => h.same rfl) fun _ => h.same rfl

theorem strandBody_keeps (p : Passage) (h : Keeps s t) : Keeps s (strandBody p t) :=
  strandSlot_keeps (raise_keeps _ _ _ (h.same rfl))

theorem laneBody_keeps (h : Keeps s t) : Keeps s (laneBody t) := by
  unfold laneBody
  refine .ite (fun _ => arriveFull_keeps h) fun hl => ?_
  have hroom := Nat.lt_of_not_le hl
  split
  · split
    · exact arriveCoin_keeps _ _ hroom h
    · exact arriveForeign_keeps hroom h
  · exact arriveForeign_keeps hroom h

theorem dropBody_keeps (h : Keeps s t) : Keeps s (dropBody t) := by
  have unexpected : Keeps s (unexpectedDrop t) :=
    have marked := raise_keeps .coin 13 [2, b8 t.coin.escrow.length] (setUncertain_keeps h)
    .ite (fun _ => marked) fun _ => condEnds_keeps _ (condAppears_keeps _ marked)
  unfold dropBody
  split
  · exact completeAction_keeps h
  · exact completeAction_keeps h
  · exact unexpected
  · exact unexpected
  · exact h.same rfl

theorem jamBody_keeps (h : Keeps s t) : Keeps s (jamBody t) :=
  condAppears_keeps _ (raise_keeps _ _ _ (h.same rfl))

theorem flushBody_keeps (h : Keeps s t) : Keeps s (flushBody t) :=
  coinStarted_keeps (raise_keeps _ _ _ (h.same rfl))

theorem boxBody_keeps (h : Keeps s t) : Keeps s (boxBody t) := visitBox_keeps _ (h.same rfl)

theorem offHookBody_keeps (h : Keeps s t) : Keeps s (offHookBody t) := by
  unfold offHookBody
  dsimp only
  split
  case h_2 => exact takeIncoming_keeps (h.same rfl)
  all_goals exact h.same rfl

theorem onHookBody_keeps (h : Keeps s t) : Keeps s (onHookBody t) := by
  unfold onHookBody
  dsimp only
  split
  case h_2 | h_3 | h_4 | h_5 | h_6 => exact endCall_keeps _ _ (h.same rfl)
  all_goals exact h.same rfl

theorem answerBody_keeps (h : Keeps s t) : Keeps s (answerBody t) := by
  unfold answerBody
  dsimp only
  split
  · exact answerCall_keeps (h.same rfl)
  · exact .ite (fun _ => answerCall_keeps (enterRingback_keeps (h.same rfl))) fun _ => h.same rfl
  · exact .ite (fun _ => h.same rfl) fun _ => h.same rfl
  all_goals exact h.same rfl

theorem answerLimitBody_keeps (h : Keeps s t) : Keeps s (answerLimitBody t) :=
  .ite (fun _ => endCall_keeps _ _ h) fun _ => .ite (fun _ => failReport_keeps _ h) fun _ => h

theorem ringBody_keeps (h : Keeps s t) : Keeps s (ringBody t) :=
  .ite (fun _ => .ite (fun _ => h.same rfl) fun _ =>
    .ite (fun _ => raise_keeps _ _ _ (h.same rfl)) fun _ => h) fun _ => h

theorem loopBody_keeps (h : Keeps s t) : Keeps s (loopBody t) :=
  .ite (fun _ => raise_keeps _ _ _ (h.same rfl)) fun _ => .ite (fun _ => h.same rfl) fun _ => h.same rfl

theorem noLineBody_keeps (h : Keeps s t) : Keeps s (noLineBody t) :=
  .ite (fun _ => failReport_keeps _ h) fun _ => endCall_keeps _ _ (raise_keeps _ _ _ h)

theorem toneBody_keeps (h : Keeps s t) : Keeps s (toneBody t) :=
  .ite (fun _ => h.same rfl) fun _ => h.same rfl

theorem noToneBody_keeps (h : Keeps s t) : Keeps s (noToneBody t) :=
  .ite (fun _ => failReport_keeps _ h) fun _ => endCall_keeps _ _ (raise_keeps _ _ _ h)

theorem lossBody_keeps (h : Keeps s t) : Keeps s (lossBody t) :=
  .ite (fun _ => failReport_keeps _ (h.same rfl)) fun _ => endCall_keeps _ _ (h.same rfl)

theorem clearBody_keeps (h : Keeps s t) : Keeps s (clearBody t) := by
  unfold clearBody
  dsimp only
  split
  · exact endCall_keeps _ _ (h.same rfl)
  · exact endCall_keeps _ _ (h.same rfl)
  · exact .ite (fun _ => failReport_keeps _ (h.same rfl)) fun _ => h.same rfl
  all_goals exact h.same rfl

theorem pulseBody_keeps (phase : Nat) (h : Keeps s t) : Keeps s (pulseBody phase t) := by
  unfold pulseBody
  refine .ite (fun _ => ?_) fun _ => h
  dsimp only
  split
  · exact unitTest_keeps _ (h.same rfl)
  · exact h.same rfl

theorem guardBody_keeps (h : Keeps s t) : Keeps s (guardBody t) := by
  have released : Keeps s (setLine .released (updLine (fun l => { l with guard := none }) t)) :=
    h.same rfl
  have left : Keeps s (if (setLine .released (updLine (fun l => { l with guard := none }) t)).report.phase
      = .clearing then { setLine .released (updLine (fun l => { l with guard := none }) t) with
        report := { (setLine .released (updLine (fun l => { l with guard := none }) t)).report with
          phase := .noCall } }
      else setLine .released (updLine (fun l => { l with guard := none }) t)) :=
    .ite (fun _ => released.same rfl) fun _ => released
  exact .ite (fun _ => closeSeize_keeps left) fun _ => left

theorem debouncedBody_keeps (x : Housing) (h : Keeps s t) : Keeps s (debouncedBody x t) :=
  .ite (fun _ => visitDoor_keeps _ (judgeChan_keeps _ _ (h.same rfl)))
    fun _ => judgeChan_keeps _ _ (h.same rfl)

theorem edgeBody_keeps (x : Housing) (b : Bool) (h : Keeps s t) : Keeps s (edgeBody x b t) :=
  .of (ite _ _ _) rfl (.ite (fun _ => h.same rfl) fun _ => h)

theorem shockBody_keeps (h : Keeps s t) : Keeps s (shockBody t) :=
  .ite (fun _ => condAppears_keeps _ (h.same rfl)) fun _ => h.same rfl

theorem newRoundBody_keeps (h : Keeps s t) : Keeps s (newRoundBody t) :=
  .of (requeueFailed _) rfl (requeueFailed_keeps h)

theorem ackBody_keeps (h : Keeps s t) : Keeps s (ackBody t) :=
  .ite (fun _ => h.same rfl) fun _ => succeedReport_keeps h

theorem letIn_keeps (hr : t.gate.queue.length < 16) (h : Keeps s t) : Keeps s (letIn t) := by
  unfold letIn
  split
  · exact h
  · dsimp only
    split
    · exact h.same rfl
    · exact offerItems_keeps _ _ (append_keeps _ hr (h.same rfl))
    · exact offerItems_keeps _ _ (goOnImage_keeps _ (appendRun_keeps _ hr (h.same rfl)))
    · exact offerItems_keeps _ _ (h.same rfl)

end
end Sys2Proof.Proofs

namespace Sys2Proof.Proofs
open Sys2Proof.Machine Sys2Proof.Safety Sys2Proof.Laws

/-! ### Every command -/

/-- The outcome is a next state that keeps the invariants of `s`. -/
def Reaches (s : State) (o : Host.Outcome State Fault Refusal) : Prop :=
  ∃ t, o = .next t ∧ Keeps s t

section
variable {s t u : State}

theorem Reaches.next (h : Keeps s t) : Reaches s (.next t) := ⟨t, rfl, h⟩

theorem Reaches.ite {c : Prop} [Decidable c] {a b : Host.Outcome State Fault Refusal}
    (ha : c → Reaches s a) (hb : ¬ c → Reaches s b) : Reaches s (if c then a else b) := by
  split
  · exact ha ‹_›
  · exact hb ‹_›

/-- A body that runs where its cause stands, and otherwise nothing. -/
theorem Reaches.due {c : Prop} [Decidable c] {f : State → State}
    (hf : ∀ {s u}, Keeps s u → Keeps s (f u)) :
    Reaches s (if c then .next (inRunning f s) else .next s) :=
  .ite (fun _ => .next (inRunning_keeps hf (.refl s))) fun _ => .next (.refl s)

/-- An input level that moves, with what its change starts. -/
theorem Reaches.level {c : Prop} [Decidable c] {f : State → State} {p : Pins}
    (hf : ∀ {s u}, Keeps s u → Keeps s (f u)) :
    Reaches s (if c then .next s else .next (inRunning f { s with pins := p })) :=
  .ite (fun _ => .next (.refl s)) fun _ => .next (inRunning_keeps hf ((Keeps.refl s).same rfl))

/-- A start-up read's own command. -/
theorem Reaches.read {who : Requester} {f : List Byte → State → State}
    (hf : ∀ d {s u}, Keeps s u → Keeps s (f d u)) : Reaches s (.next (startRead who f s)) :=
  .next (.ite (fun _ => completeStep_keeps (fun d => hf d) (.refl s)) fun _ => .refl s)

/-- An order carried out. -/
theorem Reaches.order {code : Nat} {conds : State → List (Nat × Bool)}
    {owner : Fin 16 → List Byte → State → State}
    (ho : ∀ n d {s u}, Keeps s u → Keeps s (owner n d u)) :
    Reaches s (.next (carryOut code conds owner s)) :=
  .next (carryOut_keeps (fun n d => ho n d) (.refl s))

/-- A station-processor write. -/
theorem Reaches.write (a : Addr) (v : Byte) : Reaches s (.next (stepWith (hostWrite a v) s)) :=
  .next (stepWith_keeps (hostWrite_keeps a v) (.refl s))

/-- Every command answers a next state that keeps the invariants. -/
theorem exec_reaches (c : Instr) (s : State) : Reaches s (exec c s) := by
  have stay : Reaches s (.next s) := .next (.refl s)
  cases c with
  | stationProcessorWrite addr value => exact .write _ _
  | orderPosted slot code =>
    unfold exec execOrderPosted
    dsimp only
    split
    · exact stay
    · exact .ite (fun _ => stay) fun _ => .write _ _
  | slotFreed slot =>
    unfold exec execSlotFreed
    dsimp only
    split
    · exact stay
    · exact .write _ _
  | restartByteWrite value => exact .write _ _
  | eventReadIndexWrite value =>
    unfold exec execEventReadIndexWrite
    dsimp only
    split
    · exact stay
    · exact .write _ _
  | callRingReadIndexWrite value =>
    unfold exec execCallRingReadIndexWrite
    dsimp only
    split
    · exact stay
    · exact .write _ _
  | postEntryComplete => exact .next (endFailing_keeps (completeEntry_keeps (.refl s)))
  | producerAdmitted =>
    refine Reaches.ite (fun _ => stay) fun h => .next (finish_keeps _ (nextStage_keeps
      (letIn_keeps ?_ (.refl s))))
    exact Nat.lt_of_not_le fun hq => h (.inr hq)
  | restartProperBegins =>
    exact .ite (fun _ => .next (stepWith_keeps beginStart_keeps (.refl s))) fun _ => stay
  | anchorRead => exact .read fun d => anchorEffect_keeps d
  | profileCheck => exact .read fun d => profileEffect_keeps d
  | slotScan =>
    unfold exec execSlotScan
    dsimp only
    split
    · exact .read fun d => scanEffect_keeps _ d
    · exact stay
  | eventRingHeaderRead => exact .read fun d => eventHeaderEffect_keeps d
  | callRingHeaderRead => exact .read fun d => callHeaderEffect_keeps d
  | tallyRead => exact .read fun d => tallyEffect_keeps d
  | tamperAreaRead => exact .read fun d => tamperEffect_keeps d
  | liveImageRead => exact .read fun d => liveEffect_keeps d
  | bankLoadCheck =>
    exact .ite (fun _ => .next (completeStep_keeps (fun d => bankEffect_keeps d) (.refl s)))
      fun _ => stay
  | orderTaken => exact .ite (fun _ => .next (stepWith_keeps takeOrder_keeps (.refl s))) fun _ => stay
  | unknownOrder =>
    unfold exec execUnknownOrder
    dsimp only
    split
    · exact .ite (fun _ => stay) fun _ => .next (stepWith_keeps (answer_keeps _ _ _) (.refl s))
    · exact stay
  | dial => exact .order fun n d => dialOrder_keeps n d
  | dialMore => exact .order fun n d => dialMoreOrder_keeps n d
  | returnCoins => exact .order fun n d => returnOrder_keeps n d
  | nextCall => exact .order fun n d _ _ h => answer_keeps n _ _ (endCall_keeps _ _ h)
  | answer => exact .order fun n d => answerOrder_keeps n d
  | setClock => exact .order fun n d => setOrder_keeps n d
  | adjustClock => exact .order fun n d => adjustOrder_keeps n d
  | swapTariff => exact .order fun n d => swapOrder_keeps n d
  | openVisit => exact .order fun n d => openOrder_keeps n d
  | closeVisit => exact .order fun n d => closeOrder_keeps n d
  | clearTamper => exact .order fun n d => clearOrder_keeps n d
  | reportNow => exact .order fun n d => reportOrder_keeps n d
  | clearLane => exact .order fun n d => laneOrder_keeps n d
  | service => exact .order fun n d => serviceOrder_keeps n d
  | restart => exact .order fun n d => softReset_keeps ⟨n, byteAt d 1⟩
  | secondCarry => exact .ite (fun _ => .next (stepWith_keeps secondWork_keeps (.refl s))) fun _ => stay
  | batteryFail =>
    refine .ite (fun _ => stay) fun _ => .next ?_
    exact (Keeps.refl s).trans ⟨fun _ => rfl, id, id, id, id, rfl⟩
  | entryEdge => exact .level entryBody_keeps
  | entryClear =>
    exact .ite (fun _ => .next (inRunning_keeps (fun h => h.same rfl) ((Keeps.refl s).same rfl)))
      fun _ => stay
  | strobe code => exact .next (inRunning_keeps (strobeBody_keeps _) (.refl s))
  | passageWindowExpiry =>
    unfold exec execPassageWindowExpiry
    dsimp only
    split
    · exact .next (inRunning_keeps (strandBody_keeps _) (.refl s))
    · exact stay
  | laneEdge => exact .next (inRunning_keeps laneBody_keeps (.refl s))
  | dropEdge => exact .next (inRunning_keeps dropBody_keeps (.refl s))
  | dropWindowExpiry => exact .due jamBody_keeps
  | flushEnd => exact .due flushBody_keeps
  | boxSwitchChange => exact .due boxBody_keeps
  | hookInputChange offHook => exact .level fun h => h.same rfl
  | offHook => exact .due offHookBody_keeps
  | onHook => exact .due onHookBody_keeps
  | interDigitExpiry => exact .due fun h => completeNumber_keeps (h.same rfl)
  | creditHoldExpiry => exact .due (endCall_keeps _ _)
  | digitSignalEnd =>
    unfold exec execDigitSignalEnd
    dsimp only
    split
    · exact .due fun h => h.same rfl
    · exact stay
  | answerDetected => exact .due answerBody_keeps
  | answerLimitExpiry => exact .next (inRunning_keeps answerLimitBody_keeps (.refl s))
  | unitStart =>
    unfold exec execUnitStart
    dsimp only
    split
    · exact .due (unitTest_keeps _)
    · exact stay
  | warnBurstTimer => exact .due fun h => h.same rfl
  | ringReport => exact .next (inRunning_keeps ringBody_keeps (.refl s))
  | ringTimerExpiry => exact .due fun h => h.same rfl
  | loopPresent => exact .due loopBody_keeps
  | loopTimerExpiry => exact .due noLineBody_keeps
  | dialToneFound => exact .due toneBody_keeps
  | dialToneLimitExpiry => exact .due noToneBody_keeps
  | lineLoss => exact .due lossBody_keeps
  | farEndClear => exact .due clearBody_keeps
  | meterPulse phase => exact .next (inRunning_keeps (pulseBody_keeps phase) (.refl s))
  | clearingGuardEnd => exact .due guardBody_keeps
  | housingInputEdge input isOpen => exact .level (edgeBody_keeps input isOpen)
  | housingInputDebounced input => exact .due (debouncedBody_keeps input)
  | shockPulse => exact .next (inRunning_keeps shockBody_keeps (.refl s))
  | shockWindowEnd => exact .due fun h => h.same rfl
  | shockQuietExpiry => exact .due fun h => condEnds_keeps _ (h.same rfl)
  | slotBlockExpiry => exact .due fun h => condAppears_keeps _ (h.same rfl)
  | slotClearExpiry => exact .due fun h => condEnds_keeps _ (h.same rfl)
  | linevChange present => exact .level fun h => h.same rfl
  | lineVoltageLossExpiry => exact .due fun h => condAppears_keeps _ (h.same rfl)
  | lineVoltagePresentExpiry => exact .due fun h => condEnds_keeps _ (h.same rfl)
  | forceWindowEnd => exact .due fun h => giveRewrite_keeps _ (condEnds_keeps _ (h.same rfl))
  | visitDoorTimerExpiry => exact .due (endVisit_keeps _)
  | attemptDue => exact .due fun h => h.same rfl
  | newRoundDue => exact .due newRoundBody_keeps
  | centreTone => exact .due fun h => h.same rfl
  | centreTimerExpiry => exact .due (failReport_keeps _)
  | ackTone => exact .due ackBody_keeps
  | nakTone => exact .due (failReport_keeps _)
  | ackTimerExpiry => exact .due (failReport_keeps _)
  | powerFail =>
    have cut : Keeps s { s with gate := { s.gate with inhibit := true, pwrgood := false } } :=
      (Keeps.refl s).same rfl
    unfold exec execPowerFail
    dsimp only
    split
    · exact .next cut
    · exact .next cut
    all_goals exact .next (enterFailing_keeps cut)
  | supplyDies => exact .ite (fun _ => .next (goDark_keeps _ (.refl s))) fun _ => stay
  | hresetAssert =>
    exact .ite (fun _ => .next ((Keeps.refl s).same rfl))
      fun _ => .next (goDark_keeps _ ((Keeps.refl s).same rfl))
  | leaveDark => exact .ite (fun _ => .next (startFromDark_keeps (.refl s))) fun _ => stay
  | tenthTick =>
    refine .ite (fun _ => stay) fun h => .next ?_
    exact .ite (fun _ => giveRewrite_keeps _ (tenth_keeps h (.refl s)))
      fun _ => tenth_keeps h (.refl s)
  | loopInputChange present => exact .level fun h => h.same rfl
  | revInputChange reversed => exact .level fun h => h.same rfl
  | dialtoneInputChange present => exact .level fun h => h.same rfl
  | boxInputChange present => exact .level fun h => h.same rfl
  | digitSenderPhaseEnd =>
    unfold exec execDigitSenderPhaseEnd
    dsimp only
    split
    · exact .due (nextPhase_keeps _)
    · exact stay

end

/-- A step keeps each invariant, whether it runs a command or makes a byte cycle. `Keeps` speaks of the
queue of commands as well, which a step shortens: its rest is what the command starts from. -/
theorem step_keeps {s t : State} (h : step s = .next t) :
    ∃ l, Keeps { s with pending := l } t := by
  unfold step at h
  split at h
  · next hp =>
    cases h
    exact ⟨s.pending, byteCycle_keeps (.refl s)⟩
  · next c l hp =>
    obtain ⟨u, hu, hk⟩ := exec_reaches c { s with pending := l }
    rw [hu] at h
    cases h
    exact ⟨l, hk⟩

/-- Settles O4. -/
theorem memoryStaysCanonical : Obligations.MemoryStaysCanonical := fun _ _ hs h =>
  have ⟨_, hk⟩ := step_keeps h
  hk.memory hs

/-- Settles O5. -/
theorem calendarStaysInRange : Obligations.CalendarStaysInRange := fun _ _ hs h =>
  have ⟨_, hk⟩ := step_keeps h
  hk.calendar hs

/-- Settles O6. -/
theorem escrowNeverPassesTen : Obligations.EscrowNeverPassesTen := fun _ _ hs h =>
  have ⟨_, hk⟩ := step_keeps h
  hk.lane hs

/-- Settles O7. -/
theorem postQueueNeverPassesSixteen : Obligations.PostQueueNeverPassesSixteen := fun _ _ hs h =>
  have ⟨_, hk⟩ := step_keeps h
  hk.posts hs

/-- Settles O8. -/
theorem ringsNeverOverfill : Obligations.RingsNeverOverfill := fun _ _ hs h =>
  have ⟨_, hk⟩ := step_keeps h
  hk.rings hs

/-- Settles O9: no meaning is a fault or a refusal, and none writes the queue of commands. -/
theorem everyCommandCompletes : Obligations.EveryCommandCompletes := fun c s =>
  have ⟨t, ht, hk⟩ := exec_reaches c s
  ⟨t, ht, hk.pending⟩

/-- Settles O1. -/
theorem stepRunsTheFrontCommand : Obligations.StepRunsTheFrontCommand := fun _ _ s h => by
  simp only [step, h]

/-- Every channel of the reset state is QUIET and empty (R149). -/
theorem reset_channels (ch : Channel) : (getChan ch State.reset).state = .quiet
    ∧ (getChan ch State.reset).trips = 0
    ∧ (getChan ch State.reset).first = ⟨0, 0, 0, 0, 0⟩ ∧ (getChan ch State.reset).last = ⟨0, 0, 0, 0, 0⟩
    ∧ (getChan ch State.reset).raw = 0 ∧ (getChan ch State.reset).status = .idle := by
  cases ch <;> exact ⟨rfl, rfl, rfl, rfl, rfl, rfl⟩

/-- Settles O2: each field stands in the reset state as written. -/
theorem resetIsAColdStart : Obligations.ResetIsAColdStart := by
  unfold Obligations.ResetIsAColdStart
  and_intros
  rotate_left 45
  · exact reset_channels
  all_goals rfl

/-- Settles O3. -/
theorem resetMeetsTheInvariants : Obligations.ResetMeetsTheInvariants := by
  unfold Obligations.ResetMeetsTheInvariants
  exact ⟨by decide, by decide, by decide, by decide, by decide⟩

end Sys2Proof.Proofs

/-! What the end of a step leaves, and how the gate judges and serves a station-processor write (R1, R3, R8 to R11,
R15, R19, R20, R31, R92). -/
namespace Sys2Proof.Proofs
open Sys2Proof.Machine Sys2Proof.Safety Sys2Proof.Laws

/-! ### The end of a step -/

section
variable {s t : State}

theorem sys_of_steady (h : steady t = steady s) : t.sys = s.sys :=
  show (steady t).sys = (steady s).sys from congrArg State.sys h
theorem mem_of_steady (h : steady t = steady s) : t.mem = s.mem :=
  show (steady t).mem = (steady s).mem from congrArg State.mem h
theorem orders_of_steady (h : steady t = steady s) : t.orders = s.orders :=
  show (steady t).orders = (steady s).orders from congrArg State.orders h
theorem visit_of_steady (h : steady t = steady s) : t.visit = s.visit :=
  show (steady t).visit = (steady s).visit from congrArg State.visit h
theorem ring_of_steady (h : steady t = steady s) : t.ring = s.ring :=
  show (steady t).ring = (steady s).ring from congrArg State.ring h
theorem pins_of_steady (h : steady t = steady s) : t.pins = s.pins :=
  show (steady t).pins = (steady s).pins from congrArg State.pins h
theorem profile_of_steady (h : steady t = steady s) : t.gate.profile = s.gate.profile :=
  show (steady t).gate.profile = (steady s).gate.profile from congrArg (·.gate.profile) h
theorem escrow_of_steady (h : steady t = steady s) : t.coin.escrow = s.coin.escrow :=
  show (steady t).coin.escrow = (steady s).coin.escrow from congrArg (·.coin.escrow) h

@[simp] theorem finish_sys (n : Nat) (s : State) : (finish n s).sys = s.sys :=
  sys_of_steady (finish_steady n s)
@[simp] theorem finish_mem (n : Nat) (s : State) : (finish n s).mem = s.mem :=
  mem_of_steady (finish_steady n s)
@[simp] theorem finish_orders (n : Nat) (s : State) : (finish n s).orders = s.orders :=
  orders_of_steady (finish_steady n s)
@[simp] theorem finish_visit (n : Nat) (s : State) : (finish n s).visit = s.visit :=
  visit_of_steady (finish_steady n s)
@[simp] theorem finish_ring (n : Nat) (s : State) : (finish n s).ring = s.ring :=
  ring_of_steady (finish_steady n s)
@[simp] theorem finish_pins (n : Nat) (s : State) : (finish n s).pins = s.pins :=
  pins_of_steady (finish_steady n s)
@[simp] theorem finish_profile (n : Nat) (s : State) : (finish n s).gate.profile = s.gate.profile :=
  profile_of_steady (finish_steady n s)
@[simp] theorem finish_escrow (n : Nat) (s : State) : (finish n s).coin.escrow = s.coin.escrow :=
  escrow_of_steady (finish_steady n s)

/-- A step that is a body and its end leads where the body does. -/
theorem leads_stepWith {c : Instr} {f : State → State} {s u : State}
    (hc : exec c s = .next (stepWith f s)) (hf : steady (f s) = steady u) : leads c s u :=
  ⟨stepWith f s, hc, (finish_steady _ _).trans hf⟩

theorem leadsWith_stepWith {c : Instr} {f : State → State} {s u : State} {P : State → Prop}
    (hc : exec c s = .next (stepWith f s)) (hf : steady (f s) = steady u)
    (hP : P (stepWith f s)) : leadsWith c s u P :=
  ⟨stepWith f s, hc, (finish_steady _ _).trans hf, hP⟩

/-- Outside RUNNING the end of a step judges the closing reasons alone, besides the posts. -/
theorem finish_still (n : Nat) (h : s.sys.part ≠ .running) :
    ∃ r, unposted (finish n s) = unposted { s with coin := { s.coin with reasons := r } } := by
  have judged : ∀ r : BitVec 10, ∃ r', unposted (if r = s.coin.reasons then s
      else touchLive { s with coin := { s.coin with reasons := r } })
        = unposted { s with coin := { s.coin with reasons := r' } } := by
    intro r
    split
    · exact ⟨s.coin.reasons, rfl⟩
    · exact ⟨r, rfl⟩
  obtain ⟨r, hr⟩ := judged (closingReasons s)
  refine ⟨r, ?_⟩
  unfold finish settle
  rw [if_neg h, shuffleWaiters_unposted, postImages_unposted, flushEvents_unposted]
  exact hr

/-- What is appended at once by the body of a step is posted. -/
theorem posted_finish {s u : State} {e : PostEntry} (n : Nat)
    (h : u.gate.queue = s.gate.queue ++ [e]) : posted e s (finish n u) :=
  posted_of_append h (finish_grows n u)

/-- Entries appended together stay together, whatever is appended behind them. -/
theorem postedTogether_of_append {s u t : State} {l es : List PostEntry}
    (h : u.gate.queue = s.gate.queue ++ l ++ es) (hg : grows u t) : postedTogether es s t := by
  obtain ⟨l', hl⟩ := hg
  exact ⟨l, l', by rw [← hl, h]⟩

end

/-! ### The gate (R3, R8 to R10) -/

theorem inArea_eq_some {base size k : Nat} (h : k < size) : inArea base size (base + k) = some k := by
  simp [inArea, h]

theorem inArea_eq_none {base size a : Nat} (h : a < base ∨ base + size ≤ a) :
    inArea base size a = none := by
  unfold inArea
  rw [if_neg (by omega)]

theorem inArea_isSome (base size a : Nat) :
    (inArea base size a).isSome = decide (base ≤ a ∧ a < base + size) := by
  unfold inArea
  split <;> simp_all

section
variable {s : State} {p : Profile} {a : Nat}

/-- While the guard states hold, the map of the profile says how a byte is treated. -/
theorem gateClass_eq (hg : guardsHold s = true) (hp : s.gate.profile = some p) (a : Nat) :
    gateClass s a = mapClass s.gate p a := by simp [gateClass, hp, hg]

theorem guardsHold_of_running (hr : s.sys.part = .running) : guardsHold s = true := by
  simp [guardsHold, hr]

theorem mapClass_ends (h : a = 0xFFFE ∨ a = 0xFFFF) : mapClass s.gate p a = .guarded := if_pos h

theorem mapClass_slot (n : Fin 16) {k : Nat} (hk : k < 32)
    (h : p.slotsBase + 32 * n.val + k < 0xFFFE) :
    mapClass s.gate p (p.slotsBase + 32 * n.val + k) =
      if s.gate.slotGuard.getLsbD n.val then .guarded
      else if k = 0 then .orderCode n
      else if k < 28 then .plain
      else .guarded := by
  have hoff : inArea p.slotsBase 512 (p.slotsBase + 32 * n.val + k) = some (32 * n.val + k) := by
    rw [Nat.add_assoc]; exact inArea_eq_some (by omega)
  have hdiv : (32 * n.val + k) / 32 = n.val := by omega
  have hmod : (32 * n.val + k) % 32 = k := by omega
  unfold mapClass
  rw [if_neg (by omega), hoff]
  have slot : Fin.ofNat 16 n.val = n := Fin.ext (Nat.mod_eq_of_lt n.isLt)
  simp only [slotByte, hdiv, hmod, slot]

theorem mapClass_events (hs : a < p.slotsBase ∨ p.slotsBase + 512 ≤ a) {k : Nat} (hk : k < 528)
    (ha : a = p.eventsBase + k) (h : a < 0xFFFE) :
    mapClass s.gate p a = if k = 1 then .eventRead else .guarded := by
  unfold mapClass
  rw [if_neg (by omega), inArea_eq_none hs, ha, inArea_eq_some hk]
  rfl

theorem mapClass_calls (hs : a < p.slotsBase ∨ p.slotsBase + 512 ≤ a)
    (he : a < p.eventsBase ∨ p.eventsBase + 528 ≤ a) {k : Nat} (hk : k < 2576)
    (ha : a = p.callsBase + k) (h : a < 0xFFFE) :
    mapClass s.gate p a = if k = 1 then .callRead else .guarded := by
  unfold mapClass
  rw [if_neg (by omega), inArea_eq_none hs, inArea_eq_none he, ha, inArea_eq_some hk]
  rfl

theorem mapClass_rest (hs : a < p.slotsBase ∨ p.slotsBase + 512 ≤ a)
    (he : a < p.eventsBase ∨ p.eventsBase + 528 ≤ a)
    (hc : a < p.callsBase ∨ p.callsBase + 2576 ≤ a) (h : a < 0xFFFE) :
    mapClass s.gate p a =
      if inImage p a || inGuardedBank s.gate p a then .guarded else .plain := by
  unfold mapClass
  rw [if_neg (by omega), inArea_eq_none hs, inArea_eq_none he, inArea_eq_none hc]

theorem inImage_iff : inImage p a = true ↔
    (p.clockBase ≤ a ∧ a < p.clockBase + 16) ∨ (p.liveBase ≤ a ∧ a < p.liveBase + 96)
      ∨ (p.tallyBase ≤ a ∧ a < p.tallyBase + 192) ∨ (p.tamperBase ≤ a ∧ a < p.tamperBase + 144) := by
  simp [inImage, inArea_isSome, imageBase, imageLen]

theorem inGuardedBank_iff (g : Gate) : inGuardedBank g p a = true ↔
    (g.guardA = true ∧ p.bankABase ≤ a ∧ a < p.bankABase + 2048)
      ∨ (g.guardB = true ∧ p.bankBBase ≤ a ∧ a < p.bankBBase + 2048) := by
  simp [inGuardedBank, inArea_isSome]

end

/-- Settles O13: the areas of the map in their order. -/
theorem gateFollowsTheMap : Obligations.GateFollowsTheMap := by
  intro s p a hr hp
  rw [gateClass_eq (guardsHold_of_running hr) hp]
  refine ⟨mapClass_ends, fun h n k hk ha => ?_, fun h hs k hk ha => mapClass_events hs hk ha h,
    fun h hs he k hk ha => mapClass_calls hs he hk ha h, fun h hs he hc => ?_⟩
  · subst ha
    exact mapClass_slot n hk h
  · rw [mapClass_rest hs he hc h]
    refine ite_congr (propext ?_) (fun _ => rfl) fun _ => rfl
    rw [Bool.or_eq_true, inImage_iff, inGuardedBank_iff]
    simp only [or_assoc]

/-! ### The service mode (R92) -/

theorem closedInputs_any (s : State) : (closedInputs s).any id = true ↔
    (s.tamper.chans.cord.state ≠ .quiet ∨ s.tamper.chans.line.state = .active
      ∨ (s.visit.state ≠ .closed ∧ s.visit.kind = .service) ∨ s.call.ordered = true
      ∨ s.tariff.active = none) := by
  simp [closedInputs, serviceVisit]

theorem freeOnlyInputs_none (s : State) : (freeOnlyInputs s).any id = false ↔
    (s.tamper.chans.slot.state = .quiet ∧ s.tamper.chans.lane.state = .quiet ∧ s.coin.box = true
      ∧ s.ring.slot = none) := by
  simp [freeOnlyInputs]

/-- The mode by its two sets of inputs. -/
theorem modeOf_cases (s : State) :
    ((closedInputs s).any id = true ∧ modeOf s = .closed)
      ∨ ((closedInputs s).any id = false ∧ (freeOnlyInputs s).any id = true ∧ modeOf s = .freeOnly)
      ∨ ((closedInputs s).any id = false ∧ (freeOnlyInputs s).any id = false ∧ modeOf s = .full) := by
  unfold modeOf
  cases (closedInputs s).any id <;> cases (freeOnlyInputs s).any id <;> simp

/-- Settles O40. -/
theorem serviceModeFollowsItsInputs : Obligations.ServiceModeFollowsItsInputs := by
  intro s
  rw [← closedInputs_any, ← freeOnlyInputs_none]
  obtain ⟨hc, hm⟩ | ⟨hc, hf, hm⟩ | ⟨hc, hf, hm⟩ := modeOf_cases s
  · simp [hc, hm]
  · simp [hc, hf, hm]
  · simp [hc, hf, hm]

/-! ### A write served (R1) -/

section
variable {s : State} {a : Addr} {v : Byte}

/-- A write that is neither guarded nor held reaches memory and the byte's owner. -/
theorem hostWrite_served {c : ByteClass} (hs : suppressed s = false) (hh : s.gate.held = [])
    (hq : s.gate.queue.length < 12) (hc : gateClass s a.toNat = c) (hg : c ≠ .guarded) :
    hostWrite a v s = serveWrite c a v s := by
  unfold hostWrite
  rw [if_neg (by simp [hs]), if_neg (by simp [hh]), hc]
  have hw : ¬ waitDepth ≤ s.gate.queue.length := Nat.not_le.mpr hq
  split
  · exact absurd rfl hg
  · exact if_neg hw

theorem hostWrite_suppressed (hs : suppressed s = true) : hostWrite a v s = s := if_pos hs

theorem hostWrite_guarded (hs : suppressed s = false) (hh : s.gate.held = [])
    (hc : gateClass s a.toNat = .guarded) : hostWrite a v s = guardedWrite a v s := by
  unfold hostWrite
  rw [if_neg (by simp [hs]), if_neg (by simp [hh]), hc]

/-- A write is held by WAIT while twelve entries or more stand in the Post Queue (R15). -/
theorem hostWrite_held {c : ByteClass} (hs : suppressed s = false) (hh : s.gate.held = [])
    (hq : 12 ≤ s.gate.queue.length) (hc : gateClass s a.toNat = c) (hg : c ≠ .guarded) :
    hostWrite a v s = { s with gate := { s.gate with held := [⟨a, v, some c⟩] } } := by
  unfold hostWrite
  rw [if_neg (by simp [hs]), if_neg (by simp [hh]), hc]
  split
  · exact absurd rfl hg
  · exact if_pos hq

theorem hostWrite_behind (hs : suppressed s = false) (hh : s.gate.held ≠ []) :
    hostWrite a v s = { s with gate := { s.gate with held := s.gate.held ++ [⟨a, v, none⟩] } } := by
  unfold hostWrite
  rw [if_neg (by simp [hs]), if_pos hh]

end

/-- Settles O14: the write is served, and no judgment at the step's end touches memory. -/
theorem plainWriteReachesMemory : Obligations.PlainWriteReachesMemory := by
  intro s a v hk hs hh hq hc
  have served : hostWrite a v s = { s with mem := Memory.write s.mem a.toNat v } :=
    hostWrite_served hs hh hq hc (by simp)
  refine leadsWith_stepWith rfl (by rw [served]) fun x hx => ?_
  have hmem : (stepWith (hostWrite a v) s).mem = Memory.write s.mem a.toNat v := by
    rw [stepWith, finish_mem, served]
  rw [hmem]
  split
  · next h => rw [h, read_write_same _ _ _ hk]
  · next h => exact read_write_other _ _ _ _ (by have := a.isLt; omega) hk

/-! ### Order codes (R9, R19, R20) -/

section
variable {s : State} {p : Profile} {n : Fin 16}

/-- The order code byte of a slot not guarded is the slot's watched byte. -/
theorem gateClass_watchedSlot (h : watchedSlot s p n) :
    gateClass s (BitVec.ofNat 16 (slotAddr p n 0)).toNat = .orderCode n
      ∧ (BitVec.ofNat 16 (slotAddr p n 0)).toNat = p.slotsBase + 32 * n.val := by
  obtain ⟨hr, -, hp, -, -, hb, hg, -⟩ := h
  have haddr : (BitVec.ofNat 16 (slotAddr p n 0)).toNat = p.slotsBase + 32 * n.val := by
    simp only [slotAddr, BitVec.toNat_ofNat]
    omega
  refine ⟨?_, haddr⟩
  have hc := mapClass_slot (s := s) (p := p) n (k := 0) (by omega) (by omega)
  rw [gateClass_eq (guardsHold_of_running hr) hp, haddr]
  simpa only [hg, Nat.add_zero, Bool.false_eq_true, if_false, if_true] using hc

/-- A write of a slot's order code is served, and the slot's owner acts on it. -/
theorem hostWrite_orderCode (h : watchedSlot s p n) (code : Byte) :
    hostWrite (BitVec.ofNat 16 (slotAddr p n 0)) code s
      = (if code = 0 then freeSlot n else postOrder n)
          { s with mem := Memory.write s.mem (p.slotsBase + 32 * n.val) code } := by
  obtain ⟨hc, haddr⟩ := gateClass_watchedSlot h
  obtain ⟨-, -, -, hs, hh, -, -, -, hq⟩ := h
  rw [hostWrite_served hs hh (by omega) hc (by simp), serveWrite, haddr, actOn]
  split <;> rfl

/-- With room in the Post Queue an order is posted at once (R19). -/
theorem postOrder_room (hp : s.gate.profile = some p) (hw : s.sys.waitRestart = false)
    (hr : roomy s) : postOrder n s = { s with
      gate := { s.gate with
        slotGuard := s.gate.slotGuard ||| BitVec.twoPow 16 n.val,
        queue := s.gate.queue ++ [postedRun p n] },
      orders := { s.orders with
        slots := s.orders.slots.set n .posted, queue := s.orders.queue ++ [n] } } := by
  obtain ⟨hwait, hlen⟩ := hr
  have eq : postOrder n s = { setSlot n .posted (offer .orderUnit [postedRun p n] (setGuard n true s)) with
      orders := { (setSlot n .posted (offer .orderUnit [postedRun p n] (setGuard n true s))).orders with
        queue := (offer .orderUnit [postedRun p n] (setGuard n true s)).orders.queue ++ [n] } } := by
    simp only [postOrder, hp, hw, Bool.false_eq_true, if_false]
    rfl
  rw [eq, offer_room _ _ (setGuard n true s) hwait (Nat.le_trans (Nat.succ_le_succ hlen) (by omega))]
  rfl

/-- A slot held DONE is freed, with room in the Post Queue at once (R20). -/
theorem freeSlot_room (hp : s.gate.profile = some p) (hr : roomy s)
    (hd : s.orders.slots[n] = .done) : freeSlot n s = { s with
      gate := { s.gate with queue := s.gate.queue ++ [.write (slotAddr p n 31) [0] .plain] },
      orders := { s.orders with slots := s.orders.slots.set n .free } } := by
  obtain ⟨hwait, hlen⟩ := hr
  have eq : freeSlot n s
      = offer .orderUnit [.write (slotAddr p n 31) [0] .plain] (setSlot n .free s) := by
    simp only [freeSlot, hp, hd, if_true]
  rw [eq, offer_room _ _ (setSlot n .free s) hwait (Nat.le_trans (Nat.succ_le_succ hlen) (by omega))]
  rfl

theorem freeSlot_notDone (hd : s.orders.slots[n] ≠ .done) : freeSlot n s = s := by
  unfold freeSlot
  split
  · rfl
  · exact if_neg hd

theorem execOrderPosted_eq {code : Byte} (hp : s.gate.profile = some p) (hc : code ≠ 0) :
    exec (.orderPosted n code) s
      = .next (stepWith (hostWrite (BitVec.ofNat 16 (slotAddr p n 0)) code) s) := by
  simp only [exec, execOrderPosted, hp, if_neg hc]

theorem execSlotFreed_eq (hp : s.gate.profile = some p) :
    exec (.slotFreed n) s
      = .next (stepWith (hostWrite (BitVec.ofNat 16 (slotAddr p n 0)) 0) s) := by
  simp only [exec, execSlotFreed, hp]

end

/-- Settles O16: the code byte is the slot's watched byte, and its owner acts on the code. -/
theorem orderCodesPostAndFree : Obligations.OrderCodesPostAndFree := by
  refine ⟨fun s p n code h hc => ?_, fun s p n h => ⟨fun hd => ?_, fun hf => ?_⟩⟩
  · have hw := hostWrite_orderCode h code
    obtain ⟨-, hwait, hp, -, -, -, -, hroom⟩ := h
    rw [if_neg hc, postOrder_room
      (s := { s with mem := Memory.write s.mem (p.slotsBase + 32 * n.val) code }) hp hwait hroom] at hw
    exact leadsWith_stepWith (execOrderPosted_eq hp hc) (by rw [hw]; rfl)
      (posted_finish _ (by rw [hw]; rfl))
  · have hw := hostWrite_orderCode h 0
    obtain ⟨-, -, hp, -, -, -, -, hroom⟩ := h
    rw [if_pos rfl, freeSlot_room
      (s := { s with mem := Memory.write s.mem (p.slotsBase + 32 * n.val) 0 }) hp hroom hd] at hw
    exact leadsWith_stepWith (execSlotFreed_eq hp) (by rw [hw]; rfl)
      (posted_finish _ (by rw [hw]; rfl))
  · have hw := hostWrite_orderCode h 0
    obtain ⟨-, -, hp, -, -, -, -, -⟩ := h
    rw [if_pos rfl, freeSlot_notDone (by simp [hf])] at hw
    exact leads_stepWith (execSlotFreed_eq hp) (by rw [hw])

end Sys2Proof.Proofs

/-! What the judgments at a step's end raise, and the writing of a step's events (R11, R29 to R33, R165, R167). -/
namespace Sys2Proof.Proofs
open Sys2Proof.Machine Sys2Proof.Safety Sys2Proof.Laws

/-! ### The events of the judgments -/

section
variable (s : State)

/-- The Event Ring but for the events not yet written. -/
def ringOf (s : State) : Events := { s.ev with outbox := [] }

/-- From `s` to `t` the Event Ring stands, and no GUARD was raised. -/
def noGuard (s t : State) : Prop :=
  ringOf t = ringOf s ∧ ((∀ e ∈ s.ev.outbox, e.code ≠ guardCode) → ∀ e ∈ t.ev.outbox, e.code ≠ guardCode)

variable {s}

theorem noGuard_refl (s : State) : noGuard s s := ⟨rfl, id⟩

theorem noGuard.same {t u : State} (h : noGuard s t) (e : u.ev = t.ev) : noGuard s u := by
  unfold noGuard ringOf at *
  rwa [e]

theorem noGuard.ite {c : Prop} [Decidable c] {a b : State} (ha : c → noGuard s a)
    (hb : ¬ c → noGuard s b) : noGuard s (if c then a else b) := by
  split
  · exact ha ‹_›
  · exact hb ‹_›

theorem raise_noGuard {t : State} (b : Block) {code : Nat} (d : List Byte) (hc : code ≠ guardCode)
    (h : noGuard s t) : noGuard s (raise b code d t) := by
  unfold raise
  refine .ite (fun _ => ⟨h.1, fun ho e he => ?_⟩) fun _ => h
  obtain he | he := List.mem_append.mp he
  · exact h.2 ho e he
  · rw [List.mem_singleton.mp he]
    exact hc

theorem setImage_ev (i : ImageId) (x : Image) (s : State) : (setImage i x s).ev = s.ev := by
  cases i <;> rfl

theorem joinLine_ev (p : Producer) (l : List Offer) (s : State) : (joinLine p l s).ev = s.ev := by
  unfold joinLine
  split <;> rfl

theorem startOwed_ev (i : ImageId) (s : State) : (startOwed i s).ev = s.ev := by
  simp only [startOwed]
  split
  · exact setImage_ev i _ s
  · rfl

theorem appendRun_ev (i : ImageId) (s : State) : (appendRun i s).ev = s.ev := by
  simp only [appendRun]
  split
  · rw [startOwed_ev, setImage_ev, append_ev]
  · exact setImage_ev i _ s

theorem pumpImage_ev (i : ImageId) (n : Nat) (s : State) : (pumpImage i n s).ev = s.ev := by
  induction n generalizing s with
  | zero => rfl
  | succ n ih =>
    unfold pumpImage
    split
    · rfl
    · split
      · rw [ih, appendRun_ev]
      · exact joinLine_ev _ _ s

theorem giveRewrite_ev (i : ImageId) (s : State) : (giveRewrite i s).ev = s.ev := by
  unfold giveRewrite
  dsimp only
  split
  · split
    · exact (pumpImage_ev i 20 _).trans ((startOwed_ev i _).trans (setImage_ev i _ s))
    · rfl
    · rfl
    · exact setImage_ev i _ s
    · exact setImage_ev i _ s
  · rfl

theorem postImages_ev (s : State) : (postImages s).ev = s.ev := by
  have tally : (if s.img.tallyDirty = true then giveRewrite .tally
      { s with img := { s.img with tallyDirty := false } } else s).ev = s.ev := by
    split
    · exact giveRewrite_ev _ _
    · rfl
  have live : ∀ u : State, (if u.img.liveDirty = true then giveRewrite .live
      { u with img := { u.img with liveDirty := false } } else u).ev = u.ev := by
    intro u
    split
    · exact giveRewrite_ev _ _
    · rfl
  exact (live _).trans tally

/-- An offer of entries raises nothing. -/
theorem offer_ev (p : Producer) (es : List PostEntry) (s : State) : (offer p es s).ev = s.ev := by
  unfold offer
  induction es generalizing s with
  | nil => rfl
  | cons e es ih =>
    rw [List.map_cons, offerItems]
    split
    · rw [ih, append_ev]
    · exact joinLine_ev _ _ s

theorem startLane_ev (s : State) : (startLane s).ev = s.ev := by
  unfold startLane
  split
  · split
    · rfl
    · split
      · rfl
      · split
        · split <;> rfl
        · rfl
        · rfl
  · rfl

theorem settleOnHook_ev (s : State) : (settleOnHook s).ev = s.ev := by
  unfold settleOnHook beginSettlement
  split
  · split <;> rfl
  · rfl

theorem judgeDemand_noGuard {t : State} (h : noGuard s t) : noGuard s (judgeDemand t) := by
  have settles : noGuard s (if requestInFlight t.coin = true then t
      else if (t.coin.escrow.isEmpty && !inFlight t.coin.lane) = true then closePurse t
      else setHold (holdCauseOf (settleDemand t) t) (setDemand (settleDemand t) t)) := by
    refine .ite (fun _ => h) fun _ => .ite (fun _ => ?_) fun _ => ?_
    · have raised : ∀ d {u : State}, noGuard s u → noGuard s
          (setDemand .idle (setPurse .none (markLate (raise .metering 14 d u)))) := fun d _ hu =>
        noGuard.same (t := raise .metering 14 d _) (raise_noGuard _ _ (by decide) hu) rfl
      exact raised _ (h.same rfl)
    · unfold setHold
      exact .ite (fun _ => .ite (fun _ => h.same rfl) fun _ => h.same rfl) fun _ =>
        .ite (fun _ => .ite (fun _ => h.same rfl) fun _ => h.same rfl)
          fun _ => raise_noGuard _ _ (by decide) (h.same rfl)
  unfold judgeDemand
  split
  · exact h.same rfl
  · exact .ite (fun _ => h) fun _ => h.same rfl
  · exact settles
  · exact settles

theorem judgeMoney_noGuard {t : State} (h : noGuard s t) : noGuard s (judgeMoney t) :=
  .ite (fun _ => (judgeDemand_noGuard (h.same (settleOnHook_ev t))).same (startLane_ev _)) fun _ => h

theorem setBankGuard_ev (bank : Bank) (on : Bool) (s : State) :
    (setBankGuard bank on s).ev = s.ev := by cases bank <;> rfl

theorem judgeActivation_noGuard {t : State} (h : noGuard s t) : noGuard s (judgeActivation t) := by
  unfold judgeActivation
  split
  · refine .ite (fun _ => ?_) fun _ => h
    unfold activate
    dsimp only
    refine noGuard.same (raise_noGuard (code := 21) _ _ (by decide) (h.same ?_)) rfl
    split
    · split
      · rfl
      · exact setBankGuard_ev _ _ _
    · rfl
  · exact h
  · exact h

theorem judgeActivationClock_noGuard {t : State} (h : noGuard s t) :
    noGuard s (judgeActivationClock t) :=
  .ite (fun _ => judgeActivation_noGuard h)
    fun _ => (judgeActivation_noGuard h).same (giveRewrite_ev _ _)

theorem judgeMode_noGuard {t : State} (h : noGuard s t) : noGuard s (judgeMode t) :=
  .ite (fun _ => h) fun _ => raise_noGuard _ _ (by decide) (h.same rfl)

theorem askSeize_ev (s : State) : (askSeize s).ev = s.ev := by
  unfold askSeize closeSeize
  split
  · dsimp only
    split <;> rfl
  · rfl

theorem judgeReport_ev (s : State) : (judgeReport s).ev = s.ev := by
  have granted : ∀ u : State, (grantReport u).ev = u.ev := by
    intro u
    unfold grantReport
    split
    · rfl
    · exact askSeize_ev _
  unfold judgeReport
  dsimp only
  split
  · rfl
  · split
    · exact granted _
    · rfl

theorem startDigit_ev (p : Bool) (d : Nat) (s : State) : (startDigit p d s).ev = s.ev := by
  unfold startDigit
  split
  · rfl
  · split <;> rfl

theorem judgeGate_ev (s : State) : (judgeGate s).ev = s.ev := by
  unfold judgeGate
  split
  · rfl
  · split <;> rfl

theorem offerDigit_ev (s : State) : (offerDigit s).ev = s.ev := by
  unfold offerDigit
  split
  · split
    · exact startDigit_ev _ _ _
    · split
      · exact startDigit_ev _ _ _
      · rfl
  · rfl

theorem judgeRingback_ev (s : State) : (judgeRingback s).ev = s.ev := by
  unfold judgeRingback
  split
  · split <;> rfl
  · rfl

theorem judgeInterDigit_ev (s : State) : (judgeInterDigit s).ev = s.ev := by
  unfold judgeInterDigit
  split
  · split <;> rfl
  · rfl

theorem offerReport_ev (s : State) : (offerReport s).ev = s.ev := by
  unfold offerReport
  split
  · split
    · split
      · exact startDigit_ev _ _ _
      · rfl
    · split
      · exact startDigit_ev _ _ _
      · rfl
    all_goals rfl
  · rfl

theorem judgeSender_ev (s : State) : (judgeSender s).ev = s.ev := by
  unfold judgeSender
  rw [offerReport_ev, judgeInterDigit_ev, judgeRingback_ev, offerDigit_ev, judgeGate_ev]

theorem judgeReasons_ev (s : State) : (judgeReasons s).ev = s.ev := by
  have h : ∀ r : BitVec 10, (if r = s.coin.reasons then s
      else touchLive { s with coin := { s.coin with reasons := r } }).ev = s.ev := by
    intro r
    split <;> rfl
  exact h (closingReasons s)

theorem settle_noGuard (s : State) : noGuard s (settle s) := by
  unfold settle
  refine .ite (fun _ => ?_) fun _ => noGuard_refl s
  exact (judgeMode_noGuard (judgeActivationClock_noGuard (judgeMoney_noGuard (noGuard_refl s)))).same
    ((judgeSender_ev _).trans (judgeReport_ev _))

/-! ### Writing the events (R29, R30, R32) -/

theorem interleave_subset {α κ : Type} [DecidableEq κ] (key : α → κ) (k n : Nat) (l : List α) :
    ∀ x ∈ (interleave key k n l).1, x ∈ l := by
  induction k generalizing n l with
  | zero => exact fun _ hx => hx
  | succ k ih =>
    intro x hx
    unfold interleave at hx
    split at hx
    · exact hx
    · exact hx
    · dsimp only at hx
      split at hx
      · exact hx
      · next y hy =>
        obtain rfl | hx := List.mem_cons.mp hx
        · exact List.mem_of_find?_eq_some hy
        · exact List.mem_of_mem_eraseP (ih _ _ x hx)

theorem writeEvent_guardFlag {e : Event} (he : e.code ≠ guardCode) (s : State) :
    (writeEvent e s).ev.guardFlag = s.ev.guardFlag := by
  have hb : (e.code == guardCode) = false := by simpa using he
  unfold writeEvent
  split
  · rfl
  · dsimp only
    split
    · simp [offer_ev, hb]
    · split
      · simp [offer_ev]
      · rfl

theorem writeEvents_guardFlag (l : List Event) (hl : ∀ e ∈ l, e.code ≠ guardCode) (s : State) :
    (l.foldl (fun s e => writeEvent e s) s).ev.guardFlag = s.ev.guardFlag := by
  induction l generalizing s with
  | nil => rfl
  | cons e l ih =>
    rw [List.foldl_cons, ih fun f hf => hl f (List.mem_cons_of_mem e hf),
      writeEvent_guardFlag (hl e List.mem_cons_self)]

theorem flushEvents_guardFlag {s : State} (h : ∀ e ∈ s.ev.outbox, e.code ≠ guardCode) :
    (flushEvents s).ev.guardFlag = s.ev.guardFlag := by
  unfold flushEvents
  split
  · exact writeEvents_guardFlag _ (fun e he => h e (interleave_subset _ _ _ _ e he)) _
  · rfl

theorem guardFlag_of_ringOf {s t : State} (h : ringOf t = ringOf s) :
    t.ev.guardFlag = s.ev.guardFlag :=
  show (ringOf t).guardFlag = (ringOf s).guardFlag from congrArg Events.guardFlag h

/-- The events at a step's end are those that its last writing leaves. -/
theorem finish_ev (n : Nat) (s : State) :
    (finish n s).ev = (flushEvents (judgeReasons (settle s))).ev :=
  have shuffled : ∀ u : State, (shuffleWaiters n u).ev = u.ev := fun _ => rfl
  (shuffled _).trans (postImages_ev _)

/-- A step that raises no GUARD leaves the guard-event flag (R32). -/
theorem finish_guardFlag (n : Nat) {s : State} (h : ∀ e ∈ s.ev.outbox, e.code ≠ guardCode) :
    (finish n s).ev.guardFlag = s.ev.guardFlag := by
  obtain ⟨hring, hbox⟩ := settle_noGuard s
  rw [finish_ev, flushEvents_guardFlag (by rw [judgeReasons_ev]; exact hbox h), judgeReasons_ev,
    guardFlag_of_ringOf hring]

/-! ### A step whose judgments have nothing to say -/

/-- RUNNING, with no report due, the mode as its inputs give it, no swap pending, and the money at rest:
no purse, or the Coin Unit not yet started. -/
structure Quiet (s : State) : Prop where
  running : s.sys.part = .running
  report : noReport s
  mode : s.call.mode = modeOf s
  swap : s.tariff.swap = .idle
  money : s.meter.purse.state = .absent ∨ s.coin.started = false

/-- The money at rest raises nothing and keeps the inputs of what is judged behind it. -/
theorem judgeMoney_quiet {s : State} (h : Quiet s) : (judgeMoney s).ev = s.ev
    ∧ (judgeMoney s).tariff = s.tariff ∧ (judgeMoney s).call = s.call
    ∧ (judgeMoney s).report = s.report := by
  unfold judgeMoney
  split
  · next hs =>
    have ha : s.meter.purse.state = .absent := h.money.resolve_right (by simp [hs])
    have h1 : settleOnHook s = s := by
      unfold settleOnHook beginSettlement
      simp [ha]
    have h2 : judgeDemand s = setDemand .idle s := by
      unfold judgeDemand
      simp only [ha]
    rw [h1, h2]
    refine ⟨startLane_ev _, ?_, congrArg (·.1) (startLane_beside _).1,
      congrArg (·.2.1) (startLane_beside _).1⟩
    unfold startLane
    split
    · split
      · rfl
      · split
        · rfl
        · split
          · split <;> rfl
          · rfl
          · rfl
    · rfl
  · exact ⟨rfl, rfl, rfl, rfl⟩

/-- Nothing is raised or posted by the judgments of a quiet state. -/
theorem settle_quiet {s : State} (h : Quiet s) :
    (settle s).ev = s.ev ∧ (settle s).gate = s.gate := by
  obtain ⟨mev, mtariff, mcall, mreport⟩ := judgeMoney_quiet h
  have active : judgeActivationClock (judgeMoney s) = judgeMoney s := by
    have : judgeActivation (judgeMoney s) = judgeMoney s := by
      unfold judgeActivation
      rw [mtariff, h.swap]
    simp [judgeActivationClock, this]
  have mode : judgeMode (judgeMoney s) = judgeMoney s := by
    have hm : modeOf (judgeMoney s) = (judgeMoney s).call.mode := by
      rw [modeOf_of_steady (judgeMoney_steady s) (by rw [mtariff]), mcall, h.mode]
    simp [judgeMode, hm]
  have hs : settle s = judgeSender (judgeReport (judgeMoney s)) := by
    rw [settle, if_pos h.running, active, mode]
  rw [hs]
  exact ⟨by rw [judgeSender_ev, judgeReport_ev, mev],
    by rw [judgeSender_queue, judgeReport_queue, judgeMoney_queue]⟩

/-- One event alone is written as it is (R29). -/
theorem flushEvents_single {s : State} (h : s.sys.part = .running) {e : Event}
    (he : s.ev.outbox = [e]) :
    flushEvents s = writeEvent e { s with ev := { s.ev with outbox := [] } } := by
  unfold flushEvents
  rw [if_pos h, he]
  rfl

/-- One event alone is written into what holds everything but that event. -/
theorem flushEvents_one {s t : State} {e : Event} (h : t.sys.part = .running) (hev : t.ev = s.ev)
    (hg : t.gate = s.gate) (he : s.ev.outbox = [e]) :
    ∃ u : State, u.gate = s.gate ∧ u.ev = { s.ev with outbox := [] }
      ∧ flushEvents t = writeEvent e u := by
  refine ⟨{ t with ev := { t.ev with outbox := [] } }, hg, ?_, flushEvents_single h (by rw [hev, he])⟩
  rw [← hev]

/-- Behind the events come only further posts. -/
theorem finish_grows_flushed (n : Nat) (s : State) :
    grows (flushEvents (judgeReasons (settle s))) (finish n s) := by
  unfold finish
  generalize flushEvents (judgeReasons (settle s)) = u
  exact grows_trans (postImages_grows u) (grows_same rfl)

/-- The step's only event is written at its end, into the queue as the body left it (R29). -/
theorem finish_one {s : State} (h : Quiet s) {e : Event} (he : s.ev.outbox = [e]) (n : Nat) :
    ∃ u : State, u.gate = s.gate ∧ u.ev = { s.ev with outbox := [] }
      ∧ (finish n s).ev = (writeEvent e u).ev ∧ grows (writeEvent e u) (finish n s) := by
  obtain ⟨hev, hgate⟩ := settle_quiet h
  have jsys : (judgeReasons (settle s)).sys = s.sys :=
    sys_of_steady ((judgeReasons_steady _).trans (settle_steady s))
  obtain ⟨u, hg, hu, hone⟩ := flushEvents_one (by rw [jsys]; exact h.running)
    ((judgeReasons_ev _).trans hev) ((judgeReasons_queue _).trans hgate) he
  refine ⟨u, hg, hu, by rw [finish_ev, hone], ?_⟩
  exact hone ▸ finish_grows_flushed n s

/-- A step that raises nothing writes nothing. -/
theorem finish_none {s : State} (h : Quiet s) (he : s.ev.outbox = []) (n : Nat) :
    (finish n s).ev = s.ev := by
  obtain ⟨hev, -⟩ := settle_quiet h
  have jev : (judgeReasons (settle s)).ev = s.ev := (judgeReasons_ev _).trans hev
  have flushed : ∀ u : State, u.ev.outbox = [] → (flushEvents u).ev = u.ev := by
    intro u hu
    unfold flushEvents
    split
    · rw [hu]
      exact congrArg (fun l => { u.ev with outbox := l }) hu.symm
    · rfl
  rw [finish_ev, flushed _ (by rw [jev]; exact he), jev]

/-! ### The record of one event (R29, R30) -/

section
variable {s : State} {p : Profile}

/-- With room in the ring the record is written, its body first (R29). -/
theorem writeEvent_room (hp : s.gate.profile = some p) (hr : unread s.ev.w s.ev.r < 32)
    (hw : s.gate.waiters = []) (hq : s.gate.queue.length ≤ 14) (e : Event) :
    (writeEvent e s).ev = { s.ev with
        w := s.ev.w + 1, seq := s.ev.seq + 1, guardFlag := s.ev.guardFlag || e.code == guardCode,
        guardIdx := if e.code = guardCode then s.ev.w else s.ev.guardIdx }
      ∧ (writeEvent e s).gate.queue = s.gate.queue ++
        [.write (p.eventsBase + 16 + 16 * (s.ev.w.toNat % 32)) (eventBytes s.ev.seq e) .plain,
          .write p.eventsBase [s.ev.w + 1] (.eventIndex (s.ev.w + 1))] := by
  unfold writeEvent
  split
  · next h => simp [h] at hp
  · next q h =>
    obtain rfl : q = p := by simpa [h] using hp
    dsimp only
    rw [if_pos hr, offer_room .record
      [.write (q.eventsBase + 16 + 16 * (s.ev.w.toNat % 32)) (eventBytes s.ev.seq e) .plain,
        .write q.eventsBase [s.ev.w + 1] (.eventIndex (s.ev.w + 1))]
      { s with ev := { s.ev with
        w := s.ev.w + 1, seq := s.ev.seq + 1, guardFlag := s.ev.guardFlag || e.code == guardCode,
        guardIdx := if e.code = guardCode then s.ev.w else s.ev.guardIdx } } hw
      (by simpa using Nat.add_le_add_right hq 2)]
    exact ⟨rfl, rfl⟩

/-- In a full ring the event is dropped and counted (R30). -/
theorem writeEvent_full (hp : s.gate.profile = some p) (hr : 32 ≤ unread s.ev.w s.ev.r)
    (e : Event) :
    (writeEvent e s).ev = { s.ev with
      dropped := if s.ev.dropped < 255 then s.ev.dropped + 1 else s.ev.dropped,
      seq := s.ev.seq + 1 } := by
  unfold writeEvent
  split
  · next h => simp [h] at hp
  · dsimp only
    rw [if_neg (Nat.not_lt.mpr hr)]
    split
    · exact offer_ev _ _ _
    · rfl

end
end
end Sys2Proof.Proofs

/-! Station-processor writes that do not reach memory (R1, R11, R15 to R17). -/
namespace Sys2Proof.Proofs
open Sys2Proof.Machine Sys2Proof.Safety Sys2Proof.Laws

section
variable {s : State} {a : Addr} {v : Byte}

theorem suppressed_of_running (hr : s.sys.part = .running) (hi : s.gate.inhibit = false)
    (hh : s.gate.hreset = false) : suppressed s = false := by simp [suppressed, hr, hi, hh]

theorem leads_refl {c : Instr} (h : exec c s = .next s) : leads c s s := ⟨s, h, rfl⟩

/-- A step whose body does nothing leads nowhere. -/
theorem leads_idle {c : Instr} {f : State → State} (hc : exec c s = .next (stepWith f s))
    (hf : f s = s) : leads c s s := leads_stepWith hc (by rw [hf])

theorem execEventReadIndexWrite_eq {p : Profile} (hp : s.gate.profile = some p) :
    exec (.eventReadIndexWrite v) s
      = .next (stepWith (hostWrite (BitVec.ofNat 16 (p.eventsBase + 1)) v) s) := by
  simp only [exec, execEventReadIndexWrite, hp]

theorem execCallRingReadIndexWrite_eq {p : Profile} (hp : s.gate.profile = some p) :
    exec (.callRingReadIndexWrite v) s
      = .next (stepWith (hostWrite (BitVec.ofNat 16 (p.callsBase + 1)) v) s) := by
  simp only [exec, execCallRingReadIndexWrite, hp]

/-! ### Guarded writes (R11) -/

/-- A refused host write is counted, the count saturating (R11). -/
def countRefusedHost (s : State) : State :=
  updTally (fun t => { t with refusedHost := inc16 t.refusedHost }) s

/-- While RUNNING a guarded write is counted, and raises GUARD unless the flag is set (R11). -/
theorem guardedWrite_running (hr : s.sys.part = .running) : guardedWrite a v s =
    if s.ev.guardFlag then countRefusedHost s
    else raise .record guardCode (leBytes 2 a.toNat ++ [v]) (countRefusedHost s) := by
  have ht : tallyAwaited s = false := by simp [tallyAwaited, hr]
  unfold guardedWrite
  rw [ht]
  rfl

theorem countRefusedHost_steady (s : State) : steady (countRefusedHost s) = steady
    { s with tally := { s.tally with refusedHost := min 65535 (s.tally.refusedHost + 1) } } := rfl

/-- A guarded write is refused: it is counted and leaves all else of the steady part. -/
theorem hostWrite_refused (hr : s.sys.part = .running) (hi : s.gate.inhibit = false)
    (hh : s.gate.hreset = false) (hheld : s.gate.held = []) (hc : gateClass s a.toNat = .guarded) :
    steady (hostWrite a v s) = steady
      { s with tally := { s.tally with refusedHost := min 65535 (s.tally.refusedHost + 1) } } := by
  rw [hostWrite_guarded (suppressed_of_running hr hi hh) hheld hc, guardedWrite_running hr]
  split
  · exact countRefusedHost_steady s
  · rw [raise_steady]; exact countRefusedHost_steady s

/-! ### Suppressed writes (R16, R17) -/

theorem suppressed_leads (h : suppressed s = true) (n : Fin 16) :
    leads (.stationProcessorWrite a v) s s ∧ leads (.orderPosted n v) s s
      ∧ leads (.slotFreed n) s s ∧ leads (.restartByteWrite v) s s
      ∧ leads (.eventReadIndexWrite v) s s ∧ leads (.callRingReadIndexWrite v) s s := by
  cases hp : s.gate.profile with
  | none =>
    refine ⟨leads_idle rfl (hostWrite_suppressed h), leads_refl ?_, leads_refl ?_,
      leads_idle rfl (hostWrite_suppressed h), leads_refl ?_, leads_refl ?_⟩
    · simp only [exec, execOrderPosted, hp]
    · simp only [exec, execSlotFreed, hp]
    · simp only [exec, execEventReadIndexWrite, hp]
    · simp only [exec, execCallRingReadIndexWrite, hp]
  | some p =>
    refine ⟨leads_idle rfl (hostWrite_suppressed h), ?_,
      leads_idle (execSlotFreed_eq hp) (hostWrite_suppressed h),
      leads_idle rfl (hostWrite_suppressed h), leads_idle (execEventReadIndexWrite_eq hp) (hostWrite_suppressed h),
      leads_idle (execCallRingReadIndexWrite_eq hp) (hostWrite_suppressed h)⟩
    by_cases hv : v = 0
    · exact leads_refl (by simp only [exec, execOrderPosted, hp, if_pos hv])
    · exact leads_idle (execOrderPosted_eq hp hv) (hostWrite_suppressed h)

/-! ### GUARD (R11, R30, R32) -/

/-- A refused write leaves a quiet state quiet. -/
theorem guardedWrite_quiet (h : Quiet s) (ha : s.meter.purse.state = .absent) :
    Quiet (guardedWrite a v s) := by
  rw [guardedWrite_running h.running]
  have hq : Quiet (countRefusedHost s) := ⟨h.running, h.report, h.mode, h.swap, .inl ha⟩
  split
  · exact hq
  · unfold raise
    split
    · exact ⟨h.running, h.report, h.mode, h.swap, .inl ha⟩
    · exact hq

/-- The GUARD event of a refused write (R11). -/
def guardEvent (a : Addr) (v : Byte) (s : State) : Event :=
  ⟨.record, guardCode, now s, leBytes 2 a.toNat ++ [v]⟩

/-- With the flag clear a refused write raises GUARD alone. -/
theorem guardedWrite_raises (hr : s.sys.part = .running) (hf : s.ev.guardFlag = false)
    (ho : s.ev.outbox = []) : (guardedWrite a v s).gate = s.gate
      ∧ (guardedWrite a v s).ev = { s.ev with outbox := [guardEvent a v s] } := by
  have hrun : (countRefusedHost s).sys.part = .running ∨ (countRefusedHost s).sys.part = .starting :=
    .inl hr
  rw [guardedWrite_running hr, hf, if_neg (by simp), raise, if_pos hrun]
  refine ⟨rfl, ?_⟩
  have hout : (countRefusedHost s).ev.outbox = [] := ho
  rw [hout]
  rfl

/-- Where GUARD is raised with room in the ring, it is written and the flag set (R11, R32). -/
theorem guard_room {p : Profile} (h : Quiet s) (ha : s.meter.purse.state = .absent)
    (hp : s.gate.profile = some p) (hw : s.gate.waiters = []) (hq : s.gate.queue.length ≤ 14)
    (ho : s.ev.outbox = []) (hf : s.ev.guardFlag = false) (hr : (s.ev.w - s.ev.r).toNat < 32)
    (n : Nat) : (finish n (guardedWrite a v s)).ev = { s.ev with
        w := s.ev.w + 1, seq := s.ev.seq + 1, guardFlag := true, guardIdx := s.ev.w }
      ∧ postedTogether [.write (p.eventsBase + 16 + 16 * (s.ev.w.toNat % 32))
            (eventBytes s.ev.seq (guardEvent a v s)) .plain,
          .write p.eventsBase [s.ev.w + 1] (.eventIndex (s.ev.w + 1))] s
        (finish n (guardedWrite a v s)) := by
  obtain ⟨hgate, hev⟩ := guardedWrite_raises (a := a) (v := v) h.running hf ho
  obtain ⟨u, ug, ue, fe, fg⟩ :=
    finish_one (guardedWrite_quiet h ha) (e := guardEvent a v s) (by rw [hev]) n
  rw [hgate] at ug
  rw [hev] at ue
  have cleared : u.ev = s.ev := ue.trans (congrArg (fun l => { s.ev with outbox := l }) ho.symm)
  obtain ⟨we, wq⟩ := writeEvent_room (s := u) (p := p) (by rw [ug, hp])
    (by rw [cleared]; exact hr) (by rw [ug, hw]) (by rw [ug]; exact hq) (guardEvent a v s)
  rw [fe, we, cleared, hf]
  refine ⟨rfl, postedTogether_of_append (l := []) ?_ fg⟩
  rw [wq, ug, cleared, List.append_nil]

/-- Where the ring is full, GUARD is dropped and counted and the flag stays clear (R30, R32). -/
theorem guard_full {p : Profile} (h : Quiet s) (ha : s.meter.purse.state = .absent)
    (hp : s.gate.profile = some p) (ho : s.ev.outbox = []) (hf : s.ev.guardFlag = false)
    (hr : 32 ≤ (s.ev.w - s.ev.r).toNat) (n : Nat) :
    (finish n (guardedWrite a v s)).ev = { s.ev with
      dropped := if s.ev.dropped < 255 then s.ev.dropped + 1 else s.ev.dropped,
      seq := s.ev.seq + 1 } := by
  obtain ⟨hgate, hev⟩ := guardedWrite_raises (a := a) (v := v) h.running hf ho
  obtain ⟨u, ug, ue, fe, -⟩ :=
    finish_one (guardedWrite_quiet h ha) (e := guardEvent a v s) (by rw [hev]) n
  rw [hev] at ue
  have cleared : u.ev = s.ev := ue.trans (congrArg (fun l => { s.ev with outbox := l }) ho.symm)
  rw [fe, writeEvent_full (s := u) (p := p) (by rw [ug, hgate, hp]) (by rw [cleared]; exact hr),
    cleared]

/-- Where the flag is set a refused write raises nothing (R11). -/
theorem guard_flagged (h : Quiet s) (ha : s.meter.purse.state = .absent)
    (ho : s.ev.outbox = []) (hf : s.ev.guardFlag = true) (n : Nat) :
    (finish n (guardedWrite a v s)).ev = s.ev := by
  have hcount : guardedWrite a v s = countRefusedHost s := by
    rw [guardedWrite_running h.running, if_pos hf]
  have hev : (guardedWrite a v s).ev = s.ev := by rw [hcount]; rfl
  rw [finish_none (guardedWrite_quiet h ha) (by rw [hev, ho]), hev]

end

/-- Settles O15: refused, suppressed and held writes by the gate's own cases, and the GUARD event of a
refused one, which is the step's only event. -/
theorem guardedAndHeldWritesLeaveMemory : Obligations.GuardedAndHeldWritesLeaveMemory := by
  refine ⟨fun s a v hr hi hh hheld hc => leads_stepWith rfl (hostWrite_refused hr hi hh hheld hc),
    fun s a v n h => suppressed_leads (by
      obtain h | h := h <;> simp [suppressed, h]) n,
    fun s a v hs => ⟨fun hheld hq => ⟨fun c hc hg => ?_, fun p hp => ⟨?_, ?_, ?_⟩, ?_⟩, fun hheld => ?_⟩,
    ?_⟩
  · exact leads_stepWith rfl (by rw [hostWrite_held hs hheld hq hc hg])
  · rintro n rfl hc
    exact ⟨fun hv => leads_stepWith (execOrderPosted_eq hp hv)
        (congrArg steady (hostWrite_held hs hheld hq hc (by simp))),
      leads_stepWith (execSlotFreed_eq hp)
        (congrArg steady (hostWrite_held hs hheld hq hc (by simp)))⟩
  · rintro rfl hc
    exact leads_stepWith (execEventReadIndexWrite_eq hp)
      (congrArg steady (hostWrite_held hs hheld hq hc (by simp)))
  · rintro rfl hc
    exact leads_stepWith (execCallRingReadIndexWrite_eq hp)
      (congrArg steady (hostWrite_held hs hheld hq hc (by simp)))
  · intro hu hp
    have hc : gateClass s (0xFFFF : Addr).toNat = .restartByte := by simp [gateClass, hp, hu]
    exact leads_stepWith rfl (congrArg steady (hostWrite_held hs hheld hq hc (by simp)))
  · exact leads_stepWith rfl (by rw [hostWrite_behind hs hheld])
  · rintro s _ p a v hr hp hi hh hheld hc hroom hq hrep hmode hswap ha ho rfl
    have hquiet : Quiet s := ⟨hr, hrep, hmode, hswap, .inl ha⟩
    have lead := hostWrite_refused (v := v) hr hi hh hheld hc
    have body : hostWrite a v s = guardedWrite a v s :=
      hostWrite_guarded (suppressed_of_running hr hi hh) hheld hc
    refine ⟨fun hf => leadsWith_stepWith rfl lead ?_, fun hf hfew => leadsWith_stepWith rfl lead ?_,
      fun hf hfull hd => leadsWith_stepWith rfl lead ?_⟩
    · rw [stepWith, body, guard_flagged hquiet ha ho hf]
      exact ⟨hf, rfl, rfl, rfl, rfl⟩
    · obtain ⟨hev, hposted⟩ := guard_room (a := a) (v := v) hquiet ha hp hroom.1 (by omega) ho hf hfew
        (waiting s)
      rw [stepWith, body, hev]
      exact ⟨rfl, rfl, rfl, rfl, hposted⟩
    · rw [stepWith, body, guard_full hquiet ha hp ho hf hfull]
      refine ⟨hf, rfl, rfl, ?_⟩
      dsimp only
      split <;> omega

end Sys2Proof.Proofs

/-! The read indexes of the two rings (R31 to R34, R165, R167), and a start-up run again (R3, R26). -/
namespace Sys2Proof.Proofs
open Sys2Proof.Machine Sys2Proof.Safety Sys2Proof.Laws

section
variable {s : State} {p : Profile} {v : Byte}

/-! ### The Event Ring's read index (R31 to R34) -/

/-- The byte of an area's read index has its own address. -/
theorem readIndexAddr {base size : Nat} (h : base + size ≤ 0xFFF0) (hs : 1 < size) :
    (BitVec.ofNat 16 (base + 1)).toNat = base + 1 := by
  rw [BitVec.toNat_ofNat]
  omega

theorem hostWrite_eventIndex (hg : guardsHold s = true) (hp : s.gate.profile = some p)
    (hs : suppressed s = false) (hh : s.gate.held = []) (hb : p.eventsBase + 528 ≤ 0xFFF0)
    (hslots : p.eventsBase + 1 < p.slotsBase ∨ p.slotsBase + 512 ≤ p.eventsBase + 1)
    (hroom : roomy s) : hostWrite (BitVec.ofNat 16 (p.eventsBase + 1)) v s
      = takeEventIndex v { s with mem := Memory.write s.mem (p.eventsBase + 1) v } := by
  have haddr := readIndexAddr hb (by omega)
  have hq := hroom.2
  rw [hostWrite_served hs hh (by omega) (c := .eventRead) ?_ (by simp), serveWrite, haddr, actOn]
  rw [gateClass_eq hg hp, haddr, mapClass_events hslots (k := 1) (by omega) rfl (by omega)]
  rfl

/-- With room in the Post Queue the header's run is posted at once (R31). -/
theorem takeEventIndex_room (hp : s.gate.profile = some p) (hroom : roomy s) :
    takeEventIndex v s = { s with
      gate := { s.gate with queue := s.gate.queue ++
        [.write (p.eventsBase + 1) [takenIndex s.ev.w s.ev.r v] .plain] },
      ev := { s.ev with
        r := takenIndex s.ev.w s.ev.r v,
        guardFlag := s.ev.guardFlag && between (takenIndex s.ev.w s.ev.r v) s.ev.w s.ev.guardIdx,
        attn := s.ev.announced && decide (takenIndex s.ev.w s.ev.r v ≠ s.ev.lastW) } } := by
  obtain ⟨hw, hq⟩ := hroom
  have eq : takeEventIndex v s = offer .record
      [.write (p.eventsBase + 1) [takenIndex s.ev.w s.ev.r v] .plain]
      { s with ev := { s.ev with
        r := takenIndex s.ev.w s.ev.r v,
        guardFlag := s.ev.guardFlag && between (takenIndex s.ev.w s.ev.r v) s.ev.w s.ev.guardIdx,
        attn := s.ev.announced && decide (takenIndex s.ev.w s.ev.r v ≠ s.ev.lastW) } } := by
    simp only [takeEventIndex, hp]
  rw [eq, offer_room]
  · exact hw
  · exact Nat.le_trans (Nat.succ_le_succ hq) (by omega)

/-! ### The Call Record Ring's read index (R167) -/

theorem hostWrite_callIndex (hg : guardsHold s = true) (hp : s.gate.profile = some p)
    (hs : suppressed s = false) (hh : s.gate.held = []) (hb : p.callsBase + 2576 ≤ 0xFFF0)
    (hslots : p.callsBase + 1 < p.slotsBase ∨ p.slotsBase + 512 ≤ p.callsBase + 1)
    (hevents : p.callsBase + 1 < p.eventsBase ∨ p.eventsBase + 528 ≤ p.callsBase + 1)
    (hroom : roomy s) : hostWrite (BitVec.ofNat 16 (p.callsBase + 1)) v s
      = takeCallIndex v { s with mem := Memory.write s.mem (p.callsBase + 1) v } := by
  have haddr := readIndexAddr hb (by omega)
  have hq := hroom.2
  rw [hostWrite_served hs hh (by omega) (c := .callRead) ?_ (by simp), serveWrite, haddr, actOn]
  rw [gateClass_eq hg hp, haddr, mapClass_calls hslots hevents (k := 1) (by omega) rfl (by omega)]
  rfl

/-- The Call Record Ring with the read index taken, its run posted. -/
def callIndexTaken (p : Profile) (v : Byte) (s : State) : State :=
  { s with
    gate := { s.gate with queue := s.gate.queue ++
      [.write (p.callsBase + 1) [takenIndex s.ring.w s.ring.r v] .plain] },
    ring := { s.ring with r := takenIndex s.ring.w s.ring.r v } }

theorem takeCallIndex_room (hp : s.gate.profile = some p) (hroom : roomy s) :
    takeCallIndex v s = if callRingKnown s then placePending (callIndexTaken p v s)
      else callIndexTaken p v s := by
  obtain ⟨hw, hq⟩ := hroom
  have eq : takeCallIndex v s = (if callRingKnown s then placePending else id)
      (offer .record [.write (p.callsBase + 1) [takenIndex s.ring.w s.ring.r v] .plain]
        { s with ring := { s.ring with r := takenIndex s.ring.w s.ring.r v } }) := by
    simp only [takeCallIndex, hp]
    split <;> rfl
  rw [eq, offer_room]
  · split <;> rfl
  · exact hw
  · exact Nat.le_trans (Nat.succ_le_succ hq) (by omega)

theorem placePending_none (h : s.ring.slot = none) : placePending s = s := by
  simp only [placePending, h]

theorem placePending_full {c : CallRecord} (h : s.ring.slot = some c)
    (hr : 64 ≤ (s.ring.w - s.ring.r).toNat) : placePending s = s := by
  simp only [placePending, h]
  exact if_neg (Nat.not_lt.mpr hr)

/-- The two runs of a record: its body, and the write index behind it (R165). -/
def recordRuns (p : Profile) (c : CallRecord) (w : Byte) : List PostEntry :=
  [.write (p.callsBase + 16 + 40 * (w.toNat % 64)) (callBytes c) .plain,
    .write p.callsBase [w + 1] .plain]

theorem placeRecord_room {c : CallRecord} (hp : s.gate.profile = some p)
    (hw : s.gate.waiters = []) (hq : s.gate.queue.length ≤ 14) : placeRecord c s = { s with
      gate := { s.gate with queue := s.gate.queue ++ recordRuns p c s.ring.w },
      ring := { s.ring with w := s.ring.w + 1 } } := by
  have eq : placeRecord c s = offer .record (recordRuns p c s.ring.w)
      { s with ring := { s.ring with w := s.ring.w + 1 } } := by
    simp only [placeRecord, hp, recordRuns]
  rw [eq, offer_room]
  · exact hw
  · exact Nat.add_le_add_right hq 2

/-- With room in the ring and the Post Queue a pending record is placed and its slot emptied (R167). -/
theorem placePending_room {c : CallRecord} (hp : s.gate.profile = some p)
    (h : s.ring.slot = some c) (hr : (s.ring.w - s.ring.r).toNat < 64)
    (hw : s.gate.waiters = []) (hq : s.gate.queue.length ≤ 14) : placePending s = touchLive { s with
      gate := { s.gate with queue := s.gate.queue ++ recordRuns p c s.ring.w },
      ring := { s.ring with w := s.ring.w + 1, slot := none } } := by
  have eq : placePending s = touchLive (placeRecord c { s with ring := { s.ring with slot := none } }) := by
    simp only [placePending, h]
    exact if_pos hr
  rw [eq, placeRecord_room (s := { s with ring := { s.ring with slot := none } }) hp hw hq]

/-! ### The two indexes -/

theorem callIndex_kept (hg : guardsHold s = true) (hp : s.gate.profile = some p)
    (hs : suppressed s = false) (hh : s.gate.held = []) (hb : p.callsBase + 2576 ≤ 0xFFF0)
    (hslots : p.callsBase + 1 < p.slotsBase ∨ p.slotsBase + 512 ≤ p.callsBase + 1)
    (hevents : p.callsBase + 1 < p.eventsBase ∨ p.eventsBase + 528 ≤ p.callsBase + 1)
    (hroom : roomy s)
    (hkept : ∀ m, takeCallIndex v { s with mem := m } = callIndexTaken p v { s with mem := m }) :
    leadsWith (.callRingReadIndexWrite v) s
      { s with
        mem := Memory.write s.mem (p.callsBase + 1) v,
        ring := { s.ring with r := takenIndex s.ring.w s.ring.r v } }
      (posted (.write (p.callsBase + 1) [takenIndex s.ring.w s.ring.r v] .plain) s) := by
  have body := (hostWrite_callIndex (v := v) hg hp hs hh hb hslots hevents hroom).trans (hkept _)
  exact leadsWith_stepWith (execCallRingReadIndexWrite_eq hp) (by rw [body]; rfl)
    (posted_finish _ (by rw [body]; rfl))

end

/-- Settles O17: the index's byte is watched, and its owner takes the index and posts the header's run;
behind the Call Record Ring's a pending record is placed or kept. -/
theorem readIndexesAreJudged : Obligations.ReadIndexesAreJudged := by
  refine ⟨?_, ?_, ?_, ?_⟩
  · rintro s p v hr hp hs hh hb hslots hroom _ rfl
    have body := (hostWrite_eventIndex (v := v) (guardsHold_of_running hr) hp hs hh hb hslots hroom).trans
      (takeEventIndex_room (s := { s with mem := Memory.write s.mem (p.eventsBase + 1) v }) hp hroom)
    refine leadsWith_stepWith (execEventReadIndexWrite_eq hp) (by rw [body]; rfl)
      ⟨posted_finish _ (by rw [body]; rfl), fun ho => ?_⟩
    rw [stepWith, body, finish_guardFlag]
    · rfl
    · simp [ho]
  · rintro s p v hr hp hs hh hb hslots hevents hroom hslot _ rfl
    refine callIndex_kept (guardsHold_of_running hr) hp hs hh hb hslots hevents hroom fun m => ?_
    rw [takeCallIndex_room (s := { s with mem := m }) hp hroom,
      placePending_none (s := callIndexTaken p v { s with mem := m }) hslot]
    exact ite_self _
  · rintro s p v c hr hp hs hh hb hslots hevents hroom hslot _ rfl
    refine ⟨fun hfew => ?_, fun hfull => ?_⟩
    · have known : callRingKnown { s with mem := Memory.write s.mem (p.callsBase + 1) v } = true := by
        simp [callRingKnown, hr]
      have body := hostWrite_callIndex (v := v) (guardsHold_of_running hr) hp hs hh hb hslots hevents hroom
      rw [takeCallIndex_room (s := { s with mem := Memory.write s.mem (p.callsBase + 1) v }) hp hroom,
        if_pos known, placePending_room
          (s := callIndexTaken p v { s with mem := Memory.write s.mem (p.callsBase + 1) v })
          hp hslot hfew hroom.1 (by
            have := hroom.2
            simp only [callIndexTaken, List.length_append, List.length_cons, List.length_nil]
            omega)] at body
      exact leadsWith_stepWith (execCallRingReadIndexWrite_eq hp) (by rw [body]; rfl)
        (postedTogether_of_append (l := []) (by
          rw [body]
          exact (List.append_assoc s.gate.queue [_] (recordRuns p c s.ring.w)).trans
            (by rw [List.append_nil]; rfl)) (finish_grows _ _))
    · refine callIndex_kept (guardsHold_of_running hr) hp hs hh hb hslots hevents hroom fun m => ?_
      rw [takeCallIndex_room (s := { s with mem := m }) hp hroom,
        placePending_full (s := callIndexTaken p v { s with mem := m }) hslot hfull]
      exact ite_self _
  · rintro s p v hr hacc hdone hp hs hh hb hslots hevents hroom _ rfl
    refine callIndex_kept (by simp [guardsHold, hr, hacc]) hp hs hh hb hslots hevents hroom fun m => ?_
    rw [takeCallIndex_room (s := { s with mem := m }) hp hroom, if_neg (by simp [callRingKnown, hr, hdone])]

/-! ### Start-up begun again (R3, R18, R26) -/

section
variable {s t : State}

theorem cal_of_unposted (h : unposted t = unposted s) : t.cal = s.cal :=
  show (unposted t).cal = (unposted s).cal from congrArg State.cal h
theorem tally_of_unposted (h : unposted t = unposted s) : t.tally = s.tally :=
  show (unposted t).tally = (unposted s).tally from congrArg State.tally h

/-- Outside RUNNING the end of a step leaves the calendar and the Tally. -/
theorem finish_still_fields (n : Nat) (h : s.sys.part ≠ .running) :
    (finish n s).cal = s.cal ∧ (finish n s).tally = s.tally := by
  obtain ⟨r, hr⟩ := finish_still n h
  have hcal := cal_of_unposted hr
  have htally := tally_of_unposted hr
  exact ⟨hcal, htally⟩

/-- The part at the anchor check of a start-up (R179). -/
def atAnchor (y : Sys) : Sys :=
  { y with
    part := .starting, accepted := false, stage := .anchor, evDone := false,
    callDone := false, tallyDone := false, tamperDone := false, imageTaken := false,
    tallyMarker := false, imageBank := none, waitRestart := false, powerLost := none,
    heldRefused := 0, tallyBuf := [], tamperBuf := [], liveBuf := [] }

/-- A start-up begins at the anchor, whose read run is posted at once where there is room (R2, R179). -/
theorem beginStart_room (hw : s.gate.waiters = []) (hq : s.gate.queue.length ≤ 15) :
    beginStart s = { closeImages s with
      sys := atAnchor s.sys,
      gate := { s.gate with
        queue := s.gate.queue ++ [.read 0xFFF0 2 .anchor], profileBuf := [] } } := by
  have eq : beginStart s = offer .gate [.read 0xFFF0 2 .anchor] { closeImages s with
    sys := atAnchor s.sys, gate := { s.gate with profileBuf := [] } } := rfl
  rw [eq, offer_room]
  · exact hw
  · exact Nat.succ_le_succ hq

/-- What a step that begins a start-up leaves of all but the start-up itself. -/
theorem finish_beginStart (n : Nat) (hw : s.gate.waiters = []) (hq : s.gate.queue.length ≤ 15) :
    (finish n (beginStart s)).sys = atAnchor s.sys
      ∧ (finish n (beginStart s)).mem = s.mem ∧ (finish n (beginStart s)).cal = s.cal
      ∧ (finish n (beginStart s)).tally = s.tally ∧ (finish n (beginStart s)).orders = s.orders
      ∧ (finish n (beginStart s)).coin.escrow = s.coin.escrow
      ∧ (finish n (beginStart s)).gate.profile = s.gate.profile
      ∧ posted (.read 0xFFF0 2 .anchor) s (finish n (beginStart s)) := by
  have body := beginStart_room hw hq
  obtain ⟨hcal, htally⟩ := finish_still_fields n (s := beginStart s) (by rw [body]; simp [atAnchor])
  refine ⟨?_, ?_, hcal.trans ?_, htally.trans ?_, ?_, ?_, ?_, posted_finish n ?_⟩
  · rw [finish_sys, body]
  · rw [finish_mem, body]; rfl
  · rw [body]; rfl
  · rw [body]; rfl
  · rw [finish_orders, body]; rfl
  · rw [finish_escrow, body]; rfl
  · rw [finish_profile, body]
  · rw [body]

end

/-- Settles O18: the restart byte, watched in UNCONFIGURED and guarded in RUNNING, and the restart
proper both begin start-up at its anchor. -/
theorem startUpIsRunAgain : Obligations.StartUpIsRunAgain := by
  refine ⟨⟨fun s v hu hp hi hh hheld hroom => ?_, fun s p v hr hp hi hh hheld => ?_⟩,
    fun s hst hwait hq hw => ?_⟩
  · have hc : gateClass s (0xFFFF : Addr).toNat = .restartByte := by simp [gateClass, hp, hu]
    have hs : suppressed s = false := by simp [suppressed, hi, hh, hu]
    have hlen := hroom.2
    have body : hostWrite 0xFFFF v s = beginStart { s with mem := Memory.write s.mem 0xFFFF v } :=
      (hostWrite_served hs hheld (by omega) hc (by simp)).trans (if_pos hu)
    obtain ⟨hsys, hmem, hcal, htally, horders, hescrow, -, hposted⟩ :=
      finish_beginStart (waiting s) (s := { s with mem := Memory.write s.mem 0xFFFF v }) hroom.1
        (Nat.le_trans hlen (by omega))
    refine ⟨stepWith (hostWrite 0xFFFF v) s, rfl, ?_⟩
    rw [stepWith, body]
    exact ⟨by rw [hsys]; rfl, by rw [hsys]; rfl, by rw [hsys]; rfl, by rw [hsys]; rfl, hmem, hcal,
      htally, horders, hescrow, hposted⟩
  · have hc : gateClass s (0xFFFF : Addr).toNat = .guarded :=
      (gateClass_eq (guardsHold_of_running hr) hp _).trans (mapClass_ends (.inr rfl))
    exact leads_stepWith rfl (hostWrite_refused hr hi hh hheld hc)
  · obtain ⟨hsys, hmem, -, htally, horders, hescrow, hprofile, hposted⟩ :=
      finish_beginStart (waiting s) hw (by simp [hq])
    refine ⟨stepWith beginStart s, ?_, ?_⟩
    · exact if_pos ⟨hst, hwait, hq, hw⟩
    · exact ⟨by rw [stepWith, hsys]; rfl, by rw [stepWith, hsys]; rfl, by rw [stepWith, hsys]; rfl,
        by rw [stepWith, hsys]; rfl, by rw [stepWith, hsys]; rfl, hprofile, hmem, htally, hescrow,
        horders, hposted⟩

end Sys2Proof.Proofs

/-! What an equal rest leaves of each block, how a rewrite begins, and the failing and the return of the supply
(R14, R16 to R18, R177, R178, R183). -/
namespace Sys2Proof.Proofs
open Sys2Proof.Machine Sys2Proof.Safety Sys2Proof.Laws

section
variable {s t : State}

/-! ### Two states equal but for the posts -/

theorem mem_of_unposted (h : unposted t = unposted s) : t.mem = s.mem :=
  show (unposted t).mem = (unposted s).mem from congrArg State.mem h
theorem sys_of_unposted (h : unposted t = unposted s) : t.sys = s.sys :=
  show (unposted t).sys = (unposted s).sys from congrArg State.sys h
theorem coin_of_unposted (h : unposted t = unposted s) : t.coin = s.coin :=
  show (unposted t).coin = (unposted s).coin from congrArg State.coin h
theorem meter_of_unposted (h : unposted t = unposted s) : t.meter = s.meter :=
  show (unposted t).meter = (unposted s).meter from congrArg State.meter h
theorem line_of_unposted (h : unposted t = unposted s) : t.line = s.line :=
  show (unposted t).line = (unposted s).line from congrArg State.line h
theorem pins_of_unposted (h : unposted t = unposted s) : t.pins = s.pins :=
  show (unposted t).pins = (unposted s).pins from congrArg State.pins h
theorem inhibit_of_unposted (h : unposted t = unposted s) : t.gate.inhibit = s.gate.inhibit :=
  show (unposted t).gate.inhibit = (unposted s).gate.inhibit from congrArg (·.gate.inhibit) h
theorem attn_of_unposted (h : unposted t = unposted s) : t.ev.attn = s.ev.attn :=
  show (unposted t).ev.attn = (unposted s).ev.attn from congrArg (·.ev.attn) h

/-! ### A rewrite leaves the interrupted marker -/

theorem setImage_final (i : ImageId) (x : Image) (s : State) :
    (setImage i x s).img.final = s.img.final := by cases i <;> rfl

theorem joinLine_final (p : Producer) (l : List Offer) (s : State) :
    (joinLine p l s).img.final = s.img.final := by
  unfold joinLine
  split <;> rfl

theorem startOwed_final (i : ImageId) (s : State) : (startOwed i s).img.final = s.img.final := by
  unfold startOwed
  dsimp only
  split
  · exact setImage_final _ _ _
  · rfl

theorem appendRun_final (i : ImageId) (s : State) : (appendRun i s).img.final = s.img.final := by
  unfold appendRun
  dsimp only
  split
  · rw [startOwed_final, setImage_final]; rfl
  · exact setImage_final _ _ _

theorem pumpImage_final (i : ImageId) (n : Nat) (s : State) :
    (pumpImage i n s).img.final = s.img.final := by
  induction n generalizing s with
  | zero => rfl
  | succ n ih =>
    unfold pumpImage
    split
    · rfl
    · split
      · rw [ih, appendRun_final]
      · exact joinLine_final _ _ _

theorem giveRewrite_final (i : ImageId) (s : State) : (giveRewrite i s).img.final = s.img.final := by
  unfold giveRewrite goOnImage
  dsimp only
  split
  · split
    · rw [pumpImage_final, startOwed_final, setImage_final]
    · rfl
    · rfl
    · exact setImage_final _ _ _
    · exact setImage_final _ _ _
  · rfl

/-! ### A rewrite begins (R14) -/

@[simp] theorem getImage_setImage (i : ImageId) (x : Image) (s : State) :
    getImage i (setImage i x s) = x := by cases i <;> rfl
@[simp] theorem setImage_gate (i : ImageId) (x : Image) (s : State) : (setImage i x s).gate = s.gate := by
  cases i <;> rfl
@[simp] theorem standing_setImage (i j : ImageId) (x : Image) (s : State) :
    standing j (setImage i x s) = standing j s := by cases i <;> rfl
theorem setImage_setImage (i : ImageId) (x y : Image) (s : State) :
    setImage i x (setImage i y s) = setImage i x s := by cases i <;> rfl

/-- The first run of a rewrite is its leading count, odd (R14). -/
theorem appendRun_lead {p : Profile} {i : ImageId} (hp : s.gate.profile = some p)
    (hx : (getImage i s).pos = some .lead) : (appendRun i s).gate.queue
      = s.gate.queue ++ [.write (imageBase p i) [(getImage i s).count + 1] .plain] := by
  unfold appendRun
  dsimp only
  rw [hp, hx]
  dsimp only
  rw [startOwed_gate, setImage_gate]
  rfl

theorem pumpImage_lead {p : Profile} {i : ImageId} (n : Nat) (hp : s.gate.profile = some p)
    (hx : (getImage i s).pos = some .lead) (hf : placeFree s = true) :
    s.gate.queue ++ [.write (imageBase p i) [(getImage i s).count + 1] .plain]
      <+: (pumpImage i (n + 1) s).gate.queue := by
  unfold pumpImage
  rw [if_neg (by simp [hx]), if_pos hf, ← appendRun_lead hp hx]
  exact pumpImage_grows i n _

/-- A rewrite that is due and may begin begins with its leading count (R14, R47). -/
theorem giveRewrite_lead {p : Profile} {i : ImageId} (hp : s.gate.profile = some p)
    (hon : (getImage i s).on = true) (hpos : (getImage i s).pos = none)
    (hdue : rewriteDue i (getImage i s) s = true) (hstand : standing i s < rewriteTop)
    (hf : placeFree s = true) :
    s.gate.queue ++ [.write (imageBase p i) [(getImage i s).count + 1] .plain]
      <+: (giveRewrite i s).gate.queue := by
  have begun : startOwed i (setImage i { getImage i s with pos := none, owed := true } s)
      = setImage i { getImage i s with pos := some .lead, owed := false } s := by
    unfold startOwed
    dsimp only
    rw [getImage_setImage, standing_setImage, if_pos ⟨rfl, rfl, hstand⟩, setImage_setImage]
  unfold giveRewrite goOnImage
  dsimp only
  rw [if_pos (by simp [hon, hdue]), hpos]
  dsimp only
  rw [begun]
  have lead := pumpImage_lead (i := i) (p := p) 19
    (s := setImage i { getImage i s with pos := some .lead, owed := false } s)
    (by rw [setImage_gate, hp]) (by rw [getImage_setImage])
    (by rw [placeFree, setImage_gate]; exact hf)
  rwa [setImage_gate, getImage_setImage] at lead

theorem standing_le (i : ImageId) (s : State) : standing i s ≤ s.gate.queue.length :=
  List.countP_le_length

/-- Where nothing has been given yet, every field of the Live Image is to be given. -/
theorem rewriteDue_live_fresh {x : Image} (h : x.shown = []) (s : State) :
    rewriteDue .live x s = true := by
  have first : ∃ b l, liveFields s = b :: l := by
    simp only [liveFields, List.cons_append]
    exact ⟨_, _, rfl⟩
  obtain ⟨b, l, hbl⟩ := first
  unfold rewriteDue changedRun
  rw [h, imageFields, hbl]
  rfl

/-! ### FAILING (R16, R84, R134, R183) -/

/-- The state in which the final Live Image is given: the blocks stopped, the closing reasons those of
FAILING (R183). -/
def failed (s : State) : State :=
  { stopBlocks s with coin := { (stopBlocks s).coin with reasons := closingReasons (stopBlocks s) } }

theorem enterFailing_final (h : finalDue s = true) :
    enterFailing s = endFailing (giveFinal (failed s)) := by
  unfold enterFailing failed
  rw [h]
  rfl

theorem enterFailing_plain (h : finalDue s = false) : enterFailing s = endFailing (failed s) := by
  unfold enterFailing failed
  rw [h]
  rfl

theorem endFailing_goesOn (h : s.gate.queue ≠ []) : endFailing s = s := by
  unfold endFailing
  exact if_neg fun ⟨_, hq, _⟩ => h hq

theorem giveFinal_unposted (s : State) : unposted (giveFinal s) = unposted s :=
  giveRewrite_unposted .live { s with img := { s.img with
    live := { s.img.live with on := true }, final := true } }

theorem giveFinal_final (s : State) : (giveFinal s).img.final = true :=
  giveRewrite_final .live { s with img := { s.img with
    live := { s.img.live with on := true }, final := true } }

/-- With the queue cut to the entry in progress the final Live Image begins at once (R183). -/
theorem giveFinal_lead {p : Profile} (hp : s.gate.profile = some p) (hw : s.gate.waiters = [])
    (hq : s.gate.queue.length ≤ 1) (hpos : s.img.live.pos = none) (hshown : s.img.live.shown = []) :
    s.gate.queue ++ [.write p.liveBase [s.img.live.count + 1] .plain]
      <+: (giveFinal s).gate.queue := by
  have hstand : standing .live s ≤ 1 := Nat.le_trans (standing_le _ _) hq
  have hf : placeFree s = true := by
    have : s.gate.queue.length < 16 := by omega
    simp [placeFree, hw, postPlaces, this]
  exact giveRewrite_lead (i := .live) (s := { s with img := { s.img with
      live := { s.img.live with on := true }, final := true } }) hp rfl hpos
    (rewriteDue_live_fresh hshown _) (Nat.lt_succ_of_le hstand) hf

/-- The final Live Image: what FAILING leaves, and where its first run stands. -/
theorem enterFailing_giveFinal {p : Profile} (hp : s.gate.profile = some p)
    (h : finalDue s = true) : unposted (enterFailing s) = unposted (failed s)
      ∧ (enterFailing s).img.final = true
      ∧ s.gate.queue.take 1 ++ [.write p.liveBase [s.img.live.count + 1] .plain]
          <+: (enterFailing s).gate.queue := by
  have lead := giveFinal_lead (s := failed s) hp rfl (List.length_take_le 1 _) rfl rfl
  have hne : (giveFinal (failed s)).gate.queue ≠ [] := by
    intro hnil
    rw [hnil] at lead
    simp at lead
  rw [enterFailing_final h, endFailing_goesOn hne]
  exact ⟨giveFinal_unposted _, giveFinal_final _, lead⟩

/-- With nothing in progress FAILING ends at once in DARK (R177). -/
theorem endFailing_failed_empty (h : s.gate.queue = []) :
    endFailing (failed s) = goDark false (failed s) :=
  if_pos ⟨rfl, by rw [show (failed s).gate.queue = s.gate.queue.take 1 from rfl, h]; rfl, rfl⟩

theorem execPowerFail_eq (h : s.sys.part ≠ .dark) (h' : s.sys.part ≠ .failing) :
    exec .powerFail s = .next (enterFailing
      { s with gate := { s.gate with inhibit := true, pwrgood := false } }) := by
  show execPowerFail s = _
  unfold execPowerFail
  dsimp only
  split
  · next hd => exact absurd hd h
  · next hf => exact absurd hf h'
  · rfl
  · rfl
  · rfl

end

/-- Settles O25: the blocks stop, and the final Live Image begins where one is due; DARK keeps the
memory, the calendar and the supply lines. -/
theorem powerFailureAndResetStopThePart : Obligations.PowerFailureAndResetStopThePart := by
  refine ⟨⟨fun s p hr hp => ?_, fun s hd => ?_, fun s p hst hp hk => ?_,
    fun s hcase => ⟨fun hq => ?_, fun e q hq => ?_⟩⟩, fun s hd => ?_, fun s hf => ?_⟩
  · have due : finalDue { s with gate := { s.gate with inhibit := true, pwrgood := false } } = true := by
      simp [finalDue, hp, hr]
    obtain ⟨hu, hfinal, hlead⟩ := enterFailing_giveFinal
      (s := { s with gate := { s.gate with inhibit := true, pwrgood := false } }) hp due
    have hcoin := coin_of_unposted hu
    have hmeter := meter_of_unposted hu
    exact ⟨_, execPowerFail_eq (by simp [hr]) (by simp [hr]),
      congrArg Sys.part (sys_of_unposted hu), inhibit_of_unposted hu, hfinal, hlead,
      congrArg Coin.passages hcoin, congrArg Coin.escrow hcoin, congrArg Coin.lane hcoin,
      congrArg Coin.gatePos hcoin,
      (congrArg Coin.uncertain hcoin).trans (by
        cases hl : s.coin.lane <;> cases hu : s.coin.uncertain <;>
          simp [failed, stopBlocks, dropRewrites, closeImages, failCoin, inFlight, hl, hu]),
      (congrArg Meter.purse hmeter).trans rfl, (congrArg Meter.units hmeter).trans rfl,
      (congrArg Meter.charge hmeter).trans rfl,
      (congrArg Meter.metered hmeter).trans rfl, congrArg Line.seize (line_of_unposted hu),
      (attn_of_unposted hu).trans rfl, (mem_of_unposted hu).trans rfl, (cal_of_unposted hu).trans rfl,
      (tally_of_unposted hu).trans rfl, (pins_of_unposted hu).trans rfl⟩
  · show execPowerFail s = _
    unfold execPowerFail
    rw [hd]
  · have due : finalDue { s with gate := { s.gate with inhibit := true, pwrgood := false } } = true := by
      obtain hk | hk := hk <;> simp [finalDue, hp, hst, hk]
    obtain ⟨hu, hfinal, hlead⟩ := enterFailing_giveFinal
      (s := { s with gate := { s.gate with inhibit := true, pwrgood := false } }) hp due
    exact ⟨_, execPowerFail_eq (by simp [hst]) (by simp [hst]),
      congrArg Sys.part (sys_of_unposted hu), inhibit_of_unposted hu, hfinal, hlead,
      (congrArg Meter.purse (meter_of_unposted hu)).trans rfl, (mem_of_unposted hu).trans rfl,
      (cal_of_unposted hu).trans rfl, (tally_of_unposted hu).trans rfl⟩
  · have due : finalDue { s with gate := { s.gate with inhibit := true, pwrgood := false } } = false := by
      obtain h | ⟨h, hk, hi⟩ := hcase
      · simp [finalDue, h]
      · simp [finalDue, h, hk, hi]
    refine ⟨_, execPowerFail_eq ?_ ?_, ?_⟩
    · obtain h | ⟨h, -⟩ := hcase <;> simp [h]
    · obtain h | ⟨h, -⟩ := hcase <;> simp [h]
    · rw [enterFailing_plain due, endFailing_failed_empty
        (s := { s with gate := { s.gate with inhibit := true, pwrgood := false } }) hq]
      exact ⟨rfl, rfl, rfl, rfl, rfl, rfl⟩
  · have due : finalDue { s with gate := { s.gate with inhibit := true, pwrgood := false } } = false := by
      obtain h | ⟨h, hk, hi⟩ := hcase
      · simp [finalDue, h]
      · simp [finalDue, h, hk, hi]
    have one : (failed { s with gate := { s.gate with inhibit := true, pwrgood := false } }).gate.queue
        = [e] := by
      show s.gate.queue.take 1 = [e]
      rw [hq]
      rfl
    refine ⟨_, execPowerFail_eq ?_ ?_, ?_⟩
    · obtain h | ⟨h, -⟩ := hcase <;> simp [h]
    · obtain h | ⟨h, -⟩ := hcase <;> simp [h]
    · rw [enterFailing_plain due, endFailing_goesOn (by rw [one]; simp)]
      exact ⟨rfl, rfl, one, rfl, rfl, rfl, rfl, rfl⟩
  · exact ⟨_, if_neg hd, rfl, rfl, rfl, rfl, rfl, rfl, rfl, rfl, rfl⟩
  · exact ⟨_, if_pos hf, rfl, rfl, rfl, rfl, rfl, rfl, rfl, rfl⟩

/-- Settles O26: each by the command's own definition. -/
theorem darkEndsAndTheBatteryIsNoted : Obligations.DarkEndsAndTheBatteryIsNoted := by
  refine ⟨fun s hd => ⟨startFromDark s, if_pos hd, rfl, rfl, rfl, rfl, rfl, rfl, rfl, rfl, rfl, rfl, ?_⟩,
    fun s => ⟨fun hp => ?_, fun hp => if_pos hp⟩⟩
  · unfold startFromDark darkKind
    cases s.cal.note <;> cases s.sys.darkByReset <;> exact ⟨rfl, rfl, rfl, rfl, rfl⟩
  · exact ⟨_, if_neg (by simp [hp]), rfl, fun a => rfl, rfl, rfl, rfl⟩

end Sys2Proof.Proofs

/-! Orders taken, unknown and turned away (R21, R22), and the clock orders (R43 to R45). -/
namespace Sys2Proof.Proofs
open Sys2Proof.Machine Sys2Proof.Safety Sys2Proof.Laws

section
variable {s : State} {n : Fin 16} {d : List Byte}

/-! ### Taking an order (R21, R22) -/

theorem takeOrder_room {p : Profile} {q : List (Fin 16)} (hp : s.gate.profile = some p)
    (ho : s.orders.queue = n :: q) (hr : roomy s) : takeOrder s = { s with
      gate := { s.gate with queue := s.gate.queue ++
        [.read (slotAddr p n 0) 28 (.order n), .write (slotAddr p n 31) [2] .plain] },
      orders := { s.orders with
        slots := s.orders.slots.set n .taken, queue := q, busy := some n, data := none } } := by
  obtain ⟨hw, hq⟩ := hr
  have eq : takeOrder s = offer .orderUnit
      [.read (slotAddr p n 0) 28 (.order n), .write (slotAddr p n 31) [2] .plain]
      (setSlot n .taken { s with orders := { s.orders with queue := q, busy := some n, data := none } }) := by
    simp only [takeOrder, hp, ho]
  rw [eq, offer_room]
  · rfl
  · exact hw
  · exact Nat.le_trans (Nat.add_le_add_right hq 2) (by omega)

/-- Settles O27: the head of the Order Queue is taken with its two runs; a code outside 1 to 15 has no
owner. -/
theorem ordersAreTakenOrUnknown : Obligations.OrdersAreTakenOrUnknown := by
  refine ⟨fun s p n q hr hb ho hp hroom => ?_, fun s n d code h hp hroom hcode => ?_⟩
  · have body := takeOrder_room hp ho hroom
    refine leadsWith_stepWith (if_pos ⟨hr, hb⟩) (by rw [body]; rfl) ?_
    have grown := finish_grows (waiting s) (takeOrder s)
    rw [grows, body] at grown
    rw [stepWith, body]
    exact grown
  · obtain ⟨hr, hbusy, hdata, rfl⟩ := h
    have hex : exec .unknownOrder s = .next (stepWith (answer n .unknownOrder (natAt d 0)) s) := by
      show execUnknownOrder s = _
      simp only [execUnknownOrder, hbusy, hdata]
      exact if_neg (by omega)
    obtain ⟨hsteady, hanswered⟩ := finish_answer rfl hp hroom (waiting s) n .unknownOrder (natAt d 0)
    exact ⟨_, hex, hsteady, hanswered⟩

/-! ### Orders turned away (R22 step 2) -/

/-- An order with an unmet condition is answered NOT NOW with the condition and the station state. -/
theorem leadsWith_notNow {c : Instr} {code k : Nat} {conds : State → List (Nat × Bool)}
    {owner : Fin 16 → List Byte → State → State} (he : exec c s = .next (carryOut code conds owner s))
    (h : orderAt code n d s) (hp : s.gate.profile ≠ none) (hr : roomy s)
    (hk : firstUnmet (conds s) = some k) :
    leadsWith c s (answering s) (answered n 5 (k + 256 * stationCode s.call.station) s) := by
  obtain ⟨-, hbusy, hdata, hcode⟩ := h
  have carried : carryOut code conds owner s
      = finish (waiting (answer n .notNow (notNowDetail k s) s)) (answer n .notNow (notNowDetail k s) s) := by
    simp only [carryOut, hbusy, hdata, hcode, hk, if_true]
  obtain ⟨hsteady, hanswered⟩ := finish_answer rfl hp hr
    (waiting (answer n .notNow (notNowDetail k s) s)) n .notNow (notNowDetail k s)
  exact ⟨_, by rw [he, carried], hsteady, hanswered⟩

end

/-- Settles O28: the first condition of the order's row that is not met. -/
theorem unavailableOrderIsNotNow : Obligations.UnavailableOrderIsNotNow := by
  rintro s n d hp hr _ rfl _ rfl
  refine ⟨fun h h1 h2 => leadsWith_notNow rfl h hp hr ?_,
    fun h h1 h2 h3 h4 => leadsWith_notNow rfl h hp hr ?_,
    fun h h1 h2 h3 h4 => leadsWith_notNow rfl h hp hr ?_,
    fun h h1 h2 h3 h4 => leadsWith_notNow rfl h hp hr ?_,
    fun h h1 => leadsWith_notNow rfl h hp hr ?_,
    fun h => ⟨fun hx => leadsWith_notNow rfl h hp hr ?_, fun hx hm => leadsWith_notNow rfl h hp hr ?_,
      fun hx hm hv => leadsWith_notNow rfl h hp hr ?_⟩,
    fun h => ⟨fun hv => leadsWith_notNow rfl h hp hr ?_,
      fun hv hk hl hu => leadsWith_notNow rfl h hp hr ?_⟩,
    fun h => ⟨fun hx => leadsWith_notNow rfl h hp hr ?_, fun hx hm => leadsWith_notNow rfl h hp hr ?_,
      fun hx hm hv => leadsWith_notNow rfl h hp hr ?_,
      fun hx hm hv hc => leadsWith_notNow rfl h hp hr ?_⟩⟩
  · simp [dialConds, firstUnmet, h1, h2]
  · simp [dialMoreConds, firstUnmet, h1, h2, h3, h4]
  · simp [returnConds, firstUnmet, h1, h2, h3, h4]
  · simp [nextConds, firstUnmet, h1, h2, h3, h4]
  · simp [firstUnmet, h1]
  · simp [openConds, firstUnmet, hx]
  · have : visitPurse s.meter.purse = false := by
      obtain hm | hm | ⟨hm, hh⟩ := hm
      · simp [visitPurse, hm]
      · simp [visitPurse, hm]
      · simp [visitPurse, hm, hh]
    simp [openConds, firstUnmet, hx, this]
  · have : visitPurse s.meter.purse = true := by
      obtain hm | ⟨hm, hh⟩ := hm
      · simp [visitPurse, hm]
      · simp [visitPurse, hm, hh]
    simp [openConds, firstUnmet, hx, this, hv]
  · have : serviceVisit s = false := by
      obtain hv | hv := hv <;> simp [serviceVisit, hv]
    simp [laneConds, firstUnmet, this]
  · simp [laneConds, firstUnmet, serviceVisit, hv, hk, hl, hu]
  · simp [restartConds, firstUnmet, hx]
  · simp [restartConds, firstUnmet, hx, purseOpen, hm]
  · simp [restartConds, firstUnmet, hx, purseOpen, hm, hv]
  · simp [restartConds, firstUnmet, hx, purseOpen, hm, hv, hc]

end Sys2Proof.Proofs

/-! What each judgment at a step's end leaves alone, block by block (section 0.5.3). -/
namespace Sys2Proof.Proofs
open Sys2Proof.Machine Sys2Proof.Safety Sys2Proof.Laws

section
variable {s t : State}

/-! ### Behind the judgments come posts and closing reasons only -/

theorem call_of_unposted (h : unposted t = unposted s) : t.call = s.call :=
  show (unposted t).call = (unposted s).call from congrArg State.call h
theorem report_of_unposted (h : unposted t = unposted s) : t.report = s.report :=
  show (unposted t).report = (unposted s).report from congrArg State.report h
theorem tariff_of_unposted (h : unposted t = unposted s) : t.tariff = s.tariff :=
  show (unposted t).tariff = (unposted s).tariff from congrArg State.tariff h
theorem tamper_of_unposted (h : unposted t = unposted s) : t.tamper = s.tamper :=
  show (unposted t).tamper = (unposted s).tamper from congrArg State.tamper h
theorem guardA_of_unposted (h : unposted t = unposted s) : t.gate.guardA = s.gate.guardA :=
  show (unposted t).gate.guardA = (unposted s).gate.guardA from congrArg (·.gate.guardA) h
theorem guardB_of_unposted (h : unposted t = unposted s) : t.gate.guardB = s.gate.guardB :=
  show (unposted t).gate.guardB = (unposted s).gate.guardB from congrArg (·.gate.guardB) h

/-- A state with other closing reasons. -/
def withReasons (r : BitVec 10) (s : State) : State := { s with coin := { s.coin with reasons := r } }

theorem judgeReasons_unposted (s : State) :
    unposted (judgeReasons s) = unposted (withReasons (closingReasons s) s) := by
  have judged : ∀ r : BitVec 10, unposted (if r = s.coin.reasons then s
      else touchLive { s with coin := { s.coin with reasons := r } }) = unposted (withReasons r s) := by
    intro r
    split
    · next h => subst h; rfl
    · rfl
  exact judged (closingReasons s)

/-- A step's end is its judgments, the closing reasons and posts. -/
theorem finish_settle (n : Nat) (s : State) :
    unposted (finish n s) = unposted (withReasons (closingReasons (settle s)) (settle s)) := by
  unfold finish
  rw [shuffleWaiters_unposted, postImages_unposted, flushEvents_unposted, judgeReasons_unposted]

/-! The closing reasons are the Coin Unit's own. -/

theorem call_of_reasons {r : BitVec 10} (h : unposted t = unposted (withReasons r s)) :
    t.call = s.call := (call_of_unposted h).trans rfl
theorem line_of_reasons {r : BitVec 10} (h : unposted t = unposted (withReasons r s)) :
    t.line = s.line := (line_of_unposted h).trans rfl
theorem report_of_reasons {r : BitVec 10} (h : unposted t = unposted (withReasons r s)) :
    t.report = s.report := (report_of_unposted h).trans rfl
theorem meter_of_reasons {r : BitVec 10} (h : unposted t = unposted (withReasons r s)) :
    t.meter = s.meter := (meter_of_unposted h).trans rfl
theorem cal_of_reasons {r : BitVec 10} (h : unposted t = unposted (withReasons r s)) :
    t.cal = s.cal := (cal_of_unposted h).trans rfl
theorem tally_of_reasons {r : BitVec 10} (h : unposted t = unposted (withReasons r s)) :
    t.tally = s.tally := (tally_of_unposted h).trans rfl
theorem tariff_of_reasons {r : BitVec 10} (h : unposted t = unposted (withReasons r s)) :
    t.tariff = s.tariff := (tariff_of_unposted h).trans rfl
theorem tamper_of_reasons {r : BitVec 10} (h : unposted t = unposted (withReasons r s)) :
    t.tamper = s.tamper := (tamper_of_unposted h).trans rfl
theorem guardA_of_reasons {r : BitVec 10} (h : unposted t = unposted (withReasons r s)) :
    t.gate.guardA = s.gate.guardA := (guardA_of_unposted h).trans rfl
theorem guardB_of_reasons {r : BitVec 10} (h : unposted t = unposted (withReasons r s)) :
    t.gate.guardB = s.gate.guardB := (guardB_of_unposted h).trans rfl
theorem coin_of_reasons {r : BitVec 10} (h : unposted t = unposted (withReasons r s)) :
    t.coin = { s.coin with reasons := r } := (coin_of_unposted h).trans rfl

theorem finish_call (n : Nat) (s : State) : (finish n s).call = (settle s).call :=
  call_of_reasons (finish_settle n s)
theorem finish_line (n : Nat) (s : State) : (finish n s).line = (settle s).line :=
  line_of_reasons (finish_settle n s)
theorem finish_report (n : Nat) (s : State) : (finish n s).report = (settle s).report :=
  report_of_reasons (finish_settle n s)
theorem finish_meter (n : Nat) (s : State) : (finish n s).meter = (settle s).meter :=
  meter_of_reasons (finish_settle n s)
theorem finish_cal (n : Nat) (s : State) : (finish n s).cal = (settle s).cal :=
  cal_of_reasons (finish_settle n s)
theorem finish_tally (n : Nat) (s : State) : (finish n s).tally = (settle s).tally :=
  tally_of_reasons (finish_settle n s)
theorem finish_tariff (n : Nat) (s : State) : (finish n s).tariff = (settle s).tariff :=
  tariff_of_reasons (finish_settle n s)
theorem finish_tamper (n : Nat) (s : State) : (finish n s).tamper = (settle s).tamper :=
  tamper_of_reasons (finish_settle n s)
theorem finish_guardA (n : Nat) (s : State) : (finish n s).gate.guardA = (settle s).gate.guardA :=
  guardA_of_reasons (finish_settle n s)
theorem finish_guardB (n : Nat) (s : State) : (finish n s).gate.guardB = (settle s).gate.guardB :=
  guardB_of_reasons (finish_settle n s)
theorem finish_coin (n : Nat) (s : State) :
    ∃ r, (finish n s).coin = { (settle s).coin with reasons := r } :=
  ⟨_, coin_of_reasons (finish_settle n s)⟩

/-! ### Before the report claim: the money, activation and the mode -/

/-- The state at which the report claim is judged. -/
def atReport (s : State) : State := judgeMode (judgeActivationClock (judgeMoney s))

theorem settle_eq (h : s.sys.part = .running) : settle s = judgeSender (judgeReport (atReport s)) :=
  if_pos h

/-- A state with the fields that the judgments before the report claim may write set to fixed values: the
Coin Unit and the Metering Unit, what activation changes, the mode, and the posts. -/
def unjudged (s : State) : State :=
  { s with
    gate := { s.gate with guardA := false, guardB := false, queue := [], waiters := [] },
    ev := { s.ev with
      w := 0, dropped := 0, seq := 0, guardFlag := false, guardIdx := 0, outbox := [] },
    tally := { s.tally with forfeited := 0, bank := none, edition := 0 },
    cal := { s.cal with band := 0 },
    img := State.reset.img,
    tariff := { s.tariff with active := none, swap := .idle },
    coin := State.reset.coin, meter := State.reset.meter,
    call := { s.call with mode := .closed }, fresh := 0 }

theorem unjudged_of_unposted (h : unposted t = unposted s) : unjudged t = unjudged s :=
  show unjudged (unposted t) = unjudged (unposted s) from congrArg unjudged h

theorem raise_unjudged (b : Block) (code : Nat) (d : List Byte) (s : State) :
    unjudged (raise b code d s) = unjudged s := unjudged_of_unposted (raise_unposted b code d s)

theorem setHold_unjudged (c : HoldCause) (s : State) : unjudged (setHold c s) = unjudged s := by
  unfold setHold
  dsimp only
  split
  · split <;> rfl
  · split
    · split <;> rfl
    · rw [raise_unjudged]; rfl

theorem closePurse_unjudged (s : State) : unjudged (closePurse s) = unjudged s := by
  unfold closePurse
  dsimp only
  generalize hr : raise .metering 14 _ _ = u
  have hu : unjudged u = unjudged s := by rw [← hr, raise_unjudged]; rfl
  rw [← hu]
  rfl

theorem judgeDemand_unjudged (s : State) : unjudged (judgeDemand s) = unjudged s := by
  have settling : unjudged (if requestInFlight s.coin = true then s
      else if (s.coin.escrow.isEmpty && !inFlight s.coin.lane) = true then closePurse s
      else setHold (holdCauseOf (settleDemand s) s) (setDemand (settleDemand s) s)) = unjudged s := by
    split
    · rfl
    · split
      · exact closePurse_unjudged s
      · exact setHold_unjudged _ (setDemand (settleDemand s) s)
  unfold judgeDemand
  split
  · rfl
  · split <;> rfl
  · exact settling
  · exact settling

theorem settleOnHook_unjudged (s : State) : unjudged (settleOnHook s) = unjudged s := by
  unfold settleOnHook beginSettlement
  split
  · split <;> rfl
  · rfl

theorem startLane_unjudged (s : State) : unjudged (startLane s) = unjudged s := by
  unfold startLane
  split
  · split
    · rfl
    · split
      · rfl
      · split
        · split <;> rfl
        · rfl
        · rfl
  · rfl

theorem judgeMoney_unjudged (s : State) : unjudged (judgeMoney s) = unjudged s := by
  unfold judgeMoney
  split
  · rw [startLane_unjudged, judgeDemand_unjudged, settleOnHook_unjudged]
  · rfl

theorem setBankGuard_unjudged (bank : Bank) (on : Bool) (s : State) :
    unjudged (setBankGuard bank on s) = unjudged s := by cases bank <;> rfl

/-- The blocks that activation never touches: the Coin Unit and the Metering Unit. -/
def coinMeter (s : State) := (s.coin, s.meter)

theorem setBankGuard_coinMeter (bank : Bank) (on : Bool) (s : State) :
    coinMeter (setBankGuard bank on s) = coinMeter s := by cases bank <;> rfl

theorem coinMeter_of_unposted (h : unposted t = unposted s) : coinMeter t = coinMeter s :=
  show coinMeter (unposted t) = coinMeter (unposted s) from congrArg coinMeter h

theorem activate_rest (bank : Bank) (tb : Tables) (s : State) :
    unjudged (activate bank tb s) = unjudged s ∧ coinMeter (activate bank tb s) = coinMeter s := by
  have freed : ∀ u : State, unjudged u = unjudged s → coinMeter u = coinMeter s →
      unjudged (handBank (some bank) tb.edition
        (raise .tariff 21 (activeDetail bank tb.edition s.tariff.active) (reselectBand u))) = unjudged s
      ∧ coinMeter (handBank (some bank) tb.edition
        (raise .tariff 21 (activeDetail bank tb.edition s.tariff.active) (reselectBand u)))
          = coinMeter s := by
    intro u hu hc
    generalize hr : raise .tariff 21 (activeDetail bank tb.edition s.tariff.active) (reselectBand u) = x
    have hp : unposted x = unposted (reselectBand u) := by rw [← hr, raise_unposted]
    have hx := unjudged_of_unposted hp
    have hy := coinMeter_of_unposted hp
    constructor
    · exact (show unjudged (handBank (some bank) tb.edition x) = unjudged x from rfl).trans
        (hx.trans ((show unjudged (reselectBand u) = unjudged u from rfl).trans hu))
    · exact (show coinMeter (handBank (some bank) tb.edition x) = coinMeter x from rfl).trans
        (hy.trans ((show coinMeter (reselectBand u) = coinMeter u from rfl).trans hc))
  refine freed _ ?_ ?_
  · dsimp only
    split
    · split
      · rfl
      · rw [setBankGuard_unjudged]; rfl
    · rfl
  · dsimp only
    split
    · split
      · rfl
      · rw [setBankGuard_coinMeter]; rfl
    · rfl

theorem judgeActivation_rest (s : State) :
    unjudged (judgeActivation s) = unjudged s ∧ coinMeter (judgeActivation s) = coinMeter s := by
  unfold judgeActivation
  split
  · split
    · exact activate_rest _ _ _
    · exact ⟨rfl, rfl⟩
  · exact ⟨rfl, rfl⟩
  · exact ⟨rfl, rfl⟩

theorem judgeActivationClock_rest (s : State) :
    unjudged (judgeActivationClock s) = unjudged s
      ∧ coinMeter (judgeActivationClock s) = coinMeter s := by
  unfold judgeActivationClock
  dsimp only
  split
  · exact judgeActivation_rest s
  · have hg := giveRewrite_unposted .clock (judgeActivation s)
    obtain ⟨h1, h2⟩ := judgeActivation_rest s
    exact ⟨(unjudged_of_unposted hg).trans h1, (coinMeter_of_unposted hg).trans h2⟩

theorem judgeMode_rest (s : State) :
    unjudged (judgeMode s) = unjudged s ∧ coinMeter (judgeMode s) = coinMeter s := by
  unfold judgeMode
  dsimp only
  split
  · exact ⟨rfl, rfl⟩
  · have hr := raise_unposted .call 23
      ([b8 (modeCode (modeOf s)), b8 (modeCode s.call.mode)] ++ leBytes 2 (modeInputs s))
      (touchLive { s with call := { s.call with mode := modeOf s } })
    exact ⟨(unjudged_of_unposted hr).trans rfl, (coinMeter_of_unposted hr).trans rfl⟩

theorem atReport_unjudged (s : State) : unjudged (atReport s) = unjudged s := by
  rw [atReport, (judgeMode_rest _).1, (judgeActivationClock_rest _).1, judgeMoney_unjudged]

theorem atReport_coinMeter (s : State) : coinMeter (atReport s) = coinMeter (judgeMoney s) := by
  rw [atReport, (judgeMode_rest _).2, (judgeActivationClock_rest _).2]

theorem atReport_coin (s : State) : (atReport s).coin = (judgeMoney s).coin :=
  congrArg (·.1) (atReport_coinMeter s)
theorem atReport_meter (s : State) : (atReport s).meter = (judgeMoney s).meter :=
  congrArg (·.2) (atReport_coinMeter s)

/-! What an equal `unjudged` says, field by field. -/

theorem line_of_unjudged (h : unjudged t = unjudged s) : t.line = s.line :=
  show (unjudged t).line = (unjudged s).line from congrArg State.line h
theorem report_of_unjudged (h : unjudged t = unjudged s) : t.report = s.report :=
  show (unjudged t).report = (unjudged s).report from congrArg State.report h
theorem tamper_of_unjudged (h : unjudged t = unjudged s) : t.tamper = s.tamper :=
  show (unjudged t).tamper = (unjudged s).tamper from congrArg State.tamper h
theorem pins_of_unjudged (h : unjudged t = unjudged s) : t.pins = s.pins :=
  show (unjudged t).pins = (unjudged s).pins from congrArg State.pins h
theorem profile_of_unjudged (h : unjudged t = unjudged s) : t.gate.profile = s.gate.profile :=
  show (unjudged t).gate.profile = (unjudged s).gate.profile from congrArg (·.gate.profile) h
theorem call_of_unjudged (h : unjudged t = unjudged s) : t.call = { s.call with mode := t.call.mode } :=
  show { (unjudged t).call with mode := t.call.mode } = { (unjudged s).call with mode := t.call.mode } from
    congrArg (fun u : State => { u.call with mode := t.call.mode }) h

/-! ### With no swap pending -/

/-- No bank waits for its activation. -/
def noSwap (s : State) : Prop := ∀ bank eff tb, s.tariff.swap ≠ .pending bank eff tb

theorem noSwap_of_idle (h : s.tariff.swap = .idle) : noSwap s := by
  intro bank eff tb
  rw [h]
  exact fun h => nomatch h

theorem judgeActivation_noSwap (h : noSwap s) : judgeActivation s = s := by
  unfold judgeActivation
  split
  · next bank eff tb hs => exact absurd hs (h bank eff tb)
  · rfl
  · rfl

theorem judgeActivationClock_noSwap (h : noSwap s) : judgeActivationClock s = s := by
  simp [judgeActivationClock, judgeActivation_noSwap h]

/-- A state with the money's own fields and the posts set to fixed values. -/
def unmoneyed (s : State) : State :=
  { s with
    ev := { s.ev with outbox := [] }, tally := { s.tally with forfeited := 0 },
    img := State.reset.img, coin := State.reset.coin, meter := State.reset.meter }

theorem raise_unmoneyed (b : Block) (code : Nat) (d : List Byte) (s : State) :
    unmoneyed (raise b code d s) = unmoneyed s := by
  unfold raise
  split <;> rfl

theorem judgeMoney_unmoneyed (s : State) : unmoneyed (judgeMoney s) = unmoneyed s := by
  have hold : ∀ (c : HoldCause) (u : State), unmoneyed (setHold c u) = unmoneyed u := by
    intro c u
    unfold setHold
    dsimp only
    split
    · split <;> rfl
    · split
      · split <;> rfl
      · rw [raise_unmoneyed]; rfl
  have close : ∀ u : State, unmoneyed (closePurse u) = unmoneyed u := by
    intro u
    unfold closePurse
    dsimp only
    generalize hr : raise .metering 14 _ _ = x
    have hx : unmoneyed x = unmoneyed u := by rw [← hr, raise_unmoneyed]; rfl
    rw [← hx]
    rfl
  have demand : ∀ u : State, unmoneyed (judgeDemand u) = unmoneyed u := by
    intro u
    have settling : unmoneyed (if requestInFlight u.coin = true then u
        else if (u.coin.escrow.isEmpty && !inFlight u.coin.lane) = true then closePurse u
        else setHold (holdCauseOf (settleDemand u) u) (setDemand (settleDemand u) u)) = unmoneyed u := by
      split
      · rfl
      · split
        · exact close u
        · exact hold _ (setDemand (settleDemand u) u)
    unfold judgeDemand
    split
    · rfl
    · split <;> rfl
    · exact settling
    · exact settling
  have hook : ∀ u : State, unmoneyed (settleOnHook u) = unmoneyed u := by
    intro u
    unfold settleOnHook beginSettlement
    split
    · split <;> rfl
    · rfl
  have lane : ∀ u : State, unmoneyed (startLane u) = unmoneyed u := by
    intro u
    unfold startLane
    split
    · split
      · rfl
      · split
        · rfl
        · split
          · split <;> rfl
          · rfl
          · rfl
    · rfl
  unfold judgeMoney
  split
  · rw [lane, demand, hook]
  · rfl

theorem cal_of_unmoneyed (h : unmoneyed t = unmoneyed s) : t.cal = s.cal :=
  show (unmoneyed t).cal = (unmoneyed s).cal from congrArg State.cal h
theorem tariff_of_unmoneyed (h : unmoneyed t = unmoneyed s) : t.tariff = s.tariff :=
  show (unmoneyed t).tariff = (unmoneyed s).tariff from congrArg State.tariff h

/-! ### The report claim and the digit sender leave the other blocks -/

/-- The blocks beside the call, the line and the report that the last two judgments never touch. -/
def offLine (s : State) :=
  (s.cal, s.tariff, s.tally, s.coin, s.meter, s.gate, { s.tamper with lossTimer := none })

theorem askSeize_offLine (s : State) : offLine (askSeize s) = offLine s := by
  unfold askSeize closeSeize
  split
  · dsimp only
    split <;> rfl
  · rfl

theorem judgeReport_offLine (s : State) : offLine (judgeReport s) = offLine s := by
  have grant : ∀ u : State, offLine (grantReport u) = offLine u := by
    intro u
    unfold grantReport
    split
    · rfl
    · exact askSeize_offLine _
  unfold judgeReport
  dsimp only
  split
  · rfl
  · split
    · exact grant _
    · rfl

theorem startDigit_offLine (p : Bool) (d : Nat) (s : State) :
    offLine (startDigit p d s) = offLine s := by
  unfold startDigit
  split
  · rfl
  · split <;> rfl

theorem judgeGate_offLine (s : State) : offLine (judgeGate s) = offLine s := by
  unfold judgeGate
  split
  · rfl
  · split <;> rfl

theorem offerDigit_offLine (s : State) : offLine (offerDigit s) = offLine s := by
  unfold offerDigit
  split
  · split
    · exact startDigit_offLine _ _ _
    · split
      · exact startDigit_offLine _ _ _
      · rfl
  · rfl

theorem judgeRingback_offLine (s : State) : offLine (judgeRingback s) = offLine s := by
  unfold judgeRingback
  split
  · split <;> rfl
  · rfl

theorem judgeInterDigit_offLine (s : State) : offLine (judgeInterDigit s) = offLine s := by
  unfold judgeInterDigit
  split
  · split <;> rfl
  · rfl

theorem offerReport_offLine (s : State) : offLine (offerReport s) = offLine s := by
  unfold offerReport
  split
  · split
    · split
      · exact startDigit_offLine _ _ _
      · rfl
    · split
      · exact startDigit_offLine _ _ _
      · rfl
    all_goals rfl
  · rfl

theorem judgeSender_offLine (s : State) : offLine (judgeSender s) = offLine s := by
  rw [judgeSender, offerReport_offLine, judgeInterDigit_offLine, judgeRingback_offLine,
    offerDigit_offLine, judgeGate_offLine]

theorem settle_offLine (h : s.sys.part = .running) : offLine (settle s) = offLine (atReport s) := by
  rw [settle_eq h, judgeSender_offLine, judgeReport_offLine]

theorem settle_meter (h : s.sys.part = .running) : (settle s).meter = (judgeMoney s).meter :=
  (congrArg (fun x => x.2.2.2.2.1) (settle_offLine h)).trans (atReport_meter s)
theorem settle_coin (h : s.sys.part = .running) : (settle s).coin = (judgeMoney s).coin :=
  (congrArg (fun x => x.2.2.2.1) (settle_offLine h)).trans (atReport_coin s)

/-- With no swap pending the judgments leave the Calendar. -/
theorem settle_cal (h : s.sys.part = .running) (hn : noSwap s) : (settle s).cal = s.cal := by
  have hm := judgeMoney_unmoneyed s
  have hn' : noSwap (judgeMoney s) := by rwa [noSwap, tariff_of_unmoneyed hm]
  have mode : ∀ u : State, (judgeMode u).cal = u.cal := by
    intro u
    unfold judgeMode
    dsimp only
    split
    · rfl
    · rw [cal_of_unposted (raise_unposted _ _ _ _)]; rfl
  have hcal : (atReport s).cal = s.cal := by
    rw [atReport, judgeActivationClock_noSwap hn', mode, cal_of_unmoneyed hm]
  exact (congrArg (fun x => x.1) (settle_offLine h)).trans hcal

end
end Sys2Proof.Proofs

/-! The runs a rewrite appends, and answers given behind other posts (R12, R14, R23); the clock orders (R43 to R45). -/
namespace Sys2Proof.Proofs
open Sys2Proof.Machine Sys2Proof.Safety Sys2Proof.Laws

section
variable {s t u : State} {i : ImageId}

theorem profile_of_unposted (h : unposted t = unposted s) : t.gate.profile = s.gate.profile :=
  show (unposted t).gate.profile = (unposted s).gate.profile from congrArg (·.gate.profile) h

theorem answering_unposted (h : unposted t = unposted s) :
    unposted (answering t) = unposted (answering s) :=
  show unposted (answering (unposted t)) = unposted (answering (unposted s)) from
    congrArg (fun u => unposted (answering u)) h

/-! ### How many runs a rewrite has left (R14) -/

/-- From the image state `x` a rewrite is wholly in the queue within `k` runs, no field changing. -/
def doneWithin (i : ImageId) (s : State) : Nat → Image → Prop
  | 0, x => x.pos = none
  | k + 1, x => ∀ st, x.pos = some st → doneWithin i s k (afterRun i x st s)

theorem afterRun_congr (h : imageFields i t = imageFields i s) (x : Image) (st : RewriteStep) :
    afterRun i x st t = afterRun i x st s := by
  cases st <;> simp only [afterRun, h]

theorem doneWithin_congr (h : imageFields i t = imageFields i s) (k : Nat) :
    ∀ x, doneWithin i s k x → doneWithin i t k x := by
  induction k with
  | zero => exact fun _ hx => hx
  | succ k ih =>
    intro x hx st hst
    rw [afterRun_congr h]
    exact ih _ (hx st hst)

theorem imageFields_setImage (i : ImageId) (x : Image) (s : State) :
    imageFields i (setImage i x s) = imageFields i s := by cases i <;> rfl

theorem imageFields_append (i : ImageId) (e : PostEntry) (s : State) :
    imageFields i (append e s) = imageFields i s := by cases i <;> rfl

theorem afterRun_owed (x : Image) (st : RewriteStep) (s : State) :
    (afterRun i x st s).owed = x.owed := by cases st <;> rfl

theorem startOwed_of_not_owed (h : (getImage i s).owed = false) : startOwed i s = s := by
  unfold startOwed
  exact if_neg fun ⟨_, ho, _⟩ => by simp [h] at ho

/-- A run is appended, where none is owed behind it. -/
theorem appendRun_eq {p : Profile} {st : RewriteStep} (hp : s.gate.profile = some p)
    (hst : (getImage i s).pos = some st) (ho : (getImage i s).owed = false) :
    appendRun i s = setImage i (afterRun i (getImage i s) st s)
      (append (imageRun i p (getImage i s) st s) s) := by
  unfold appendRun
  dsimp only
  rw [hp, hst]
  exact startOwed_of_not_owed (by rw [getImage_setImage, afterRun_owed, ho])

/-- With nobody waiting and room for the runs left, a rewrite is appended whole: nobody waits behind it. -/
theorem pumpImage_room {p : Profile} (n k : Nat) (hp : s.gate.profile = some p)
    (hw : s.gate.waiters = []) (ho : (getImage i s).owed = false)
    (hk : doneWithin i s k (getImage i s)) (hq : s.gate.queue.length + k ≤ 16) :
    (pumpImage i n s).gate.waiters = []
      ∧ (pumpImage i n s).gate.queue.length ≤ s.gate.queue.length + k := by
  induction n generalizing s k with
  | zero => exact ⟨hw, Nat.le_add_right _ _⟩
  | succ n ih =>
    unfold pumpImage
    split
    · exact ⟨hw, Nat.le_add_right _ _⟩
    · next hpos =>
      obtain ⟨st, hst⟩ := Option.ne_none_iff_exists'.mp hpos
      cases k with
      | zero => exact absurd hk hpos
      | succ k =>
        have free : placeFree s = true := by
          have : s.gate.queue.length < 16 := by omega
          simp [placeFree, hw, postPlaces, this]
        rw [if_pos free, appendRun_eq hp hst ho]
        have grown : (append (imageRun i p (getImage i s) st s) s).gate.queue.length
            = s.gate.queue.length + 1 := by simp [append]
        have step := ih (s := setImage i (afterRun i (getImage i s) st s)
            (append (imageRun i p (getImage i s) st s) s)) k (by rw [setImage_gate]; exact hp)
          (by rw [setImage_gate]; exact hw) (by rw [getImage_setImage, afterRun_owed, ho])
          (by
            rw [getImage_setImage]
            exact doneWithin_congr (by rw [imageFields_setImage, imageFields_append]) k _ (hk st hst))
          (by rw [setImage_gate, grown]; omega)
        rw [setImage_gate, grown] at step
        exact ⟨step.1, by omega⟩

/-- A cause of a rewrite that needs at most `k` runs leaves nobody waiting where there is room. -/
theorem giveRewrite_room {p : Profile} (k : Nat) (hp : s.gate.profile = some p)
    (hw : s.gate.waiters = [])
    (hk : doneWithin i s k { getImage i s with pos := some .lead, owed := false })
    (hq : s.gate.queue.length + k ≤ 16) :
    (giveRewrite i s).gate.waiters = []
      ∧ (giveRewrite i s).gate.queue.length ≤ s.gate.queue.length + k := by
  have still : ∀ x : Image, (setImage i x s).gate.waiters = []
      ∧ (setImage i x s).gate.queue.length ≤ s.gate.queue.length + k := fun x => by
    rw [setImage_gate]; exact ⟨hw, Nat.le_add_right _ _⟩
  unfold giveRewrite goOnImage
  dsimp only
  split
  · split
    · next hpos =>
      unfold startOwed
      dsimp only
      rw [getImage_setImage]
      split
      · rw [setImage_setImage]
        have pumped := pumpImage_room 20 k
          (s := setImage i { getImage i s with pos := some .lead, owed := false } s)
          (by rw [setImage_gate]; exact hp) (by rw [setImage_gate]; exact hw)
          (by rw [getImage_setImage])
          (by rw [getImage_setImage]; exact doneWithin_congr (imageFields_setImage i _ s) k _ hk)
          (by rw [setImage_gate]; exact hq)
        rw [setImage_gate] at pumped
        exact pumped
      · unfold pumpImage
        rw [if_pos (by rw [getImage_setImage]; exact hpos)]
        exact still _
    · exact ⟨hw, Nat.le_add_right _ _⟩
    · exact ⟨hw, Nat.le_add_right _ _⟩
    · exact still _
    · exact still _
  · exact ⟨hw, Nat.le_add_right _ _⟩

/-- The Clock Image's fields are one run (R46), so a rewrite of it has four. -/
theorem doneWithin_clock (x : Image) (s : State) :
    doneWithin .clock s 4 { x with pos := some .lead } := by
  have length : (clockFields s).length = 14 := rfl
  have shown : ∀ y : List Byte, (changedRun .clock
      (showSpan y (clockFields s) (fieldsRun .clock y (clockFields s)))
      (clockFields s)).isNone = true := by
    intro y
    have run : fieldsRun .clock y (clockFields s) = (0, 14) := by
      simp only [fieldsRun, changedRun, fieldLens, spansFrom, firstRun, runLength]
      split <;> rfl
    have same : spanOf (showSpan y (clockFields s) (0, 14)) (0, 14) = spanOf (clockFields s) (0, 14) := by
      simp [spanOf, showSpan, length]
    rw [run]
    simp only [changedRun, fieldLens, spansFrom, firstRun, same, bne_self_eq_false, Bool.false_eq_true,
      if_false, Option.isNone_none]
  rintro st ⟨⟩ st ⟨⟩ st hst
  have htrail : st = .trail := by
    simp only [afterRun, imageFields, shown x.shown, if_true] at hst
    exact (Option.some.inj hst).symm
  subst htrail
  rintro st ⟨⟩
  rfl

/-! ### An answer behind other posts (R12, R23) -/

/-- An answer given while there is room stands behind what was appended before it. -/
theorem finish_answer_behind {p : Profile} (hs : s.gate.profile = some p) (hg : grows s u)
    (hp : u.gate.profile = some p) (hw : u.gate.waiters = []) (hq : u.gate.queue.length ≤ 15)
    (k : Nat) (n : Fin 16) (o : OrderOutcome) (detail : Nat) :
    steady (finish k (answer n o detail u)) = steady (answering u)
      ∧ answered n (orderOutcomeCode o) detail s (finish k (answer n o detail u)) := by
  obtain ⟨l, hl⟩ := hg
  have given : (answer n o detail u).gate.queue
      = u.gate.queue ++ [outcomeRun p n (orderOutcomeCode o) detail] := by
    have hplace : (answering u).gate.queue.length + [outcomeEntry p n o detail].length ≤ 16 :=
      Nat.succ_le_succ hq
    have eq : answer n o detail u = offer .orderUnit [outcomeEntry p n o detail] (answering u) := by
      have hp' : (answering u).gate.profile = some p := hp
      simp only [answer, giveOutcome, hp]
      rfl
    rw [eq, offer_room _ _ (answering u) hw hplace, outcomeEntry_eq_outcomeRun]
    rfl
  refine ⟨(finish_steady _ _).trans (steady_of_unposted (answer_unposted n o detail u)), p, hs, ?_⟩
  obtain ⟨l', hl'⟩ := finish_grows k (answer n o detail u)
  rw [given, ← hl] at hl'
  refine ⟨⟨l ++ ([outcomeRun p n (orderOutcomeCode o) detail] ++ l'), by rw [← hl']; simp⟩, ?_⟩
  rw [← hl', List.append_assoc, List.append_assoc, List.drop_left]
  simp

/-- An event leaves at most two runs and nobody waiting, where there is room. -/
theorem writeEvent_fits (e : Event) (hw : s.gate.waiters = []) (hq : s.gate.queue.length ≤ 14) :
    (writeEvent e s).gate.waiters = []
      ∧ (writeEvent e s).gate.queue.length ≤ s.gate.queue.length + 2 := by
  have offered : ∀ (u : State) (es : List PostEntry), u.gate = s.gate → es.length ≤ 2 →
      (offer .record es u).gate.waiters = []
        ∧ (offer .record es u).gate.queue.length ≤ s.gate.queue.length + 2 := by
    intro u es hu hes
    rw [offer_room _ _ _ (by rw [hu]; exact hw) (by rw [hu]; omega)]
    refine ⟨by rw [hu]; exact hw, ?_⟩
    rw [hu, List.length_append]
    omega
  unfold writeEvent
  split
  · exact ⟨hw, Nat.le_add_right _ _⟩
  · dsimp only
    split
    · exact offered _ _ rfl (by simp)
    · split
      · exact offered _ _ rfl (by simp)
      · exact ⟨hw, Nat.le_add_right _ _⟩

/-! ### SET CLOCK and ADJUST CLOCK (R43 to R45) -/

/-- Behind a clock order's event and the Clock Image's rewrite there is room for the answer, and the rest
is as the order left it but for the band. -/
theorem clockChanged_fits {p : Profile} (hp : s.gate.profile = some p) (hw : s.gate.waiters = [])
    (hq : s.gate.queue.length ≤ 8) (kind : Byte) (old : FullTime) :
    unposted (clockChanged kind old s) = unposted (reselectBand s)
      ∧ grows s (clockChanged kind old s) ∧ (clockChanged kind old s).gate.waiters = []
      ∧ (clockChanged kind old s).gate.queue.length ≤ 15 := by
  have hev := writeEvent_unposted ⟨.calendar, 22, now s, kind :: fullBytes old⟩ (reselectBand s)
  obtain ⟨ww, wq⟩ := writeEvent_fits (s := reselectBand s)
    ⟨.calendar, 22, now s, kind :: fullBytes old⟩ hw (Nat.le_trans hq (by omega))
  have grown := writeEvent_grows ⟨.calendar, 22, now s, kind :: fullBytes old⟩ (reselectBand s)
  unfold clockChanged
  generalize writeEvent ⟨.calendar, 22, now s, kind :: fullBytes old⟩ (reselectBand s) = u at hev ww wq grown ⊢
  have wq' : u.gate.queue.length ≤ 10 := Nat.le_trans wq (Nat.add_le_add_right hq 2)
  have hpu : u.gate.profile = some p := (profile_of_unposted hev).trans hp
  obtain ⟨rw_, rq⟩ := giveRewrite_room (i := .clock) 4 hpu ww
    (doneWithin_clock { getImage .clock u with owed := false } u) (by omega)
  exact ⟨(giveRewrite_unposted .clock u).trans hev,
    grows_trans (grows_from grown rfl) (giveRewrite_grows .clock u), rw_, by omega⟩

/-- A clock order accepted: the Calendar as set, and the answer. -/
theorem clockOrder_leads {c : Instr} {code : Nat} {owner : Fin 16 → List Byte → State → State}
    {n : Fin 16} {d : List Byte} {cal : Calendar} {kind : Byte}
    (he : exec c s = .next (carryOut code always owner s)) (h : orderAt code n d s)
    (hp : s.gate.profile ≠ none) (hr : roomy s)
    (ho : owner n d s = answer n .done 0 (clockChanged kind s.cal.time { s with cal := cal })) :
    leadsWith c s { answering s with cal := cal } (fun t =>
      (s.tariff.swap = .idle → t.cal.band = chooseBand s.tariff.active cal) ∧ answered n 1 0 s t) := by
  obtain ⟨p, hprof⟩ := Option.ne_none_iff_exists'.mp hp
  obtain ⟨hu, hg, hw, hq⟩ := clockChanged_fits (s := { s with cal := cal }) hprof hr.1 hr.2 kind s.cal.time
  refine leadsWith_owner he h rfl ho fun k => ?_
  have hpc := (profile_of_unposted hu).trans hprof
  generalize clockChanged kind s.cal.time { s with cal := cal } = u at hu hg hw hq hpc ⊢
  obtain ⟨hsteady, hanswered⟩ := finish_answer_behind hprof (grows_from hg rfl) hpc hw hq k n .done 0
  have hrest : unposted (answer n .done 0 u) = unposted (answering (reselectBand { s with cal := cal })) :=
    (answer_unposted n .done 0 u).trans (answering_unposted hu)
  refine ⟨(hsteady.trans (steady_of_unposted (answering_unposted hu))).trans rfl, fun hs => ?_, hanswered⟩
  have hrun : (answer n .done 0 u).sys.part = .running :=
    (congrArg Sys.part (sys_of_unposted hrest)).trans h.1
  have hswap : (answer n .done 0 u).tariff.swap = .idle :=
    (congrArg Tariff.swap (tariff_of_unposted hrest)).trans hs
  rw [finish_cal, settle_cal hrun (noSwap_of_idle hswap)]
  exact congrArg Calendar.band (cal_of_unposted hrest)

end

/-- Settles O32: a fault changes nothing; otherwise the counters are set, or carried by the branches of
R38. -/
theorem clockOrdersSetTheTime : Obligations.ClockOrdersSetTheTime := by
  refine ⟨fun s n d h hp hr => ⟨fun i hi => ?_, fun hi c hc => ?_⟩, fun s n d h hp hr => ?_⟩
  · have ho : setOrder n d s = answer n .badParameter (2 + i) s := by simp only [setOrder, hi]
    exact leadsWith_owner rfl h rfl ho fun k => finish_answer rfl hp hr k n _ _
  · subst hc
    exact clockOrder_leads rfl h hp hr (kind := 1) (by simp only [setOrder, hi]; rfl)
  · have adjusted : ∀ cal, s.cal.time.second ≠ 0 → adjustTime s.cal = cal →
        leadsWith .adjustClock s { answering s with cal := cal } (answered n 1 0 s) := by
      rintro cal h0 rfl
      obtain ⟨t, he, hs, -, ha⟩ := clockOrder_leads (c := .adjustClock) (owner := adjustOrder)
        (kind := 2) (cal := adjustTime s.cal) rfl h hp hr (if_neg h0)
      exact ⟨t, he, hs, ha⟩
    refine ⟨fun h0 => ?_, fun h1 h30 => adjusted _ (by omega) ?_, fun h30 hm => adjusted _ (by omega) ?_,
      fun h30 hm hh => adjusted _ (by omega) ?_, fun h30 hm hh hd => adjusted _ (by omega) ?_,
      fun h30 hm hh hd hmo => adjusted _ (by omega) ?_,
      fun h30 hm hh hd hmo => ⟨fun hy => adjusted _ (by omega) ?_, fun hy => adjusted _ (by omega) ?_⟩⟩
    · exact leadsWith_owner rfl h rfl (if_pos h0) fun k => finish_answer rfl hp hr k n .unchanged 0
    · simp [adjustTime, h30]
    · simp [adjustTime, Nat.not_lt.mpr h30, carryMinute, hm]
    · simp [adjustTime, Nat.not_lt.mpr h30, carryMinute, hm, hh]
    · simp [adjustTime, Nat.not_lt.mpr h30, carryMinute, hm, hh, nextDay, hd]
    · simp [adjustTime, Nat.not_lt.mpr h30, carryMinute, hm, hh, nextDay, hd, hmo]
    · simp [adjustTime, Nat.not_lt.mpr h30, carryMinute, hm, hh, nextDay, hd, hmo, hy, monthLength]
    · simp [adjustTime, Nat.not_lt.mpr h30, carryMinute, hm, hh, nextDay, hd, hmo, hy, monthLength]
      rfl

end Sys2Proof.Proofs

/-! SWAP TARIFF (R52, R53). -/
namespace Sys2Proof.Proofs
open Sys2Proof.Machine Sys2Proof.Safety Sys2Proof.Laws

section
variable {s t u : State}

theorem tariff_of_offLine (h : offLine t = offLine s) : t.tariff = s.tariff := congrArg (fun x => x.2.1) h
theorem gate_of_offLine (h : offLine t = offLine s) : t.gate = s.gate :=
  congrArg (fun x => x.2.2.2.2.2.1) h

theorem judgeMode_tariff (s : State) : (judgeMode s).tariff = s.tariff := by
  unfold judgeMode
  dsimp only
  split
  · rfl
  · rw [tariff_of_unposted (raise_unposted _ _ _ _)]; rfl

/-- With no swap pending the judgments leave the Tariff Unit and the gate's states. -/
theorem settle_tariff (h : s.sys.part = .running) (hn : noSwap s) :
    (settle s).tariff = s.tariff ∧ (settle s).gate = s.gate := by
  have hm := tariff_of_unmoneyed (judgeMoney_unmoneyed s)
  have hn' : noSwap (judgeMoney s) := by rwa [noSwap, hm]
  have hr : atReport s = judgeMode (judgeMoney s) := by rw [atReport, judgeActivationClock_noSwap hn']
  have off := settle_offLine h
  rw [hr] at off
  exact ⟨by rw [tariff_of_offLine off, judgeMode_tariff, hm],
    by rw [gate_of_offLine off, judgeMode_queue, judgeMoney_queue]⟩

/-- With a place free the first of what a producer gives is appended at once. -/
theorem offer_first (p : Producer) (e : PostEntry) (es : List PostEntry) (h : placeFree s = true) :
    s.gate.queue ++ [e] <+: (offer p (e :: es) s).gate.queue := by
  have eq : offer p (e :: es) s = offer p es (append e s) := by
    simp only [offer, List.map_cons, offerItems, h, if_true]
  rw [eq]
  exact offer_grows p es (append e s)

theorem posted_of_prefix {e : PostEntry} (h : s.gate.queue ++ [e] <+: t.gate.queue) : posted e s t := by
  obtain ⟨l, hl⟩ := h
  refine ⟨⟨e :: l, by rw [← hl]; simp⟩, ?_⟩
  rw [← hl, List.append_assoc, List.drop_left]
  simp

theorem placeFree_of_roomy (h : roomy s) : placeFree s = true := by
  obtain ⟨hw, hq⟩ := h
  have : s.gate.queue.length < 16 := by omega
  simp [placeFree, hw, postPlaces, this]

/-! ### The checks of R52 -/

theorem loadingNow_eq_false (h : ∀ x e o, s.tariff.swap ≠ .loading x e o) : loadingNow s = false := by
  unfold loadingNow
  split
  · next x e o hs => exact absurd hs (h x e o)
  · rfl
  · rfl

theorem activeBank_ne {bank : Bank} (h : ∀ tab, s.tariff.active ≠ some (bank, tab)) :
    activeBank s ≠ some bank := by
  intro ha
  obtain ⟨⟨x, tab⟩, hs, rfl⟩ := Option.map_eq_some_iff.mp ha
  exact h tab hs

theorem swapOrder_fault {n : Fin 16} {d : List Byte} {o : OrderOutcome} {detail : Nat}
    (h : swapFault d s = some (o, detail)) : swapOrder n d s = answer n o detail s := by
  simp only [swapOrder, h]

theorem swapOrder_accept {n : Fin 16} {d : List Byte} {bank : Bank} (h : swapFault d s = none)
    (hb : bankOf (natAt d 2) = some bank) :
    swapOrder n d s = acceptSwap bank (swapTime d) ⟨n, byteAt d 1⟩ s := by
  simp only [swapOrder, h, hb]

/-! ### The acceptance of R53 -/

/-- The state of an accepted SWAP TARIFF, its load's runs not yet given (R53). -/
def swapAccepted (bank : Bank) (eff : Option FullTime) (o : Deferred) (s : State) : State :=
  acceptDeferred { setBankGuard bank true (withdrawPending bank s) with
    tariff := { (setBankGuard bank true (withdrawPending bank s)).tariff with
      swap := .loading bank eff o, buf := [] } }

theorem setBankGuard_queue (bank : Bank) (on : Bool) (s : State) :
    (setBankGuard bank on s).gate.queue = s.gate.queue
      ∧ (setBankGuard bank on s).gate.waiters = s.gate.waiters := by cases bank <;> exact ⟨rfl, rfl⟩

theorem withdrawPending_rest (bank : Bank) (s : State) :
    steady (withdrawPending bank s) = steady s ∧ (withdrawPending bank s).tariff = s.tariff
      ∧ (withdrawPending bank s).gate.queue = s.gate.queue
      ∧ (withdrawPending bank s).gate.waiters = s.gate.waiters := by
  unfold withdrawPending
  split
  · next other _ _ _ =>
    split
    · exact ⟨rfl, rfl, rfl, rfl⟩
    · cases other <;> exact ⟨rfl, rfl, rfl, rfl⟩
  · exact ⟨rfl, rfl, rfl, rfl⟩
  · exact ⟨rfl, rfl, rfl, rfl⟩

/-- The guards once the bank of an accepted SWAP TARIFF is guarded and another pending one let go. -/
theorem swapAccepted_guards (bank : Bank) (eff : Option FullTime) (o : Deferred) (s : State) :
    (swapAccepted bank eff o s).gate.guardA = (bank == .a || (s.gate.guardA &&
        match s.tariff.swap with
        | .pending .a _ _ => false
        | _ => true))
      ∧ (swapAccepted bank eff o s).gate.guardB = (bank == .b || (s.gate.guardB &&
        match s.tariff.swap with
        | .pending .b _ _ => false
        | _ => true)) := by
  unfold swapAccepted withdrawPending
  cases hs : s.tariff.swap with
  | idle => cases bank <;> simp [acceptDeferred, setBankGuard]
  | loading x e o => cases bank <;> simp [acceptDeferred, setBankGuard]
  | pending other e tb => cases bank <;> cases other <;> simp [acceptDeferred, setBankGuard]

theorem setBankGuard_tariff (bank : Bank) (on : Bool) (s : State) :
    (setBankGuard bank on s).tariff = s.tariff := by cases bank <;> rfl

theorem acceptSwap_eq {p : Profile} (hp : s.gate.profile = some p) (bank : Bank)
    (eff : Option FullTime) (o : Deferred) : acceptSwap bank eff o s
      = offer .tariffUnit (bankRuns p bank) (swapAccepted bank eff o s) := by
  simp only [acceptSwap, hp, swapAccepted]

theorem swapAccepted_steady (bank : Bank) (eff : Option FullTime) (o : Deferred) (s : State) :
    steady (swapAccepted bank eff o s) = steady { s with
      orders := { s.orders with busy := none, data := none },
      tariff := { s.tariff with buf := [] } } := by
  have h : steady (setBankGuard bank true (withdrawPending bank s)) = steady s :=
    (setBankGuard_steady bank true _).trans (withdrawPending_rest bank s).1
  exact congrArg (fun x : State => { x with
    orders := { x.orders with busy := none, data := none },
    tariff := { x.tariff with buf := [] } }) h

theorem swapAccepted_rest (bank : Bank) (eff : Option FullTime) (o : Deferred) (s : State) :
    (swapAccepted bank eff o s).tariff.active = s.tariff.active
      ∧ (swapAccepted bank eff o s).gate.queue = s.gate.queue
      ∧ (swapAccepted bank eff o s).gate.waiters = s.gate.waiters := by
  obtain ⟨-, ht, hq, hw⟩ := withdrawPending_rest bank s
  obtain ⟨gq, gw⟩ := setBankGuard_queue bank true (withdrawPending bank s)
  have active : (setBankGuard bank true (withdrawPending bank s)).tariff.active = s.tariff.active :=
    congrArg Tariff.active ((setBankGuard_tariff bank true _).trans ht)
  exact ⟨active, gq.trans hq, gw.trans hw⟩

/-- The first run of a bank's load. -/
theorem bankRuns_first (p : Profile) (bank : Bank) : bankRuns p bank =
    .read (bankBase p bank) 64 (.bank false)
      :: readRuns .bank (bankBase p bank + 64) (List.replicate 31 64) := rfl

end

/-- Settles O33: the checks in their order, and the acceptance as one change, after which no swap is
pending. -/
theorem swapTariffLoadsTheBank : Obligations.SwapTariffLoadsTheBank := by
  intro s p n d h hp hr
  have hp' : s.gate.profile ≠ none := by simp [hp]
  have refused : ∀ (o : OrderOutcome) (detail : Nat), swapFault d s = some (o, detail) →
      leadsWith .swapTariff s (answering s) (answered n (orderOutcomeCode o) detail s) :=
    fun o detail hf => leadsWith_owner rfl h rfl (swapOrder_fault hf) fun k =>
      finish_answer rfl hp' hr k n o detail
  refine ⟨fun h1 h2 => refused .badParameter 2 ?_, fun bank hb => ⟨fun x e o hs => refused .busy 0 ?_,
    fun hl => ⟨fun tab ha => refused .badParameter 2 ?_, fun ha => ⟨fun i hz hi =>
      refused .badParameter (3 + i) ?_, fun hok => ?_⟩⟩⟩⟩
  · have hb : bankOf (natAt d 2) = none := by
      unfold bankOf
      split
      · next h => exact absurd h h1
      · next h => exact absurd h h2
      · rfl
    simp only [swapFault, hb]
  · simp [swapFault, hb, loadingNow, hs]
  · simp [swapFault, hb, loadingNow_eq_false hl, activeBank, ha]
  · have ht : swapTime d = some (readFull d 3) := by
      simp only [swapTime]
      exact if_neg hz
    simp [swapFault, hb, loadingNow_eq_false hl, activeBank_ne ha, ht, hi]
  · have time : swapTime d
        = if readFull d 3 = ⟨0, 0, 0, 0, 0, 0⟩ then none else some (readFull d 3) := rfl
    have fit : swapFault d s = none := by
      simp only [swapFault, hb, loadingNow_eq_false hl, activeBank_ne ha, time, Bool.false_eq_true,
        if_false]
      by_cases hz : readFull d 3 = ⟨0, 0, 0, 0, 0, 0⟩
      · simp [hz]
      · simp [hz, hok.resolve_left hz]
    have body : swapOrder n d s = offer .tariffUnit (bankRuns p bank)
        (swapAccepted bank (swapTime d) ⟨n, byteAt d 1⟩ s) :=
      (swapOrder_accept fit hb).trans (acceptSwap_eq hp bank (swapTime d) ⟨n, byteAt d 1⟩)
    refine leadsWith_owner rfl h rfl body fun k => ?_
    have hu := offer_unposted .tariffUnit (bankRuns p bank)
      (swapAccepted bank (swapTime d) ⟨n, byteAt d 1⟩ s)
    obtain ⟨hactive, hqueue, hwait⟩ := swapAccepted_rest bank (swapTime d) ⟨n, byteAt d 1⟩ s
    have hfirst : s.gate.queue ++ [.read (bankBase p bank) 64 (.bank false)] <+:
        (offer .tariffUnit (bankRuns p bank)
          (swapAccepted bank (swapTime d) ⟨n, byteAt d 1⟩ s)).gate.queue := by
      rw [bankRuns_first, ← hqueue]
      exact offer_first _ _ _ (placeFree_of_roomy ⟨hwait.trans hr.1, by rw [hqueue]; exact hr.2⟩)
    have hsteady := swapAccepted_steady bank (swapTime d) ⟨n, byteAt d 1⟩ s
    obtain ⟨ga, gb⟩ := swapAccepted_guards bank (swapTime d) ⟨n, byteAt d 1⟩ s
    have hswap : (swapAccepted bank (swapTime d) ⟨n, byteAt d 1⟩ s).tariff.swap
        = .loading bank (swapTime d) ⟨n, byteAt d 1⟩ := rfl
    generalize swapAccepted bank (swapTime d) ⟨n, byteAt d 1⟩ s = a 
      at hu hfirst hsteady ga gb hactive hqueue hwait hswap ⊢
    generalize offer .tariffUnit (bankRuns p bank) a = u at hu hfirst ⊢
    have htariff := tariff_of_unposted hu
    have hrun : u.sys.part = .running :=
      (congrArg Sys.part ((sys_of_unposted hu).trans (sys_of_steady hsteady))).trans h.1
    have hn : noSwap u := by
      intro x e tb
      rw [htariff, hswap]
      exact fun h => nomatch h
    obtain ⟨st, sg⟩ := settle_tariff hrun hn
    refine ⟨(finish_steady k u).trans ((steady_of_unposted hu).trans hsteady), ?_, ?_, ?_, ?_, ?_⟩
    · rw [finish_tariff, st, htariff, hswap, time]
      rfl
    · rw [finish_tariff, st, htariff, hactive]
    · rw [finish_guardA, sg, guardA_of_unposted hu]
      exact ga
    · rw [finish_guardB, sg, guardB_of_unposted hu]
      exact gb
    · exact posted_of_prefix (hfirst.trans (finish_grows k u))

end Sys2Proof.Proofs

/-! Answers given in their turn: who waits for a place in the Post Queue goes on waiting through a step's end
(R12, R23). -/
namespace Sys2Proof.Proofs
open Sys2Proof.Machine Sys2Proof.Safety Sys2Proof.Laws

section
variable {s t u : State} {who : Producer} {x : Offer}

/-! ### A producer that waits goes on waiting -/

/-- The producer waits for a place with `x` among what it has to give. -/
def waitsWith (who : Producer) (x : Offer) (s : State) : Prop :=
  ∃ w ∈ s.gate.waiters, w.who = who ∧ x ∈ w.items

theorem waits_same (h : t.gate.waiters = s.gate.waiters) (hs : waitsWith who x s) :
    waitsWith who x t := by rwa [waitsWith, h]

theorem joinLine_waits (p : Producer) (l : List Offer) (h : waitsWith who x s) :
    waitsWith who x (joinLine p l s) := by
  obtain ⟨w, hw, hwho, hx⟩ := h
  unfold joinLine
  split
  · refine ⟨if w.who == p then { w with items := w.items ++ l } else w, List.mem_map_of_mem hw, ?_⟩
    split
    · exact ⟨hwho, List.mem_append_left l hx⟩
    · exact ⟨hwho, hx⟩
  · exact ⟨w, List.mem_append_left _ hw, hwho, hx⟩

theorem startOwed_waits (i : ImageId) (h : waitsWith who x s) : waitsWith who x (startOwed i s) :=
  waits_same (by rw [startOwed_gate]) h

theorem appendRun_waits (i : ImageId) (h : waitsWith who x s) : waitsWith who x (appendRun i s) := by
  unfold appendRun
  dsimp only
  split
  · exact startOwed_waits i (waits_same (by rw [setImage_gate]; rfl) h)
  · exact waits_same (by rw [setImage_gate]) h

theorem pumpImage_waits (i : ImageId) (n : Nat) (h : waitsWith who x s) :
    waitsWith who x (pumpImage i n s) := by
  induction n generalizing s with
  | zero => exact h
  | succ n ih =>
    unfold pumpImage
    split
    · exact h
    · split
      · exact ih (appendRun_waits i h)
      · exact joinLine_waits _ _ h

theorem giveRewrite_waits (i : ImageId) (h : waitsWith who x s) : waitsWith who x (giveRewrite i s) := by
  have noted : ∀ y : Image, waitsWith who x (setImage i y s) := fun y =>
    waits_same (by rw [setImage_gate]) h
  unfold giveRewrite goOnImage
  dsimp only
  split
  · split
    · exact pumpImage_waits i 20 (startOwed_waits i (noted _))
    · exact h
    · exact h
    · exact noted _
    · exact noted _
  · exact h

theorem raise_waits (b : Block) (code : Nat) (d : List Byte) (h : waitsWith who x s) :
    waitsWith who x (raise b code d s) := by
  unfold raise
  split <;> exact h

theorem offerItems_waits (p : Producer) (l : List Offer) (h : waitsWith who x s) :
    waitsWith who x (offerItems p l s) := by
  induction l generalizing s with
  | nil => exact h
  | cons o l ih =>
    cases o with
    | entry e =>
      unfold offerItems
      split
      · exact ih h
      · exact joinLine_waits _ _ h
    | imageRun i => exact ih (pumpImage_waits i 20 h)
    | finished d => exact ih (raise_waits _ _ _ h)

theorem offer_waits (p : Producer) (es : List PostEntry) (h : waitsWith who x s) :
    waitsWith who x (offer p es s) := offerItems_waits p _ h

theorem writeEvent_waits (e : Event) (h : waitsWith who x s) : waitsWith who x (writeEvent e s) := by
  unfold writeEvent
  split
  · exact h
  · dsimp only
    split
    · exact offer_waits _ _ h
    · split
      · exact offer_waits _ _ h
      · exact h

theorem flushEvents_waits (h : waitsWith who x s) : waitsWith who x (flushEvents s) := by
  have written : ∀ (l : List Event) (u : State), waitsWith who x u →
      waitsWith who x (l.foldl (fun s e => writeEvent e s) u) := by
    intro l
    induction l with
    | nil => exact fun _ hu => hu
    | cons e l ih => exact fun u hu => ih _ (writeEvent_waits e hu)
  unfold flushEvents
  split
  · exact written _ _ h
  · exact h

theorem postImages_waits (h : waitsWith who x s) : waitsWith who x (postImages s) := by
  unfold postImages
  dsimp only
  have tally : waitsWith who x (if s.img.tallyDirty = true then
      giveRewrite .tally { s with img := { s.img with tallyDirty := false } } else s) := by
    split
    · exact giveRewrite_waits .tally h
    · exact h
  generalize (if s.img.tallyDirty = true then
      giveRewrite .tally { s with img := { s.img with tallyDirty := false } } else s) = u at tally ⊢
  split
  · exact giveRewrite_waits .live tally
  · exact tally

theorem mem_interleave {α κ : Type} [DecidableEq κ] (key : α → κ) (k n : Nat) (l : List α) (y : α)
    (hy : y ∈ l) : y ∈ (interleave key k n l).1 := by
  induction k generalizing n l with
  | zero => exact hy
  | succ k ih =>
    unfold interleave
    split
    · exact hy
    · exact hy
    · dsimp only
      split
      · exact hy
      · next z hz =>
        have hkey := List.find?_some hz
        by_cases hyz : y = z
        · exact hyz ▸ List.mem_cons_self
        · refine List.mem_cons_of_mem _ (ih _ _ ?_)
          obtain ⟨-, as, bs, hl, has⟩ := List.find?_eq_some_iff_append.mp hz
          rw [hl, List.eraseP_append_right _ (by intro b hb; simpa using has b hb),
            List.eraseP_cons_of_pos (p := fun v => decide (key v = _)) hkey]
          rw [hl] at hy
          simp only [List.mem_append, List.mem_cons] at hy ⊢
          obtain hy | hy | hy := hy
          · exact .inl hy
          · exact absurd hy hyz
          · exact .inr hy

theorem shuffleWaiters_waits (n : Nat) (h : waitsWith who x s) :
    waitsWith who x (shuffleWaiters n s) := by
  obtain ⟨w, hw, hrest⟩ := h
  refine ⟨w, ?_, hrest⟩
  rw [← List.take_append_drop n s.gate.waiters] at hw
  obtain hw | hw := List.mem_append.mp hw
  · exact List.mem_append_left _ hw
  · exact List.mem_append_right _ (mem_interleave _ _ _ _ w hw)

theorem settle_waits (h : waitsWith who x s) : waitsWith who x (settle s) := by
  have active : ∀ u : State, waitsWith who x u → waitsWith who x (judgeActivation u) := by
    intro u hu
    have gate : (judgeActivation u).gate.waiters = u.gate.waiters := by
      unfold judgeActivation
      split
      · split
        · unfold activate handBank
          dsimp only
          split
          · split
            · exact congrArg Gate.waiters (raise_gate _ _ _ _)
            · exact (congrArg Gate.waiters (raise_gate _ _ _ _)).trans (setBankGuard_queue _ _ _).2
          · exact congrArg Gate.waiters (raise_gate _ _ _ _)
        · rfl
      · rfl
      · rfl
    exact waits_same gate hu
  have clock : ∀ u : State, waitsWith who x u → waitsWith who x (judgeActivationClock u) := by
    intro u hu
    unfold judgeActivationClock
    dsimp only
    split
    · exact active u hu
    · exact giveRewrite_waits .clock (active u hu)
  unfold settle
  split
  · refine waits_same (by rw [judgeSender_queue, judgeReport_queue, judgeMode_queue]) (clock _ ?_)
    exact waits_same (by rw [judgeMoney_queue]) h
  · exact h

/-- A producer that waits before a step's end waits after it. -/
theorem finish_waits (n : Nat) (h : waitsWith who x s) : waitsWith who x (finish n s) := by
  have judged : waitsWith who x (judgeReasons (settle s)) :=
    waits_same (by rw [judgeReasons_queue]) (settle_waits h)
  exact shuffleWaiters_waits n (postImages_waits (flushEvents_waits judged))

/-! ### An answer given in its turn (R12, R23) -/

theorem joinLine_waitsWith (p : Producer) (hx : x ∈ l) : waitsWith p x (joinLine p l s) := by
  unfold joinLine
  split
  · next h =>
    obtain ⟨w, hw, hwho⟩ := List.any_eq_true.mp h
    refine ⟨{ w with items := w.items ++ l }, ?_, eq_of_beq hwho, List.mem_append_right _ hx⟩
    exact List.mem_map.mpr ⟨w, hw, if_pos hwho⟩
  · exact ⟨⟨p, l⟩, List.mem_append_right _ (List.mem_singleton_self _), rfl, hx⟩

/-- What a producer gives stands in the queue or waits. -/
theorem offer_inTurn (p : Producer) (e : PostEntry) (s : State) :
    s.gate.queue ++ [e] <+: (offer p [e] s).gate.queue ∨ waitsWith p (.entry e) (offer p [e] s) := by
  by_cases hf : placeFree s = true
  · exact .inl (offer_first p e [] hf)
  · right
    have eq : offer p [e] s = joinLine p [.entry e] s := by
      simp only [offer, List.map_cons, List.map_nil, offerItems, hf, if_false, Bool.false_eq_true]
    rw [eq]
    exact joinLine_waitsWith p (List.mem_singleton_self _)

/-- An answer behind other posts is given in its turn, whatever the room. -/
theorem finish_answer_inTurn {p : Profile} (hs : s.gate.profile = some p) (hg : grows s u)
    (hp : u.gate.profile = some p) (k : Nat) (n : Fin 16) (o : OrderOutcome) (detail : Nat) :
    steady (finish k (answer n o detail u)) = steady (answering u)
      ∧ answeredInTurn n (orderOutcomeCode o) detail s (finish k (answer n o detail u)) := by
  have eq : answer n o detail u = offer .orderUnit [outcomeEntry p n o detail] (answering u) := by
    simp only [answer, giveOutcome, hp]
    rfl
  have after := finish_grows k (answer n o detail u)
  have before : grows u (answer n o detail u) := by
    rw [eq]
    exact grows_from (offer_grows _ _ (answering u)) rfl
  refine ⟨(finish_steady _ _).trans (steady_of_unposted (answer_unposted n o detail u)), p, hs,
    grows_trans hg (grows_trans before after), ?_⟩
  obtain hq | hw := offer_inTurn .orderUnit (outcomeEntry p n o detail) (answering u)
  · left
    rw [← eq, outcomeEntry_eq_outcomeRun] at hq
    obtain ⟨l', hl'⟩ := hq.trans after
    obtain ⟨l, hl⟩ := hg
    have hl'' : s.gate.queue ++ l ++ [outcomeRun p n (orderOutcomeCode o) detail] ++ l'
        = (finish k (answer n o detail u)).gate.queue := by rw [hl]; exact hl'
    rw [← hl'', List.append_assoc, List.append_assoc, List.drop_left]
    simp
  · right
    rw [← eq, outcomeEntry_eq_outcomeRun] at hw
    exact finish_waits k hw

end
end Sys2Proof.Proofs

/-! The Report Queue's order, the statuses handed back, and REPORT NOW (R150 to R152). -/
namespace Sys2Proof.Proofs
open Sys2Proof.Machine Sys2Proof.Safety Sys2Proof.Laws

section
variable {s t u : State}

theorem tamper_of_steady (h : steady t = steady s) : t.tamper.chans = s.tamper.chans :=
  show (steady t).tamper.chans = (steady s).tamper.chans from congrArg (·.tamper.chans) h
theorem getChan_of_steady (h : steady t = steady s) (ch : Channel) : getChan ch t = getChan ch s := by
  rw [getChan, getChan, tamper_of_steady h]
theorem queue_of_steady (h : steady t = steady s) : t.report.queue = s.report.queue :=
  show (steady t).report.queue = (steady s).report.queue from congrArg (·.report.queue) h
theorem round_of_steady (h : steady t = steady s) : t.report.round = s.report.round :=
  show (steady t).report.round = (steady s).report.round from congrArg (·.report.round) h
theorem attempt_of_steady (h : steady t = steady s) : t.report.attempt = s.report.attempt :=
  show (steady t).report.attempt = (steady s).report.attempt from congrArg (·.report.attempt) h
theorem nextDue_of_steady (h : steady t = steady s) : t.report.nextDue = s.report.nextDue :=
  show (steady t).report.nextDue = (steady s).report.nextDue from congrArg (·.report.nextDue) h

/-! ### Queue order (R150) -/

/-- An entry takes its place behind all that it does not come before, and before all that follow. -/
theorem insertEntry_split (e : ReportEntry) (q : List ReportEntry) :
    ∃ l l', q = l ++ l' ∧ insertEntry e q = l ++ e :: l' ∧ (∀ f ∈ l, e.before f = false)
      ∧ ∀ f, l'.head? = some f → e.before f = true := by
  induction q with
  | nil => exact ⟨[], [], rfl, rfl, by simp, by simp⟩
  | cons f q ih =>
    by_cases hb : e.before f = true
    · exact ⟨[], f :: q, rfl, by simp [insertEntry, hb], by simp, by simpa using hb⟩
    · obtain ⟨l, l', hq, hi, hl, hl'⟩ := ih
      refine ⟨f :: l, l', by rw [hq]; rfl, by simp [insertEntry, hb, hi], ?_, hl'⟩
      intro g hg
      obtain rfl | hg := List.mem_cons.mp hg
      · simpa using hb
      · exact hl g hg

theorem insertEntry_length (e : ReportEntry) (q : List ReportEntry) :
    (insertEntry e q).length = q.length + 1 := by
  obtain ⟨l, l', hq, hi, -, -⟩ := insertEntry_split e q
  rw [hi, hq]
  simp
  omega

theorem any_insertEntry (e : ReportEntry) (q : List ReportEntry) (f : ReportEntry → Bool) :
    (insertEntry e q).any f = (f e || q.any f) := by
  obtain ⟨l, l', hq, hi, -, -⟩ := insertEntry_split e q
  rw [hi, hq]
  simp only [List.any_append, List.any_cons]
  cases f e <;> cases l.any f <;> rfl

/-- An entry no longer marked FAILED. -/
def unfailed (f : ReportEntry) : ReportEntry := { f with failed := false }

theorem insertEntry_unfailed (e : ReportEntry) (he : e.failed = false) (q : List ReportEntry) :
    (insertEntry e q).map unfailed = insertEntry e (q.map unfailed) := by
  have same : unfailed e = e := by rw [unfailed, ← he]
  induction q with
  | nil => simp [insertEntry, same]
  | cons f q ih =>
    have hb : e.before (unfailed f) = e.before f := rfl
    by_cases h : e.before f = true
    · simp [insertEntry, h, hb, same]
    · simp [insertEntry, h, hb, ih]

theorem map_unfailed {q : List ReportEntry} (h : ∀ f ∈ q, f.failed = false) : q.map unfailed = q := by
  have same : ∀ f ∈ q, unfailed f = id f := fun f hf => by rw [unfailed, ← h f hf]; rfl
  rw [List.map_congr_left same, List.map_id]

/-! ### Statuses handed back (R145, R152) -/

theorem channelOf_channelCode (ch : Channel) : channelOf (channelCode ch) = some ch := by
  cases ch <;> rfl

theorem channelOf_eq_some {code : Nat} {ch : Channel} (h : channelOf code = some ch) :
    code = channelCode ch := by
  unfold channelOf at h
  split at h <;> cases h <;> rfl

theorem channelCode_inj {a b : Channel} (h : channelCode a = channelCode b) : a = b := by
  have := congrArg channelOf h
  simpa [channelOf_channelCode] using this

/-- Only the channel records and the posts differ. -/
def chansOnly (s t : State) : Prop :=
  unposted t = unposted { s with tamper := { s.tamper with chans := t.tamper.chans } }

theorem chansOnly_trans (h : chansOnly s t) (h' : chansOnly t u) : chansOnly s u := by
  have := congrArg (fun x : State => unposted { x with
    tamper := { x.tamper with chans := u.tamper.chans } }) h
  exact h'.trans this

theorem handStatus_chans (code : Nat) (x : RepStatus) (s : State) :
    chansOnly s (handStatus code x s) ∧ grows s (handStatus code x s)
      ∧ ∀ ch, getChan ch (handStatus code x s)
          = if code = channelCode ch then { getChan ch s with status := x } else getChan ch s := by
  cases hc : channelOf code with
  | none =>
    have eq : handStatus code x s = s := by simp only [handStatus, hc]
    rw [eq]
    refine ⟨rfl, grows_refl s, fun ch => ?_⟩
    rw [if_neg]
    rintro rfl
    simp [channelOf_channelCode] at hc
  | some c =>
    have hcode := channelOf_eq_some hc
    have eq : handStatus code x s
        = giveRewrite .tamper (setChan c { getChan c s with status := x } s) := by
      simp only [handStatus, hc]
    have hu := giveRewrite_unposted .tamper (setChan c { getChan c s with status := x } s)
    have hchans : (handStatus code x s).tamper.chans = s.tamper.chans.set c { getChan c s with status := x } := by
      rw [eq]
      exact congrArg Tamper.chans (tamper_of_unposted hu)
    refine ⟨?_, ?_, fun ch => ?_⟩
    · rw [chansOnly, hchans, eq]
      exact hu
    · rw [eq]
      exact grows_from (giveRewrite_grows .tamper _) rfl
    · rw [getChan, hchans, hcode]
      by_cases h : c = ch
      · subst h
        rw [if_pos rfl, get_set_same]
      · rw [if_neg (fun hcc => h (channelCode_inj hcc)),
          get_set_other _ _ _ _ h, getChan]

/-- Every channel of a code in the list takes the status handed back. -/
theorem handStatuses_chans (x : RepStatus) (codes : List Nat) (s : State) :
    chansOnly s (handStatuses x codes s) ∧ grows s (handStatuses x codes s)
      ∧ ∀ ch, getChan ch (handStatuses x codes s)
          = if codes.contains (channelCode ch) then { getChan ch s with status := x }
            else getChan ch s := by
  induction codes generalizing s with
  | nil => exact ⟨rfl, grows_refl s, fun ch => rfl⟩
  | cons c codes ih =>
    obtain ⟨h1, g1, c1⟩ := handStatus_chans c x s
    obtain ⟨h2, g2, c2⟩ := ih (handStatus c x s)
    refine ⟨chansOnly_trans h1 h2, grows_trans g1 g2, fun ch => (c2 ch).trans ?_⟩
    rw [c1]
    simp only [List.contains_cons]
    by_cases hc : c = channelCode ch
    · simp only [hc, beq_self_eq_true, Bool.true_or, if_true]
      split <;> rfl
    · have : (channelCode ch == c) = false := by simpa using fun h => hc h.symm
      simp only [this, Bool.false_or, if_neg hc]

/-! ### REPORT NOW (R151, R152) -/

/-- A TEST report (R151). -/
def testEntry (s : State) : ReportEntry := ⟨9, 0, now s, false, false, false⟩

/-- The queue with a TEST report in its place, before a round begins. -/
def testQueued (s : State) : State :=
  { s with report := { s.report with queue := insertEntry (testEntry s) s.report.queue } }

theorem joinReport_test (h : ∀ e ∈ s.report.queue, e.code ≠ 9) :
    joinReport 9 0 (now s) s = startRound (testQueued s) := by
  have hfind : s.report.queue.find? (fun e => e.code == 9) = none := by
    simpa using h
  have hfilter : s.report.queue.filter (fun f => f.code != 9) = s.report.queue := by
    simpa using h
  simp only [joinReport, hfind, hfilter]
  rfl

/-- A round begun: every FAILED entry is QUEUED again and attempt 1 is due (R152). -/
theorem startRound_begins (h : s.report.round ≠ .inRound) :
    startRound s = { requeueFailed s with report := { (requeueFailed s).report with
      round := .inRound, attempt := 1, due := canReport (s), nextDue := none } } := if_neg h

theorem startRound_goesOn (h : s.report.round = .inRound) : startRound s = s := if_pos h

/-- What requeueing leaves: the queue with no entry FAILED, and the channels of the FAILED ones QUEUED. -/
theorem requeueFailed_rest (s : State) :
    chansOnly { s with report := { s.report with queue := s.report.queue.map unfailed } } (requeueFailed s)
      ∧ grows s (requeueFailed s)
      ∧ ∀ ch, getChan ch (requeueFailed s)
          = if s.report.queue.any (fun f => f.failed && f.code == channelCode ch)
            then { getChan ch s with status := .queued } else getChan ch s := by
  obtain ⟨h, g, c⟩ := handStatuses_chans .queued ((s.report.queue.filter (·.failed)).map (·.code))
    { s with report := { s.report with queue := s.report.queue.map unfailed } }
  have hany : ∀ ch, ((s.report.queue.filter (·.failed)).map (·.code)).contains (channelCode ch)
      = s.report.queue.any (fun f => f.failed && f.code == channelCode ch) := by
    intro ch
    rw [Bool.eq_iff_iff]
    simp only [List.contains_iff_mem, List.mem_map, List.mem_filter, List.any_eq_true, Bool.and_eq_true,
      beq_iff_eq, and_assoc]
  refine ⟨h, grows_from g rfl, fun ch => ?_⟩
  rw [← hany]
  exact c ch

theorem requeueFailed_none (h : ∀ f ∈ s.report.queue, f.failed = false) : requeueFailed s = s := by
  have hfilter : s.report.queue.filter (·.failed) = [] := by simpa using h
  have hmap : s.report.queue.map (fun e => { e with failed := false }) = s.report.queue :=
    map_unfailed h
  unfold requeueFailed
  rw [hfilter, hmap]
  rfl

theorem testQueued_unfailed (h : ∀ f ∈ s.report.queue, f.failed = false) :
    ∀ f ∈ (testQueued s).report.queue, f.failed = false := by
  have hany : (insertEntry (testEntry s) s.report.queue).any (·.failed) = false := by
    rw [any_insertEntry]
    simpa [testEntry] using h
  simpa [testQueued] using hany

theorem reportOrder_joins {n : Fin 16} {d : List Byte} (h : ∀ e ∈ s.report.queue, e.code ≠ 9) :
    reportOrder n d s = answer n .done (startRound (testQueued s)).report.queue.length
      (startRound (testQueued s)) := by
  unfold reportOrder
  rw [if_neg (by simpa using h)]
  dsimp only
  rw [joinReport_test h]

/-- With no entry FAILED the round alone is told: nothing is posted. -/
theorem startRound_unfailed (h : ∀ f ∈ s.report.queue, f.failed = false) :
    (startRound s).gate = s.gate ∧ (startRound s).report.queue = s.report.queue
      ∧ (startRound s).report.round = .inRound
      ∧ (s.report.round ≠ .inRound →
          (startRound s).report.attempt = 1 ∧ (startRound s).report.nextDue = none)
      ∧ (startRound s).tamper = s.tamper ∧ (startRound s).coin = s.coin
      ∧ (startRound s).mem = s.mem := by
  by_cases hr : s.report.round = .inRound
  · rw [startRound_goesOn hr]
    exact ⟨rfl, rfl, hr, fun hn => absurd hr hn, rfl, rfl, rfl⟩
  · rw [startRound_begins hr, requeueFailed_none h]
    exact ⟨rfl, rfl, rfl, fun _ => ⟨rfl, rfl⟩, rfl, rfl, rfl⟩

end

/-- Settles O36: the TEST takes its place by the queue order, and a round begins unless one is under
way. -/
theorem reportNowQueuesATest : Obligations.ReportNowQueuesATest := by
  intro s n d h hp hr
  refine ⟨fun hnine => ?_, fun hq e he => ?_, fun hq hround e he q hqd => ?_⟩
  · have body : reportOrder n d s = answer n .unchanged 0 s := if_pos (by simpa using hnine)
    exact leadsWith_owner rfl h rfl body fun k => finish_answer rfl hp hr k n .unchanged 0
  · subst he
    obtain ⟨l, l', hsplit, hinsert, hl, hl'⟩ := insertEntry_split (testEntry s) s.report.queue
    obtain ⟨ugate, uqueue, uround, uattempt, utamper, ucoin, umem⟩ :=
      startRound_unfailed (testQueued_unfailed fun f hf => (hq f hf).2)
    have body := reportOrder_joins (n := n) (d := d) fun f hf => (hq f hf).1
    have hlen : (startRound (testQueued s)).report.queue.length = s.report.queue.length + 1 := by
      rw [uqueue]; exact insertEntry_length _ _
    rw [hlen] at body
    obtain ⟨t, ht, hs, ha⟩ := leadsWith_owner (c := .reportNow) rfl h rfl body fun k =>
      finish_answer (u := startRound (testQueued s)) (ugate.trans rfl) hp hr k n .done
        (s.report.queue.length + 1)
    have hqueue := (queue_of_steady hs).trans (uqueue.trans hinsert)
    exact ⟨t, l, l', ht, hsplit, hqueue, hl, hl', (round_of_steady hs).trans uround,
      fun hn => ⟨(attempt_of_steady hs).trans (uattempt hn).1, (nextDue_of_steady hs).trans (uattempt hn).2⟩,
      ha, (tamper_of_steady hs).trans (congrArg Tamper.chans utamper),
      (escrow_of_steady hs).trans (congrArg Coin.escrow ucoin), (mem_of_steady hs).trans umem⟩
  · subst he hqd
    obtain ⟨p, hprof⟩ := Option.ne_none_iff_exists'.mp hp
    have hmap := insertEntry_unfailed (testEntry s) rfl s.report.queue
    obtain ⟨l, l', hsplit, hinsert, hl, hl'⟩ :=
      insertEntry_split (testEntry s) (s.report.queue.map unfailed)
    obtain ⟨hu, hg, hc⟩ := requeueFailed_rest (testQueued s)
    have hbegun := startRound_begins (s := testQueued s) hround
    have body := reportOrder_joins (n := n) (d := d) hq
    have uqueue : (requeueFailed (testQueued s)).report.queue = l ++ testEntry s :: l' :=
      ((congrArg Report.queue (report_of_unposted hu)).trans hmap).trans hinsert
    have hlen : (startRound (testQueued s)).report.queue.length = s.report.queue.length + 1 := by
      rw [hbegun]
      have := congrArg List.length hsplit
      simp only [uqueue, List.length_append, List.length_cons, List.length_map] at this ⊢
      omega
    rw [hlen] at body
    have hprof' : (startRound (testQueued s)).gate.profile = some p := by
      rw [hbegun]; exact (profile_of_unposted hu).trans hprof
    have hgrow : grows s (startRound (testQueued s)) := by
      rw [hbegun]; exact grows_from hg rfl
    obtain ⟨t, ht, hs, ha⟩ := leadsWith_owner (c := .reportNow) rfl h rfl body fun k =>
      finish_answer_inTurn hprof hgrow hprof' k n .done (s.report.queue.length + 1)
    rw [hbegun] at hs
    have hany : ∀ ch, (testQueued s).report.queue.any (fun f => f.failed && f.code == channelCode ch)
        = s.report.queue.any (fun f => f.failed && f.code == channelCode ch) := fun ch =>
      any_insertEntry (testEntry s) s.report.queue _
    refine ⟨t, l, l', ht, hsplit, (queue_of_steady hs).trans uqueue, hl, hl', round_of_steady hs,
      attempt_of_steady hs, nextDue_of_steady hs, ha, fun ch => ?_,
      (escrow_of_steady hs).trans ((congrArg Coin.escrow (coin_of_unposted hu)).trans rfl),
      (mem_of_steady hs).trans ((mem_of_unposted hu).trans rfl)⟩
    have := (getChan_of_steady hs ch).trans (hc ch)
    rwa [hany] at this

end Sys2Proof.Proofs

/-! Channels tripped and let go, and CLEAR LANE (R83, R135, R136). -/
namespace Sys2Proof.Proofs
open Sys2Proof.Machine Sys2Proof.Safety Sys2Proof.Laws

section
variable {s t u : State}

/-! ### A condition ends (R136) -/

/-- A channel let go: LATCHED if it was ACTIVE. -/
def letGo (ch : Channel) (s : State) : State :=
  if (getChan ch s).state = .active then setChan ch { getChan ch s with state := .latched } s else s

theorem condEnds_rest (ch : Channel) (s : State) :
    unposted (condEnds ch s) = unposted (letGo ch s) ∧ grows s (condEnds ch s) := by
  unfold condEnds letGo
  dsimp only
  split
  · constructor
    · rw [giveRewrite_unposted, raise_unposted]
    · refine grows_from (giveRewrite_grows .tamper _) ?_
      rw [raise_gate]
      rfl
  · exact ⟨rfl, grows_refl s⟩

theorem letGo_getChan (ch other : Channel) (s : State) : getChan other (letGo ch s)
    = if other = ch ∧ (getChan ch s).state = .active then { getChan ch s with state := .latched }
      else getChan other s := by
  unfold letGo
  split
  · next h =>
    by_cases hc : other = ch
    · subst hc
      rw [if_pos ⟨rfl, h⟩]
      exact get_set_same _ _ _
    · rw [if_neg fun ⟨ho, _⟩ => hc ho]
      exact get_set_other _ _ _ _ fun ho => hc ho.symm
  · next h => rw [if_neg fun ⟨_, ha⟩ => h ha]

theorem letGo_unposted (ch : Channel) (h : unposted t = unposted s) :
    unposted (letGo ch t) = unposted (letGo ch s) := by
  have posts : ∀ x : State, unposted (letGo ch x) = unposted (letGo ch (unposted x)) := by
    intro x
    have same : getChan ch (unposted x) = getChan ch x := rfl
    unfold letGo
    rw [same]
    split <;> rfl
  rw [posts t, h, ← posts s]

/-- What letting a channel go leaves besides the channels. -/
theorem letGo_only (ch : Channel) (s : State) :
    letGo ch s = { s with tamper := { s.tamper with chans := (letGo ch s).tamper.chans } } := by
  unfold letGo
  split <;> rfl

/-! ### The money with nothing to do -/

/-- With an empty list the money's judgments leave the lane. -/
theorem judgeMoney_lane_empty (h : s.coin.escrow = []) :
    (judgeMoney s).coin.lane = s.coin.lane ∧ (judgeMoney s).coin.gatePos = s.coin.gatePos
      ∧ (judgeMoney s).coin.dropTimer = s.coin.dropTimer := by
  have hold : ∀ (c : HoldCause) (u : State), (setHold c u).coin.lane = u.coin.lane
      ∧ (setHold c u).coin.gatePos = u.coin.gatePos
      ∧ (setHold c u).coin.dropTimer = u.coin.dropTimer := by
    intro c u
    unfold setHold
    dsimp only
    split
    · split <;> exact ⟨rfl, rfl, rfl⟩
    · split
      · split <;> exact ⟨rfl, rfl, rfl⟩
      · rw [raise_coin]; exact ⟨rfl, rfl, rfl⟩
  have close : ∀ u : State, (closePurse u).coin.lane = u.coin.lane
      ∧ (closePurse u).coin.gatePos = u.coin.gatePos
      ∧ (closePurse u).coin.dropTimer = u.coin.dropTimer := by
    intro u
    simp [closePurse]
  have demand : ∀ u : State, (judgeDemand u).coin.lane = u.coin.lane
      ∧ (judgeDemand u).coin.gatePos = u.coin.gatePos
      ∧ (judgeDemand u).coin.dropTimer = u.coin.dropTimer := by
    intro u
    have settling : ∀ v, v = (if requestInFlight u.coin = true then u
        else if (u.coin.escrow.isEmpty && !inFlight u.coin.lane) = true then closePurse u
        else setHold (holdCauseOf (settleDemand u) u) (setDemand (settleDemand u) u)) →
        v.coin.lane = u.coin.lane ∧ v.coin.gatePos = u.coin.gatePos
          ∧ v.coin.dropTimer = u.coin.dropTimer := by
      rintro v rfl
      split
      · exact ⟨rfl, rfl, rfl⟩
      · split
        · exact close u
        · exact hold _ (setDemand (settleDemand u) u)
    unfold judgeDemand
    split
    · exact ⟨rfl, rfl, rfl⟩
    · split <;> exact ⟨rfl, rfl, rfl⟩
    · exact settling _ rfl
    · exact settling _ rfl
  have hook : (settleOnHook s).coin.lane = s.coin.lane
      ∧ (settleOnHook s).coin.gatePos = s.coin.gatePos
      ∧ (settleOnHook s).coin.dropTimer = s.coin.dropTimer := by
    unfold settleOnHook beginSettlement
    split
    · split <;> exact ⟨rfl, rfl, rfl⟩
    · exact ⟨rfl, rfl, rfl⟩
  have empty : (judgeDemand (settleOnHook s)).coin.escrow = [] := by
    rw [escrow_of_steady ((judgeDemand_steady _).trans (settleOnHook_steady s)), h]
  have lane : startLane (judgeDemand (settleOnHook s)) = judgeDemand (settleOnHook s) := by
    unfold startLane
    rw [empty]
    exact ite_self _
  unfold judgeMoney
  split
  · rw [lane]
    obtain ⟨a, b, c⟩ := demand (settleOnHook s)
    obtain ⟨a', b', c'⟩ := hook
    exact ⟨a.trans a', b.trans b', c.trans c'⟩
  · exact ⟨rfl, rfl, rfl⟩

/-- An OPEN purse off-hook stands through the money's judgments (R127, R128). -/
theorem judgeMoney_open (h : s.meter.purse.state = .opened) (hook : s.call.hook = true) :
    (judgeMoney s).meter.purse = s.meter.purse := by
  have still : settleOnHook s = s := by simp [settleOnHook, hook]
  have demand : (judgeDemand s).meter.purse = s.meter.purse := by
    unfold judgeDemand
    simp only [h]
    split <;> rfl
  unfold judgeMoney
  split
  · rw [still, (startLane_beside _).2, demand]
  · rfl

/-! ### The lane cleared (R83) -/

theorem clearCount_boxValue (t : Tally) (e : EscrowEntry) :
    (clearCount t e).boxValue = t.boxValue := by
  unfold clearCount updClass
  split
  · rfl
  · split <;> rfl

theorem foldl_clearCount_boxValue (l : List EscrowEntry) (t : Tally) :
    (l.foldl clearCount t).boxValue = t.boxValue := by
  induction l generalizing t with
  | nil => rfl
  | cons e l ih => rw [List.foldl_cons, ih, clearCount_boxValue]

theorem uncertain_of_steady (h : steady t = steady s) : t.coin.uncertain = s.coin.uncertain :=
  show (steady t).coin.uncertain = (steady s).coin.uncertain from congrArg (·.coin.uncertain) h
theorem classes_of_steady (h : steady t = steady s) : t.tally.classes = s.tally.classes :=
  show (steady t).tally.classes = (steady s).tally.classes from congrArg (·.tally.classes) h
theorem boxValue_of_steady (h : steady t = steady s) : t.tally.boxValue = s.tally.boxValue :=
  show (steady t).tally.boxValue = (steady s).tally.boxValue from congrArg (·.tally.boxValue) h

theorem passagesKept_of_steady (h : steady t = steady s) : passagesKept s t := by
  have hmap : t.coin.passages.map (fun p => { p with late := false })
      = s.coin.passages.map (fun p => { p with late := false }) :=
    show (steady t).coin.passages = (steady s).coin.passages from congrArg (·.coin.passages) h
  have := congrArg (List.map fun x : Passage => (x.cls, x.window)) hmap
  unfold passagesKept
  simpa only [List.map_map, Function.comp_def] using this

/-- The state before the LANE channel is let go and the marker cleared (R83). -/
def laneEmptied (s : State) : State :=
  { s with
    tally := s.coin.escrow.foldl clearCount s.tally,
    meter := { s.meter with purse := if purseOpen s then
      { s.meter.purse with x := s.meter.purse.x + escrowValue s.coin.escrow } else s.meter.purse },
    coin := { s.coin with
      escrow := [], lane := .clear, gatePos := .hold, dropTimer := none,
      deposited := if purseOpen s then s.meter.purse.d else s.coin.deposited,
      purseFig := if purseOpen s then s.meter.purse.state else s.coin.purseFig } }

theorem clearLaneNow_rest (s : State) :
    unposted (clearLaneNow s) = unposted (clearUncertain
        (if s.coin.lane == .jammed then letGo .lane (laneEmptied s) else laneEmptied s))
      ∧ grows s (clearLaneNow s) := by
  have emptied : ∀ u : State, u = (if purseOpen (updTally (fun t => s.coin.escrow.foldl clearCount t) s)
        then setPurse { (updTally (fun t => s.coin.escrow.foldl clearCount t) s).meter.purse with
          x := (updTally (fun t => s.coin.escrow.foldl clearCount t) s).meter.purse.x
            + escrowValue s.coin.escrow } (updTally (fun t => s.coin.escrow.foldl clearCount t) s)
        else updTally (fun t => s.coin.escrow.foldl clearCount t) s) →
      unposted { u with coin := { u.coin with
        escrow := [], lane := .clear, gatePos := .hold, dropTimer := none } }
        = unposted (laneEmptied s) ∧ u.gate = s.gate := by
    have same : purseOpen (updTally (fun t => s.coin.escrow.foldl clearCount t) s) = purseOpen s := rfl
    rintro u rfl
    rw [same]
    unfold laneEmptied
    cases hp : purseOpen s
    · exact ⟨rfl, rfl⟩
    · exact ⟨rfl, rfl⟩
  unfold clearLaneNow
  dsimp only
  generalize hu : (if purseOpen (updTally (fun t => s.coin.escrow.foldl clearCount t) s) = true
      then _ else _) = u
  obtain ⟨h3, hg⟩ := emptied u hu.symm
  generalize hw : ({ u with coin := { u.coin with
    escrow := [], lane := .clear, gatePos := .hold, dropTimer := none } } : State) = w at h3 ⊢
  have hwg : w.gate = s.gate := by rw [← hw]; exact hg
  have cleared : ∀ x y : State, unposted x = unposted y →
      unposted (clearUncertain x) = unposted (clearUncertain y) := fun x y h =>
    show unposted (clearUncertain (unposted x)) = unposted (clearUncertain (unposted y)) from
      congrArg (fun v => unposted (clearUncertain v)) h
  obtain ⟨hc, hcg⟩ := condEnds_rest .lane w
  split
  · exact ⟨cleared _ _ (hc.trans (letGo_unposted .lane h3)),
      grows_from (grows_trans hcg (grows_same rfl)) (by rw [hwg])⟩
  · exact ⟨cleared _ _ h3, grows_same (by rw [← hwg]; rfl)⟩

/-- The lane cleared, all its steps taken but for the posts (R83). -/
def laneCleared (s : State) : State :=
  clearUncertain (if s.coin.lane == .jammed then letGo .lane (laneEmptied s) else laneEmptied s)

/-- What a cleared lane leaves, block by block. -/
theorem laneCleared_rest (s : State) :
    (laneCleared s).coin = { (laneEmptied s).coin with uncertain := false }
      ∧ (laneCleared s).meter = (laneEmptied s).meter ∧ (laneCleared s).tally = (laneEmptied s).tally
      ∧ (laneCleared s).mem = s.mem ∧ (laneCleared s).sys = s.sys ∧ (laneCleared s).call = s.call
      ∧ (laneCleared s).gate.profile = s.gate.profile := by
  unfold laneCleared
  split
  · rw [letGo_only]
    exact ⟨rfl, rfl, rfl, rfl, rfl, rfl, rfl⟩
  · exact ⟨rfl, rfl, rfl, rfl, rfl, rfl, rfl⟩

theorem laneCleared_lane (hj : s.coin.lane = .jammed) (ha : (getChan .lane s).state = .active) :
    (getChan .lane (laneCleared s)).state = .latched := by
  have hl : getChan .lane (laneCleared s) = getChan .lane (letGo .lane (laneEmptied s)) := by
    rw [laneCleared, if_pos (by simp [hj])]
    rfl
  have ha' : (getChan .lane (laneEmptied s)).state = .active := ha
  rw [hl, letGo_getChan, if_pos ⟨rfl, ha'⟩]

end

/-- Settles O37: the row's conditions leave an action or the flush under way BUSY, and any other lane is
cleared at once. -/
theorem clearLaneEmptiesIt : Obligations.ClearLaneEmptiesIt := by
  intro s n d h hp hr hv hk
  have conds : s.coin.lane = .jammed ∨ s.coin.uncertain = true → firstUnmet (laneConds s) = none := by
    intro hl
    obtain hl | hl := hl <;> simp [laneConds, firstUnmet, serviceVisit, hv, hk, hl]
  refine ⟨fun hl hu => ?_, fun hl => ?_⟩
  · have body : laneOrder n d s = answer n .busy 0 s := by
      unfold laneOrder
      rw [if_neg]
      obtain hl | hl | hl := hl <;> simp [hl]
    exact leadsWith_owner rfl h (conds (.inr hu)) body fun k => finish_answer rfl hp hr k n .busy 0
  · obtain ⟨p, hprof⟩ := Option.ne_none_iff_exists'.mp hp
    have body : laneOrder n d s = answer n .done s.coin.escrow.length (clearLaneNow s) :=
      if_pos (hl.symm.imp And.left id)
    have met := conds (hl.imp id And.right)
    obtain ⟨hu, hg⟩ := clearLaneNow_rest s
    change unposted (clearLaneNow s) = unposted (laneCleared s) at hu
    obtain ⟨vcoin, vmeter, vtally, vmem, vsys, vcall, vprof⟩ := laneCleared_rest s
    have hlane : s.coin.lane = .jammed → (getChan .lane s).state = .active →
        (getChan .lane (laneCleared s)).state = .latched := laneCleared_lane
    generalize clearLaneNow s = u at body hu hg
    have uprof : u.gate.profile = some p := (profile_of_unposted hu).trans (vprof.trans hprof)
    obtain ⟨t, ht, hs, ha, lane, pos, drop, purse⟩ := leadsWith_owner (c := .clearLane) (v := answering u)
      (P := fun t => answeredInTurn n 1 s.coin.escrow.length s t ∧ t.coin.lane = .clear
        ∧ t.coin.gatePos = .hold ∧ t.coin.dropTimer = none
        ∧ (s.call.hook = true → s.meter.purse.state = .opened →
          t.meter.purse = { s.meter.purse with x := s.meter.purse.x + escrowValue s.coin.escrow }))
      rfl h met body fun k => by
        obtain ⟨hsteady, ha⟩ := finish_answer_inTurn hprof hg uprof k n .done s.coin.escrow.length
        have hx := (answer_unposted n .done s.coin.escrow.length u).trans (answering_unposted hu)
        generalize answer n .done s.coin.escrow.length u = x at hsteady ha hx ⊢
        have xcoin : x.coin = { (laneEmptied s).coin with uncertain := false } :=
          (coin_of_unposted hx).trans vcoin
        have xmeter : x.meter = (laneEmptied s).meter := (meter_of_unposted hx).trans vmeter
        have xcall : x.call = s.call := (call_of_unposted hx).trans vcall
        have xrun : x.sys.part = .running :=
          (congrArg Sys.part ((sys_of_unposted hx).trans vsys)).trans h.1
        obtain ⟨r, hcoin⟩ := finish_coin k x
        obtain ⟨jl, jp, jd⟩ := judgeMoney_lane_empty (s := x) (by rw [xcoin]; rfl)
        refine ⟨hsteady, ha, ?_, ?_, ?_, fun hook hopen => ?_⟩
        · rw [hcoin, settle_coin xrun, jl, xcoin]; rfl
        · rw [hcoin, settle_coin xrun, jp, xcoin]; rfl
        · rw [hcoin, settle_coin xrun, jd, xcoin]; rfl
        · have open_ : purseOpen s = true := by simp [purseOpen, hopen]
          have xpurse : x.meter.purse
              = { s.meter.purse with x := s.meter.purse.x + escrowValue s.coin.escrow } := by
            rw [xmeter, laneEmptied, open_]; rfl
          rw [finish_meter, settle_meter xrun, judgeMoney_open (by rw [xpurse]; exact hopen)
            (by rw [xcall]; exact hook), xpurse]
    have hsv : steady t = steady (answering (laneCleared s)) :=
      hs.trans (steady_of_unposted (answering_unposted hu))
    have hcoin : t.coin.escrow = [] ∧ t.coin.uncertain = false := by
      refine ⟨(escrow_of_steady hsv).trans (congrArg Coin.escrow vcoin), ?_⟩
      exact (uncertain_of_steady hsv).trans (congrArg Coin.uncertain vcoin)
    refine ⟨t, ht, ha, hcoin.1, lane, pos, drop, hcoin.2, ?_, ?_, ?_, fun hj hact => ?_, purse, ?_⟩
    · have kept := passagesKept_of_steady hsv
      unfold passagesKept at kept ⊢
      rw [kept]
      exact congrArg (fun c : Coin => c.passages.map fun x => (x.cls, x.window)) vcoin
    · exact (classes_of_steady hsv).trans (congrArg Tally.classes vtally)
    · exact (boxValue_of_steady hsv).trans
        ((congrArg Tally.boxValue vtally).trans (foldl_clearCount_boxValue _ _))
    · rw [getChan_of_steady hsv]
      exact hlane hj hact
    · exact (mem_of_steady hsv).trans vmem

end Sys2Proof.Proofs

/-! CLEAR TAMPER and the orders of visits (R138, R147, R172 to R175). -/
namespace Sys2Proof.Proofs
open Sys2Proof.Machine Sys2Proof.Safety Sys2Proof.Laws

section
variable {s t u : State}

/-! ### CLEAR TAMPER (R147) -/

theorem channelOf_none {n : Nat} (h : n < 1 ∨ 8 < n) : channelOf n = none := by
  cases hc : channelOf n with
  | none => rfl
  | some ch =>
    have := channelOf_eq_some hc
    cases ch <;> simp only [channelCode] at this <;> omega

/-- A channel cleared, as its profile's base severity has it (R147). -/
def chanCleared (p : Profile) (ch : Channel) (s : State) : State :=
  setChan ch ⟨.quiet, baseSeverity p ch, 0, zeroTime, zeroTime, (getChan ch s).raw, .idle⟩ s

/-- The report of a cleared channel withdrawn where one is made (R147, R150). -/
def clearedReports (ch : Channel) (s u : State) : State :=
  if (getChan ch s).status = .queued ∨ (getChan ch s).status = .failed then
    withdrawReport (channelCode ch) u else u

theorem clearChannel_eq {p : Profile} (hp : s.gate.profile = some p) (ch : Channel) :
    clearChannel ch s = giveRewrite .tamper (clearedReports ch s (chanCleared p ch s)) := by
  simp only [clearChannel, hp, clearedReports, chanCleared]

/-- With no report call a withdrawal changes the report queue and its round alone. -/
theorem withdrawReport_rest (code : Nat) (h : s.report.phase = .noCall) :
    withdrawReport code s = { s with report := (withdrawReport code s).report }
      ∧ (withdrawReport code s).report.queue = s.report.queue.filter (fun e => e.code != code) := by
  unfold withdrawReport
  dsimp only
  split
  · have phase : beforeSnapshot (endRound { s with report := { s.report with
        queue := s.report.queue.filter (fun e => e.code != code) } }).report.phase = false := by
      simp [endRound, h, beforeSnapshot]
    rw [if_neg (by rw [phase]; simp)]
    exact ⟨rfl, rfl⟩
  · exact ⟨rfl, rfl⟩

theorem clearedReports_rest (ch : Channel) (s u : State) (h : u.report.phase = .noCall) :
    clearedReports ch s u = { u with report := (clearedReports ch s u).report }
      ∧ ((getChan ch s).status = .queued ∨ (getChan ch s).status = .failed →
          (clearedReports ch s u).report.queue
            = u.report.queue.filter (fun e => e.code != channelCode ch))
      ∧ ((getChan ch s).status = .idle ∨ (getChan ch s).status = .sent →
          (clearedReports ch s u).report.queue = u.report.queue) := by
  obtain ⟨hr, hq⟩ := withdrawReport_rest (channelCode ch) h
  unfold clearedReports
  split
  · next hs =>
    refine ⟨hr, fun _ => hq, fun hn => ?_⟩
    obtain hn | hn := hn <;> simp [hn] at hs
  · next hs => exact ⟨rfl, fun hn => absurd hn hs, fun _ => rfl⟩

/-- The Tamper Monitor but for its line voltage loss timer, which the line's own judgments write. -/
theorem tamperRest_of_steady (h : steady t = steady s) :
    { t.tamper with lossTimer := none } = { s.tamper with lossTimer := none } :=
  show (steady t).tamper = (steady s).tamper from congrArg State.tamper h

theorem visits_of_steady (h : steady t = steady s) : t.tally.visits = s.tally.visits :=
  show (steady t).tally.visits = (steady s).tally.visits from congrArg (·.tally.visits) h

end

/-- Settles O35: the order by the channel's state; a LATCHED one is cleared and its report withdrawn. -/
theorem clearTamperQuietsTheChannel : Obligations.ClearTamperQuietsTheChannel := by
  intro s p n d h hp hr hphase
  have hp' : s.gate.profile ≠ none := by simp [hp]
  refine ⟨fun hout => ?_, fun ch hch => ⟨fun hq => ?_, fun ha => ?_, fun hl => ?_⟩⟩
  · have body : clearOrder n d s = answer n .badParameter 2 s := by
      simp only [clearOrder, channelOf_none hout]
    exact leadsWith_owner rfl h rfl body fun k => finish_answer rfl hp' hr k n .badParameter 2
  · have body : clearOrder n d s = answer n .unchanged 0 s := by
      simp only [clearOrder, hch, channelOf_channelCode, hq]
    exact leadsWith_owner rfl h rfl body fun k => finish_answer rfl hp' hr k n .unchanged 0
  · have body : clearOrder n d s = answer n .notNow (channelCode ch) s := by
      simp only [clearOrder, hch, channelOf_channelCode, ha]
    exact leadsWith_owner rfl h rfl body fun k => finish_answer rfl hp' hr k n .notNow (channelCode ch)
  · have body : clearOrder n d s = answer n .done (getChan ch s).trips
        (giveRewrite .tamper (clearedReports ch s (chanCleared p ch s))) := by
      simp only [clearOrder, hch, channelOf_channelCode, hl]
      rw [clearChannel_eq hp]
    obtain ⟨cr, cq, cn⟩ := clearedReports_rest ch s (chanCleared p ch s) hphase
    have hu := giveRewrite_unposted .tamper (clearedReports ch s (chanCleared p ch s))
    have hg : grows s (giveRewrite .tamper (clearedReports ch s (chanCleared p ch s))) :=
      grows_from (giveRewrite_grows .tamper _) (by rw [cr]; rfl)
    generalize clearedReports ch s (chanCleared p ch s) = v at body cr cq cn hu hg
    have vchans : ∀ other, getChan other v = getChan other (chanCleared p ch s) := fun other => by
      rw [cr]; rfl
    obtain ⟨t, ht, hs, ha⟩ := leadsWith_owner (c := .clearTamper) rfl h rfl body fun k =>
      finish_answer_inTurn hp hg ((profile_of_unposted hu).trans (by rw [cr]; exact hp)) k n .done
        (getChan ch s).trips
    have hsv : steady t = steady (answering v) :=
      hs.trans (steady_of_unposted (answering_unposted hu))
    have rest := tamperRest_of_steady hsv
    refine ⟨t, ht, ha, ?_, fun other ho => ?_, (congrArg Tamper.force rest).trans (by rw [cr]; rfl),
      (congrArg Tamper.shockWindow rest).trans (by rw [cr]; rfl), fun hs => ?_, fun hs => ?_,
      (visits_of_steady hsv).trans (by rw [cr]; rfl), (mem_of_steady hsv).trans (by rw [cr]; rfl)⟩
    · rw [getChan_of_steady hsv]
      exact (vchans ch).trans (get_set_same _ _ _)
    · rw [getChan_of_steady hsv]
      exact (vchans other).trans (get_set_other _ _ _ _ fun h => ho h.symm)
    · exact (queue_of_steady hsv).trans (cq hs)
    · exact (queue_of_steady hsv).trans (cn hs)

/-! ### A visit reported to the Tamper Monitor (R138) -/

section
variable {s t u : State}

theorem condEnds_still {ch : Channel} (h : (getChan ch s).state ≠ .active) : condEnds ch s = s := if_neg h

/-- A visit kind handed to the Tamper Monitor. -/
def visitTold (k : Option VisitKind) (s : State) : State :=
  { s with tamper := { s.tamper with visitKind := k } }

/-- Where neither DOOR nor CASE shows its condition and CASE is not ACTIVE, a visit's report lets DOOR go. -/
theorem reportVisit_rest {k : Option VisitKind} (hd : doorCond (visitTold k s).tamper = false)
    (hc : caseCond (visitTold k s).tamper = false) (ha : (getChan .case s).state ≠ .active) :
    unposted (reportVisit k s) = unposted (letGo .door (visitTold k s)) ∧ grows s (reportVisit k s) := by
  obtain ⟨hu, hg⟩ := condEnds_rest .door (visitTold k s)
  have heq : reportVisit k s = judgeChan .case (caseCond (condEnds .door (visitTold k s)).tamper)
      (condEnds .door (visitTold k s)) := by
    simp only [reportVisit, judgeChan]
    rw [show doorCond { s.tamper with visitKind := k } = false from hd]
    rfl
  have htamper : (condEnds .door (visitTold k s)).tamper = (letGo .door (visitTold k s)).tamper :=
    tamper_of_unposted hu
  have hcase : caseCond (condEnds .door (visitTold k s)).tamper = false := by
    rw [htamper, letGo_only]
    exact hc
  have hstate : (getChan .case (condEnds .door (visitTold k s))).state ≠ .active := by
    have : getChan .case (condEnds .door (visitTold k s)) = getChan .case s := by
      rw [getChan, htamper, ← getChan, letGo_getChan, if_neg (by simp)]
      rfl
    rwa [this]
  rw [heq, hcase]
  have still : judgeChan .case false (condEnds .door (visitTold k s)) = condEnds .door (visitTold k s) :=
    condEnds_still hstate
  rw [still]
  exact ⟨hu, grows_from hg rfl⟩

/-! ### OPEN VISIT (R172) -/

/-- A visit as it opens (R172). -/
def openedVisit (kind : VisitKind) (d : List Byte) (s : State) : Visit :=
  { state := if s.tamper.door.isOpen then .doorOpen else .awaitingDoor, kind := kind,
    collector := codesAt d 3 2, opened := now s, value := 0, coins := 0,
    noted := [0, 0, 0, 0, 0, 0], left := false,
    timer := if s.tamper.door.isOpen then none else some (param (·.visitDoorS) s * 1000) }

theorem beginVisit_rest {kind : VisitKind} {d : List Byte} (hc : s.tamper.case.isOpen = false)
    (ha : (getChan .case s).state ≠ .active) :
    unposted (beginVisit kind d s) = unposted
        (letGo .door (visitTold (some kind) { s with visit := openedVisit kind d s }))
      ∧ grows s (beginVisit kind d s) := by
  have same : beginVisit kind d s = raise .record 24 [b8 (visitKindCode kind), byteAt d 3, byteAt d 4]
      (reportVisit (some kind) (updVisit (fun _ => openedVisit kind d s) s)) := rfl
  obtain ⟨hu, hg⟩ := reportVisit_rest (k := some kind)
    (s := updVisit (fun _ => openedVisit kind d s) s) (by simp [doorCond, visitTold])
    (by simp [caseCond, visitTold, updVisit, hc]) ha
  have posts : unposted (letGo .door (visitTold (some kind) (updVisit (fun _ => openedVisit kind d s) s)))
      = unposted (letGo .door (visitTold (some kind) { s with visit := openedVisit kind d s })) :=
    letGo_unposted .door rfl
  rw [same]
  refine ⟨?_, ?_⟩
  · rw [raise_unposted, hu, posts]
  · exact grows_from (grows_trans hg (grows_same (by rw [raise_gate]))) rfl

theorem collectorFault_none {d : List Byte} (h : ∀ x ∈ codesAt d 3 2, x ≤ 9) :
    collectorFault d = none := by
  have : (codesAt d 3 2).findIdx? (fun x => decide (9 < x)) = none := by
    rw [List.findIdx?_eq_none_iff]
    intro x hx
    have := h x hx
    simpa using this
  simp [collectorFault, this]

theorem openConds_met (hx : s.call.station = .idle) (hv : s.visit.state = .closed)
    (hm : visitPurse s.meter.purse = true) : firstUnmet (openConds s) = none := by
  simp [openConds, firstUnmet, hx, hv, hm]

/-! ### CLOSE VISIT (R174, R175) -/

/-- A visit's end reported where neither DOOR nor CASE is open or ACTIVE: its record and the report. -/
theorem endVisit_rest (lapsed : Bool) (hd : s.tamper.door.isOpen = false)
    (hc : s.tamper.case.isOpen = false) (hda : (getChan .door s).state ≠ .active)
    (hca : (getChan .case s).state ≠ .active) :
    endVisit lapsed s = visitTold none (closeVisitRecord lapsed s) := by
  have htamper : (closeVisitRecord lapsed s).tamper = s.tamper := by
    rw [closeVisitRecord, raise_tamper]
    rfl
  have hdoor : doorCond (visitTold none (closeVisitRecord lapsed s)).tamper = false := by
    simp [doorCond, visitTold, htamper, hd]
  have hcase : caseCond (visitTold none (closeVisitRecord lapsed s)).tamper = false := by
    simp [caseCond, visitTold, htamper, hc]
  have hchan : ∀ ch, getChan ch (visitTold none (closeVisitRecord lapsed s)) = getChan ch s := by
    intro ch
    rw [getChan, visitTold, htamper]
    rfl
  have door : judgeChan .door (doorCond (visitTold none (closeVisitRecord lapsed s)).tamper)
      (visitTold none (closeVisitRecord lapsed s)) = visitTold none (closeVisitRecord lapsed s) := by
    rw [hdoor]
    exact condEnds_still (by rw [hchan]; exact hda)
  have case : judgeChan .case (caseCond (visitTold none (closeVisitRecord lapsed s)).tamper)
      (visitTold none (closeVisitRecord lapsed s)) = visitTold none (closeVisitRecord lapsed s) := by
    rw [hcase]
    exact condEnds_still (by rw [hchan]; exact hca)
  have eq : endVisit lapsed s = judgeChan .case
      (caseCond (judgeChan .door (doorCond (visitTold none (closeVisitRecord lapsed s)).tamper)
        (visitTold none (closeVisitRecord lapsed s))).tamper)
      (judgeChan .door (doorCond (visitTold none (closeVisitRecord lapsed s)).tamper)
        (visitTold none (closeVisitRecord lapsed s))) := rfl
  rw [eq, door, case]

/-- A visit's record in the history, and the visit over (R175). -/
def visitClosed (lapsed : Bool) (s : State) : State :=
  { s with
    tally := { s.tally with
      history := (visitRecord s.visit lapsed (now s) :: s.tally.history).take 4,
      visits := inc16 s.tally.visits },
    visit := .none, tamper := { s.tamper with visitKind := none } }

theorem closeVisitRecord_rest (lapsed : Bool) (s : State) :
    unposted (visitTold none (closeVisitRecord lapsed s)) = unposted (visitClosed lapsed s)
      ∧ (visitTold none (closeVisitRecord lapsed s)).gate = s.gate := by
  have told : ∀ u v : State, unposted u = unposted v →
      unposted (visitTold none u) = unposted (visitTold none v) := fun u v h =>
    show unposted (visitTold none (unposted u)) = unposted (visitTold none (unposted v)) from
      congrArg (fun x => unposted (visitTold none x)) h
  constructor
  · exact (told _ _ (raise_unposted _ _ _ _)).trans rfl
  · exact raise_gate _ _ _ _

/-- Out with the box, a closed visit's box tallies are reset and the record says the box was away
(R174, R175). -/
theorem closeBoxOut_rest (s : State) : (closeBoxOut s).gate = s.gate ∧ (closeBoxOut s).tamper = s.tamper
    ∧ (closeBoxOut s).coin = s.coin ∧ (closeBoxOut s).mem = s.mem ∧ (closeBoxOut s).cal = s.cal
    ∧ (closeBoxOut s).meter = s.meter
    ∧ (closeBoxOut s).visit = { s.visit with left := s.visit.left || s.visit.state == .boxOut }
    ∧ (closeBoxOut s).tally.visits = s.tally.visits ∧ (closeBoxOut s).tally.history = s.tally.history
    ∧ (closeBoxOut s).tally.boxValue = (if s.visit.state = .boxOut then 0 else s.tally.boxValue)
    ∧ (closeBoxOut s).tally.boxCoins = (if s.visit.state = .boxOut then 0 else s.tally.boxCoins)
    ∧ (closeBoxOut s).tally.chargeTotal = (if s.visit.state = .boxOut then 0 else s.tally.chargeTotal)
    ∧ (closeBoxOut s).tally.forfeited = (if s.visit.state = .boxOut then 0 else s.tally.forfeited) := by
  unfold closeBoxOut
  by_cases h : s.visit.state = .boxOut
  · rw [if_pos h, if_pos h, if_pos h, if_pos h, if_pos h]
    refine ⟨rfl, rfl, rfl, rfl, rfl, rfl, ?_, rfl, rfl, rfl, rfl, rfl, rfl⟩
    simp [updVisit, boxTallyReset, h]
  · rw [if_neg h, if_neg h, if_neg h, if_neg h, if_neg h]
    refine ⟨rfl, rfl, rfl, rfl, rfl, rfl, ?_, rfl, rfl, rfl, rfl, rfl, rfl⟩
    have : (s.visit.state == VisitState.boxOut) = false := by simpa using h
    rw [this, Bool.or_false]

/-- The Tally but for what the judgments may write. -/
theorem tallyRest_of_steady (h : steady t = steady s) :
    { t.tally with forfeited := 0, bank := none, edition := 0 }
      = { s.tally with forfeited := 0, bank := none, edition := 0 } :=
  show (steady t).tally = (steady s).tally from congrArg State.tally h

/-! ### The forfeited total stands with no purse to be closed -/

theorem activate_forfeited (bank : Bank) (tb : Tables) (s : State) :
    (activate bank tb s).tally.forfeited = s.tally.forfeited := by
  have freed : ∀ u : State, u.tally = s.tally → (handBank (some bank) tb.edition
      (raise .tariff 21 (activeDetail bank tb.edition s.tariff.active) (reselectBand u))).tally.forfeited
        = s.tally.forfeited := by
    intro u hu
    simp [handBank, reselectBand, hu]
  refine freed _ ?_
  dsimp only
  split
  · split
    · rfl
    · next ob _ _ _ => cases ob <;> rfl
  · rfl

theorem judgeActivationClock_forfeited (s : State) :
    (judgeActivationClock s).tally.forfeited = s.tally.forfeited := by
  have active : (judgeActivation s).tally.forfeited = s.tally.forfeited := by
    unfold judgeActivation
    split
    · split
      · exact activate_forfeited _ _ _
      · rfl
    · rfl
    · rfl
  unfold judgeActivationClock
  dsimp only
  split
  · exact active
  · rw [tally_of_unposted (giveRewrite_unposted .clock _), active]

/-- No purse closes where there is none, so the money leaves the Tally. -/
theorem judgeMoney_absent (h : s.meter.purse.state = .absent) : (judgeMoney s).tally = s.tally := by
  have hook : settleOnHook s = s := by
    simp [settleOnHook, beginSettlement, h]
  have demand : judgeDemand s = setDemand .idle s := by
    unfold judgeDemand
    simp only [h]
  have lane : ∀ u : State, (startLane u).tally = u.tally := by
    intro u
    unfold startLane
    split
    · split
      · rfl
      · split
        · rfl
        · split
          · split <;> rfl
          · rfl
          · rfl
    · rfl
  unfold judgeMoney
  split
  · rw [lane, hook, demand]
    rfl
  · rfl

theorem judgeMode_tally (s : State) : (judgeMode s).tally = s.tally := by
  unfold judgeMode
  dsimp only
  split
  · rfl
  · rw [tally_of_unposted (raise_unposted _ _ _ _)]; rfl

/-- With no purse a step's end leaves the forfeited total. -/
theorem finish_forfeited (n : Nat) (h : s.meter.purse.state = .absent) :
    (finish n s).tally.forfeited = s.tally.forfeited := by
  rw [finish_tally]
  by_cases hr : s.sys.part = .running
  · have off : (settle s).tally = (atReport s).tally :=
      congrArg (fun x => x.2.2.1) (settle_offLine hr)
    rw [off, atReport, judgeMode_tally, judgeActivationClock_forfeited, judgeMoney_absent h]
  · rw [settle, if_neg hr]

end

/-- Settles O34. -/
theorem visitOrdersOpenAndClose : Obligations.VisitOrdersOpenAndClose := by
  refine ⟨fun s n d h hp hr hx hv => ⟨fun hm h1 h2 => ?_, fun hm hh h1 => ?_,
    fun hm hk kind hkind hcodes hcase hca => ?_⟩, fun s n d h hp hr => ⟨fun hv => ?_,
    fun hv hdo hco hda hca => ?_⟩⟩
  · have body : openOrder n d s = answer n .badParameter 2 s := by
      unfold openOrder
      rw [if_neg (fun hb => h1 hb.1), if_pos (by omega)]
    exact leadsWith_owner rfl h (openConds_met hx hv (by simp [visitPurse, hm])) body fun k =>
      finish_answer rfl hp hr k n .badParameter 2
  · have body : openOrder n d s = answer n .notNow (notNowDetail 2 s) s :=
      if_pos ⟨h1, by simp [purseOpen, hm]⟩
    have detail : notNowDetail 2 s = 2 := by rw [notNowDetail, hx]; rfl
    rw [detail] at body
    exact leadsWith_owner rfl h (openConds_met hx hv (by simp [visitPurse, hm, hh])) body fun k =>
      finish_answer rfl hp hr k n .notNow 2
  · obtain ⟨p, hprof⟩ := Option.ne_none_iff_exists'.mp hp
    have hkind' : visitKindOf (natAt d 2) = kind := by
      rw [hkind]
      obtain hk | hk := hk <;> rw [hk] <;> rfl
    have body : openOrder n d s = answer n .done 0 (beginVisit kind d s) := by
      unfold openOrder
      rw [if_neg (by simp [purseOpen, hm]), if_neg (by omega), collectorFault_none hcodes, hkind']
    obtain ⟨hu, hg⟩ := beginVisit_rest (kind := kind) (d := d) hcase hca
    generalize beginVisit kind d s = u at body hu hg
    have hprof' : u.gate.profile = some p :=
      (profile_of_unposted hu).trans (by rw [letGo_only]; exact hprof)
    refine leadsWith_owner rfl h (openConds_met hx hv (by simp [visitPurse, hm])) body fun k => ?_
    obtain ⟨hs, ha⟩ := finish_answer_inTurn hprof hg hprof' k n .done 0
    refine ⟨(hs.trans (steady_of_unposted (answering_unposted hu))).trans ?_, ha⟩
    unfold letGo
    have door : getChan .door (visitTold (some kind) { s with visit := openedVisit kind d s })
        = getChan .door s := rfl
    rw [door]
    split
    · rfl
    · rfl
  · exact leadsWith_owner rfl h rfl (if_pos hv) fun k => finish_answer rfl hp hr k n .unchanged 0
  · have body : closeOrder n d s = answer n .done 0 (endVisit false (closeBoxOut s)) := if_neg hv
    obtain ⟨ogate, otamper, ocoin, omem, ocal, ometer, ovisit, ovisits, ohist, ovalue, ocoins, ocharge,
      oforf⟩ := closeBoxOut_rest s
    rw [endVisit_rest false (by rw [otamper]; exact hdo) (by rw [otamper]; exact hco)
      (by rw [getChan, otamper]; exact hda) (by rw [getChan, otamper]; exact hca)] at body
    obtain ⟨eu, eg⟩ := closeVisitRecord_rest false (closeBoxOut s)
    generalize visitTold none (closeVisitRecord false (closeBoxOut s)) = e at body eu eg
    obtain ⟨t, ht, hs, ha, hf⟩ := leadsWith_owner (c := .closeVisit) (v := answering e)
      (P := fun t => answered n 1 0 s t ∧ (s.meter.purse.state = .absent →
        t.tally.forfeited = (closeBoxOut s).tally.forfeited)) rfl h rfl body fun k => by
        obtain ⟨hs, ha⟩ := finish_answer (eg.trans ogate) hp hr k n .done 0
        refine ⟨hs, ha, fun hm => ?_⟩
        have hx := (answer_unposted n .done 0 e).trans (answering_unposted eu)
        have hmeter : (answer n .done 0 e).meter = s.meter := (meter_of_unposted hx).trans ometer
        rw [finish_forfeited k (by rw [hmeter]; exact hm)]
        exact (congrArg Tally.forfeited (tally_of_unposted hx)).trans rfl
    have hsv : steady t = steady (answering (visitClosed false (closeBoxOut s))) :=
      hs.trans (steady_of_unposted (answering_unposted eu))
    have hvisit := visit_of_steady hsv
    have hrecord : visitRecord (closeBoxOut s).visit false (now (closeBoxOut s))
        = ⟨s.visit.kind, s.visit.left || s.visit.state == .boxOut, false, s.visit.collector,
          s.visit.opened, s.cal.time.short, s.visit.value, s.visit.coins⟩ := by
      rw [now, ocal, ovisit]
      rfl
    have htally := tallyRest_of_steady hsv
    refine ⟨t, ht, ha, congrArg Visit.state hvisit, congrArg Visit.timer hvisit,
      (congrArg Tamper.visitKind (tamperRest_of_steady hsv)).trans rfl,
      (tamper_of_steady hsv).trans ((congrArg Tamper.chans otamper : (closeBoxOut s).tamper.chans = _)), ?_, ?_,
      (congrArg Tally.boxValue htally).trans ovalue, (congrArg Tally.boxCoins htally).trans ocoins,
      (congrArg Tally.chargeTotal htally).trans ocharge, fun hm => (hf hm).trans oforf,
      (escrow_of_steady hsv).trans (congrArg Coin.escrow ocoin), (mem_of_steady hsv).trans omem⟩
    · exact (congrArg Tally.visits htally).trans (congrArg inc16 ovisits)
    · refine (congrArg Tally.history htally).trans ?_
      show (visitRecord _ _ _ :: _).take 4 = _
      rw [hrecord, ohist]

end Sys2Proof.Proofs

/-! RESTART accepted (R24, R26, R182). -/
namespace Sys2Proof.Proofs
open Sys2Proof.Machine Sys2Proof.Safety Sys2Proof.Laws

section
variable {s t u : State}

theorem announced_of_unposted (h : unposted t = unposted s) : t.ev.announced = s.ev.announced :=
  show (unposted t).ev.announced = (unposted s).ev.announced from congrArg (·.ev.announced) h
theorem orders_of_unposted (h : unposted t = unposted s) : t.orders = s.orders :=
  show (unposted t).orders = (unposted s).orders from congrArg State.orders h

/-- Outside RUNNING a step's end raises and writes no event. -/
theorem finish_still_ev (n : Nat) (h : s.sys.part ≠ .running) : (finish n s).ev = s.ev := by
  have hset : settle s = s := if_neg h
  have hpart : (judgeReasons s).sys.part ≠ .running := by
    rwa [sys_of_steady (judgeReasons_steady s)]
  have flushed : flushEvents (judgeReasons s) = judgeReasons s := if_neg hpart
  rw [finish_ev, hset, flushed, judgeReasons_ev]

/-! ### The other orders aborted (R26) -/

/-- One order aborted: its slot TAKEN and its outcome given. -/
def abortOne (s : State) (n : Fin 16) : State :=
  giveOutcome n .aborted (kindCode .soft) (setSlot n .taken s)

theorem abortOne_rest (s : State) (n : Fin 16) :
    unposted (abortOne s n) = unposted (setSlot n .taken s) := by
  unfold abortOne giveOutcome
  split
  · rfl
  · exact offer_unposted _ _ _

theorem withSlots_unposted (x : Vector SlotState 16) (h : unposted t = unposted s) :
    unposted { t with orders := { t.orders with slots := x } }
      = unposted { s with orders := { s.orders with slots := x } } :=
  show unposted { unposted t with orders := { (unposted t).orders with slots := x } }
      = unposted { unposted s with orders := { (unposted s).orders with slots := x } } from
    congrArg (fun u : State => unposted { u with orders := { u.orders with slots := x } }) h

/-- Each slot in the list is TAKEN, and nothing but slots and posts changes. -/
theorem aborts_rest (l : List (Fin 16)) (s : State) :
    unposted (l.foldl abortOne s)
        = unposted { s with orders := { s.orders with slots := (l.foldl abortOne s).orders.slots } }
      ∧ ∀ m : Fin 16, (l.foldl abortOne s).orders.slots[m]
          = if m ∈ l then .taken else s.orders.slots[m] := by
  induction l generalizing s with
  | nil => exact ⟨rfl, fun m => rfl⟩
  | cons n l ih =>
    obtain ⟨h, hs⟩ := ih (abortOne s n)
    have hone := abortOne_rest s n
    have slots : (abortOne s n).orders.slots = s.orders.slots.set n .taken :=
      congrArg Orders.slots (orders_of_unposted hone)
    refine ⟨?_, fun m => ?_⟩
    · refine h.trans ?_
      exact (withSlots_unposted ((n :: l).foldl abortOne s).orders.slots hone).trans rfl
    · refine (hs m).trans ?_
      rw [slots]
      by_cases hm : m = n
      · subst hm
        simp
      · have hne : (n : Nat) ≠ (m : Nat) := fun h => hm (Fin.ext h.symm)
        simp only [List.mem_cons, hm, false_or]
        split
        · rfl
        · simp [Fin.getElem_fin, hne]

/-- With room for them the outcome runs are appended in order (R26). -/
theorem aborts_queue {p : Profile} (l : List (Fin 16)) (s : State) (hp : s.gate.profile = some p)
    (hw : s.gate.waiters = []) (hq : s.gate.queue.length + l.length ≤ 16) :
    (l.foldl abortOne s).gate.queue = s.gate.queue ++ l.map (fun m => outcomeRun p m 8 4) := by
  induction l generalizing s with
  | nil => simp
  | cons n l ih =>
    have hone : abortOne s n = { setSlot n .taken s with gate := { s.gate with
        queue := s.gate.queue ++ [outcomeRun p n 8 4] } } := by
      have eq : abortOne s n = offer .orderUnit [outcomeRun p n 8 4] (setSlot n .taken s) := by
        have hp' : (setSlot n .taken s).gate.profile = some p := hp
        simp only [abortOne, giveOutcome, hp']
        rfl
      rw [eq, offer_room _ _ (setSlot n .taken s) hw]
      · rfl
      · exact Nat.le_trans (by simp only [List.length_cons] at hq ⊢; simp [setSlot]) hq
    have hgate : (abortOne s n).gate = { s.gate with queue := s.gate.queue ++ [outcomeRun p n 8 4] } := by
      rw [hone]
    rw [List.foldl_cons, ih (abortOne s n) (by rw [hgate]; exact hp) (by rw [hgate]; exact hw)
      (by rw [hgate]; simp only [List.length_append, List.length_cons, List.length_nil] at hq ⊢; omega),
      hgate]
    simp

/-! ### The acceptance (R182) -/

/-- The orders as a RESTART leaves them: the Order Queue empty, the unit idle, the others aborted. -/
def othersAborted (n : Fin 16) (s : State) : State :=
  (restartAborts n s).foldl abortOne
    { s with orders := { s.orders with queue := [], busy := none, data := none } }

theorem othersAborted_rest (n : Fin 16) (s : State) :
    unposted (othersAborted n s) = unposted { s with orders := { s.orders with
        queue := [], busy := none, data := none, slots := (othersAborted n s).orders.slots } }
      ∧ ∀ m : Fin 16, (othersAborted n s).orders.slots[m]
          = if m ∈ restartAborts n s then .taken else s.orders.slots[m] :=
  aborts_rest (restartAborts n s)
    { s with orders := { s.orders with queue := [], busy := none, data := none } }

theorem mem_restartAborts {m n : Fin 16} : m ∈ restartAborts n s
    ↔ m ≠ n ∧ (s.orders.slots[m] = .posted ∨ s.orders.slots[m] = .taken) := by
  simp [restartAborts]

/-- There is room for the outcome runs in an empty Post Queue. -/
theorem othersAborted_queue {p : Profile} (n : Fin 16) (hp : s.gate.profile = some p)
    (hw : s.gate.waiters = []) (hq : s.gate.queue = []) :
    (othersAborted n s).gate.queue = (restartAborts n s).map (fun m => outcomeRun p m 8 4) := by
  have few : (restartAborts n s).length ≤ 16 :=
    Nat.le_trans (List.length_filter_le _ _) (by simp)
  have := aborts_queue (restartAborts n s)
    { s with orders := { s.orders with queue := [], busy := none, data := none } } hp hw
    (by simpa [hq] using few)
  rw [hq, List.nil_append] at this
  exact this

/-- The blocks as their reset tables have them at the acceptance of a RESTART (R182), once the others are
aborted in `u`. -/
def blocksReset (own : Deferred) (s u : State) : State :=
  { u with
    sys := { u.sys with
      part := .starting, kind := .soft, accepted := false, stage := .anchor, tallyReset := false,
      imageTaken := false, tallyMarker := false, imageBank := none, keptBank := activeBank s,
      restart := some own, waitRestart := true, powerLost := none, heldRefused := 0 },
    gate := { u.gate with
      guardA := activeBank s == some .a, guardB := activeBank s == some .b,
      waiters := u.gate.waiters.filter (fun w => w.who != .tariffUnit) },
    ev := { u.ev with seq := 0, guardFlag := false, announced := false, attn := false },
    cal := { u.cal with band := 0 },
    img := { u.img with
      clock := u.img.clock.closed, tamper := u.img.tamper.closed, liveDirty := true,
      tallyDirty := true },
    tariff := { active := none, swap := .idle, startLoad := none, buf := [] },
    coin := softCoin u.coin,
    meter := .reset,
    call := { CallCtl.reset with hook := u.call.hook, ordered := u.call.ordered },
    line := .reset,
    tamper := softTamper u.tamper,
    report := .reset }

theorem softReset_eq (own : Deferred) (s : State) :
    softReset own s = blocksReset own s (othersAborted own.slot s) := rfl

theorem blocksReset_unposted (own : Deferred) (s : State) (h : unposted t = unposted u) :
    unposted (blocksReset own s t) = unposted (blocksReset own s u) :=
  show unposted (blocksReset own s (unposted t)) = unposted (blocksReset own s (unposted u)) from
    congrArg (fun x => unposted (blocksReset own s x)) h

/-- What a step that ends in the acceptance of a RESTART leaves: the reset blocks, with closing reasons of
their own, and the Event Unit as reset. -/
theorem finish_softReset (k : Nat) (own : Deferred) (s : State) :
    (∃ r, unposted (finish k (softReset own s)) = unposted (withReasons r (blocksReset own s
        { s with orders := { s.orders with
          queue := [], busy := none, data := none,
          slots := (othersAborted own.slot s).orders.slots } })))
      ∧ (finish k (softReset own s)).ev.seq = 0 ∧ (finish k (softReset own s)).ev.guardFlag = false
      ∧ grows (othersAborted own.slot s) (finish k (softReset own s)) := by
  have part : (softReset own s).sys.part ≠ .running := by
    rw [softReset_eq]
    simp [blocksReset]
  obtain ⟨r, hr⟩ := finish_still k part
  have hev := finish_still_ev k part
  have grown := finish_grows k (softReset own s)
  rw [softReset_eq] at hr hev grown ⊢
  refine ⟨⟨r, hr.trans ?_⟩, by rw [hev]; rfl, by rw [hev]; rfl, grows_from grown rfl⟩
  have blocks := blocksReset_unposted own s (othersAborted_rest own.slot s).1
  exact show unposted (withReasons r (unposted (blocksReset own s (othersAborted own.slot s))))
    = unposted (withReasons r (unposted (blocksReset own s _))) from
    congrArg (fun x => unposted (withReasons r x)) blocks

theorem lane_cut (c : Coin) : (softCoin c).lane
    = if c.lane = .toBox ∨ c.lane = .toReturn then .clear else c.lane := by
  cases h : c.lane <;> simp [softCoin, inFlight, h]

theorem marker_cut (c : Coin) : (softCoin c).uncertain
    = (c.uncertain || c.lane == .toBox || c.lane == .toReturn || !c.passages.isEmpty) := by
  cases h : c.lane <;> simp [softCoin, inFlight, h, Bool.or_assoc]

end

/-- Settles O39: the row's conditions are met, the others are aborted in ascending order, and each block
takes its reset table's state. -/
theorem restartIsAccepted : Obligations.RestartIsAccepted := by
  intro s n d h hx hm hv hc
  have met : firstUnmet (restartConds s) = none := by
    simp [restartConds, firstUnmet, hx, purseOpen, hm, hv, hc]
  obtain ⟨-, hslots⟩ := othersAborted_rest n s
  obtain ⟨⟨r, hu⟩, hseq, hflag, hgrow⟩ := finish_softReset (waiting (softReset ⟨n, byteAt d 1⟩ s))
    ⟨n, byteAt d 1⟩ s
  have carried := carryOut_owner (owner := restartOrder) h met
  refine ⟨finish (waiting (softReset ⟨n, byteAt d 1⟩ s)) (softReset ⟨n, byteAt d 1⟩ s),
    congrArg Host.Outcome.next carried, ?_⟩
  clear carried
  generalize finish (waiting (softReset ⟨n, byteAt d 1⟩ s)) (softReset ⟨n, byteAt d 1⟩ s) = t
    at hu hseq hflag hgrow ⊢
  have hsys := sys_of_unposted hu
  have horders := orders_of_unposted hu
  have hcal := cal_of_unposted hu
  have hcoin := coin_of_reasons hu
  have hcall := call_of_reasons hu
  have htamper := tamper_of_reasons hu
  have slots : ∀ m : Fin 16, t.orders.slots[m]
      = if m ∈ restartAborts n s then .taken else s.orders.slots[m] := by
    intro m
    rw [horders]
    exact hslots m
  refine ⟨congrArg Sys.part hsys, congrArg Sys.kind hsys, congrArg Sys.waitRestart hsys,
    congrArg Sys.restart hsys, congrArg Orders.queue horders, congrArg Orders.busy horders,
    (profile_of_unposted hu).trans rfl, guardA_of_reasons hu, guardB_of_reasons hu, hseq, hflag,
    (attn_of_unposted hu).trans rfl, (announced_of_unposted hu).trans rfl,
    (congrArg Calendar.time hcal).trans rfl, (congrArg Calendar.valid hcal).trans rfl,
    congrArg Calendar.band hcal, congrArg Tariff.active (tariff_of_reasons hu),
    congrArg Tariff.swap (tariff_of_reasons hu), (congrArg Coin.escrow hcoin).trans rfl,
    (congrArg Coin.arrival hcoin).trans rfl, (congrArg Coin.passages hcoin).trans rfl, fun hl => ?_,
    (congrArg Coin.inhibits hcoin).trans rfl, (congrArg Coin.started hcoin).trans rfl,
    (congrArg Coin.request hcoin).trans rfl, (congrArg Coin.dropTimer hcoin).trans rfl,
    (congrArg Coin.lane hcoin).trans (lane_cut s.coin),
    (congrArg Coin.uncertain hcoin).trans (marker_cut s.coin), ?_, fun m hmn hp ht => ?_,
    fun m hmn hpt => ?_, fun p hp hw hq => ?_, congrArg (·.purse.state) (meter_of_reasons hu),
    congrArg Meter.metered (meter_of_reasons hu), congrArg CallCtl.station hcall,
    congrArg CallCtl.mode hcall, (congrArg CallCtl.hook hcall).trans rfl, (congrArg CallCtl.ordered hcall).trans rfl,
    congrArg CallCtl.claim hcall, congrArg Line.state (line_of_reasons hu),
    congrArg Line.seize (line_of_reasons hu), (congrArg Tamper.chans htamper).trans rfl,
    congrArg Tamper.force htamper, congrArg Report.queue (report_of_reasons hu),
    congrArg Report.phase (report_of_reasons hu), (tally_of_reasons hu).trans rfl,
    (mem_of_unposted hu).trans rfl⟩
  · have pos : (softCoin s.coin).gatePos = .hold := if_neg hl
    exact (congrArg Coin.gatePos hcoin).trans pos
  · rw [slots, if_neg (by simp [mem_restartAborts])]
  · rw [slots, if_neg fun hma => (mem_restartAborts.mp hma).2.elim hp ht]
  · rw [slots, if_pos (mem_restartAborts.mpr ⟨hmn, hpt⟩)]
  · have := othersAborted_queue n hp hw hq
    rw [grows, this] at hgrow
    exact hgrow

end Sys2Proof.Proofs

/-! The end of a tamper condition (R136 to R143), input levels and their periods (R78, R89, R110 to R113, R137,
R142), and the objects at the entry (R68 to R71, R140). -/
namespace Sys2Proof.Proofs
open Sys2Proof.Machine Sys2Proof.Safety Sys2Proof.Laws

section
variable {s t u : State}

theorem condEnds_steady (ch : Channel) (s : State) : steady (condEnds ch s) = steady (letGo ch s) :=
  steady_of_unposted (condEnds_rest ch s).1

theorem inRunning_eq (f : State → State) (h : s.sys.part = .running) : inRunning f s = stepWith f s :=
  if_pos h

/-- A command that ends the condition of `ch` in the state `u`. -/
theorem leads_condEnds {c : Instr} {f : State → State} {ch : Channel}
    (he : exec c s = .next (stepWith f s)) (hf : steady (f s) = steady (condEnds ch u))
    (hch : getChan ch u = getChan ch s) :
    ((getChan ch s).state = .active →
        leads c s (setChan ch { getChan ch s with state := .latched } u))
      ∧ ((getChan ch s).state ≠ .active → leads c s u) := by
  rw [condEnds_steady] at hf
  refine ⟨fun ha => leads_stepWith he (hf.trans ?_), fun ha => leads_stepWith he (hf.trans ?_)⟩
  · rw [letGo, hch, if_pos ha]
  · rw [letGo, hch, if_neg ha]

/-- A command that acts in RUNNING once its timer is due. -/
theorem dueStep {f : State → State} {d : Bool} (hr : s.sys.part = .running) (hd : d = true) :
    (if d = true then Host.Outcome.next (inRunning f s)
      else .next s : Host.Outcome State Fault Refusal) = .next (stepWith f s) := by
  rw [if_pos hd, inRunning_eq f hr]

/-- A closed door leaves every visit but one at DOOR OPEN. -/
theorem visitDoor_closed (h : s.visit.state ≠ .doorOpen) : visitDoor false s = s := by
  unfold visitDoor
  split
  · next h => cases h
  · next h' _ => exact absurd h' h
  · rfl

end

/-- Settles O57: each command ends its channel's condition. -/
theorem conditionsEndInLatched : Obligations.ConditionsEndInLatched := by
  intro s hr ch c u h
  obtain ⟨rfl, rfl, hpin, hdue, hv, rfl⟩ | ⟨rfl, rfl, hpin, hdue, rfl⟩ | ⟨rfl, rfl, hpin, hdue, rfl⟩
    | ⟨rfl, rfl, hdue, rfl⟩ | ⟨rfl, rfl, hdue, rfl⟩ | ⟨rfl, rfl, hdue, rfl⟩ | ⟨rfl, rfl, hdue, rfl⟩ := h
  · refine leads_condEnds (f := debouncedBody .door) (dueStep hr hdue) ?_ rfl
    have judged : judgeChan .door (housingCond .door
          (updTamper (setDebouncer .door ⟨false, none⟩) s).tamper)
        (updTamper (setDebouncer .door ⟨false, none⟩) s)
        = condEnds .door (updTamper (setDebouncer .door ⟨false, none⟩) s) := rfl
    have visit : (condEnds .door (updTamper (setDebouncer .door ⟨false, none⟩) s)).visit = s.visit := by
      rw [visit_of_steady (condEnds_steady .door _), letGo_only]
      rfl
    unfold debouncedBody
    dsimp only [pinOf]
    rw [hpin, if_pos rfl]
    dsimp only [channelAt]
    rw [judged, visitDoor_closed (by rw [visit]; exact hv)]
    rfl
  · refine leads_condEnds (f := debouncedBody .case) (dueStep hr hdue) ?_ rfl
    unfold debouncedBody
    dsimp only [pinOf]
    rw [hpin]
    rfl
  · refine leads_condEnds (f := debouncedBody .cord) (dueStep hr hdue) ?_ rfl
    unfold debouncedBody
    dsimp only [pinOf]
    rw [hpin]
    rfl
  · exact leads_condEnds (dueStep hr hdue) rfl rfl
  · exact leads_condEnds (dueStep hr hdue) rfl rfl
  · exact leads_condEnds (dueStep hr hdue) rfl rfl
  · exact leads_condEnds (dueStep hr hdue) (giveRewrite_steady .tamper _) rfl

end Sys2Proof.Proofs

/-! What the report claim and the digit sender make of a station at rest (R96, R100, R107, R108), the periods
that input levels start, and the filtered hook. -/
namespace Sys2Proof.Proofs
open Sys2Proof.Machine Sys2Proof.Safety Sys2Proof.Laws

section
variable {s t u : State}

/-! ### The report claim with nothing to grant (R107, R108) -/

/-- A state with another report claim. -/
def withClaim (c : Option Nat) (s : State) : State :=
  { s with call := { s.call with reportClaim := c } }

theorem judgeReport_ungranted (h : ∀ sev, claimWanted s = some sev → mayGrant sev s = false) :
    judgeReport s = withClaim (claimWanted s) s := by
  unfold judgeReport
  dsimp only
  split
  · next hw => rw [hw]; rfl
  · next sev hw =>
    have hg : mayGrant sev { s with call := { s.call with reportClaim := claimWanted s } } = false :=
      h sev hw
    rw [if_neg (by rw [hg]; simp)]
    rfl

/-- No claim is raised with no attempt due. -/
theorem judgeReport_noReport (h : noReport s) : judgeReport s = withClaim none s := by
  have hw : claimWanted s = none := by simp [claimWanted, h.1]
  rw [judgeReport_ungranted (by simp [hw]), hw]

/-- No claim is granted in a station other than IDLE and READY. -/
theorem judgeReport_away (h : s.call.station ≠ .idle) (h' : s.call.station ≠ .ready) :
    judgeReport s = withClaim (claimWanted s) s := by
  refine judgeReport_ungranted fun sev _ => ?_
  simp [mayGrant, h, h']

/-! ### The digit sender with nothing to send (R96, R97, R100) -/

theorem judgeGate_still (h : s.call.station ≠ .creditWait) : judgeGate s = s := by
  unfold judgeGate
  split
  · rfl
  · exact if_neg fun hc => h hc.1

theorem offerDigit_still (h : s.call.station ≠ .dialling) (h1 : s.call.station ≠ .talking)
    (h2 : s.call.station ≠ .talkingIn) : offerDigit s = s := by
  unfold offerDigit
  split
  · rw [if_neg (by simp [mayDial, h]), if_neg (by simp [mayTone, h1, h2])]
  · rfl

theorem offerDigit_nothing (h : s.call.dialQueue = []) : offerDigit s = s := by
  unfold offerDigit
  rw [h]
  split
  · next heq => cases heq
  · rfl

theorem offerDigit_busy (h : s.line.sender ≠ none) : offerDigit s = s := by
  have busy : idleSender s = false := by simpa [idleSender, Option.ne_none_iff_isSome] using h
  unfold offerDigit
  split
  · rw [if_neg (by simp [mayDial, busy]), if_neg (by simp [mayTone, busy])]
  · rfl

theorem judgeRingback_still (h : s.call.station ≠ .dialling) : judgeRingback s = s := by
  unfold judgeRingback
  split
  · exact if_neg (by simp [numberSent, h])
  · rfl

/-- A state with the inter-digit timer stopped. -/
def withoutInterDigit (s : State) : State := { s with call := { s.call with interDigit := none } }

theorem judgeInterDigit_still (h : s.call.station ≠ .dialling) :
    judgeInterDigit s = withoutInterDigit s := by
  have hw : awaitsDigit s = false := by
    unfold awaitsDigit
    split
    · simp [h]
    · rfl
  unfold judgeInterDigit
  rw [if_neg (by simp [hw])]
  rfl

theorem offerReport_still (h : s.report.phase ≠ .dialling) (h' : s.report.phase ≠ .sending) :
    offerReport s = s := by
  unfold offerReport
  split
  · split
    · contradiction
    · contradiction
    all_goals rfl
  · rfl

/-- A station that takes no digits sends none. -/
theorem judgeSender_atRest (h : s.call.station ≠ .creditWait) (h1 : s.call.station ≠ .dialling)
    (h2 : s.call.station ≠ .talking) (h3 : s.call.station ≠ .talkingIn)
    (hp : s.report.phase ≠ .dialling) (hp' : s.report.phase ≠ .sending) :
    judgeSender s = withoutInterDigit s := by
  rw [judgeSender, judgeGate_still h, offerDigit_still h1 h2 h3, judgeRingback_still h1,
    judgeInterDigit_still h1]
  exact offerReport_still hp hp'

/-- In conversation with nothing to send, or with the sender busy, nothing is sent. -/
theorem judgeSender_talking (h : s.call.station = .talking ∨ s.call.station = .talkingIn)
    (hq : s.call.dialQueue = [] ∨ s.line.sender ≠ none)
    (hp : s.report.phase ≠ .dialling) (hp' : s.report.phase ≠ .sending) :
    judgeSender s = withoutInterDigit s := by
  have hc : s.call.station ≠ .creditWait := by obtain h | h := h <;> simp [h]
  have hd : s.call.station ≠ .dialling := by obtain h | h := h <;> simp [h]
  have offered : offerDigit s = s := hq.elim offerDigit_nothing offerDigit_busy
  rw [judgeSender, judgeGate_still hc, offered, judgeRingback_still hd, judgeInterDigit_still hd]
  exact offerReport_still hp hp'

/-! ### A step's end at a station at rest -/

theorem atReport_noReport (h : noReport s) : noReport (atReport s) := by
  have := report_of_unjudged (atReport_unjudged s)
  simpa only [noReport, this] using h

theorem atReport_station (s : State) : (atReport s).call.station = s.call.station :=
  (congrArg CallCtl.station (call_of_unjudged (atReport_unjudged s))).trans rfl

/-- What the last two judgments leave of the call, the line and the report at a station that takes no
digits, with no report. -/
structure AtRest (s : State) : Prop where
  running : s.sys.part = .running
  report : noReport s
  station : s.call.station ≠ .creditWait ∧ s.call.station ≠ .dialling ∧ s.call.station ≠ .talking
    ∧ s.call.station ≠ .talkingIn

theorem settle_atRest (h : AtRest s) :
    settle s = withoutInterDigit (withClaim none (atReport s)) := by
  obtain ⟨hr, hn, h1, h2, h3, h4⟩ := h
  have hst := atReport_station s
  have hn' := atReport_noReport hn
  rw [settle_eq hr, judgeReport_noReport hn']
  refine judgeSender_atRest ?_ ?_ ?_ ?_ ?_ ?_
  · exact hst ▸ h1
  · exact hst ▸ h2
  · exact hst ▸ h3
  · exact hst ▸ h4
  · exact fun h => nomatch hn'.2.symm.trans h
  · exact fun h => nomatch hn'.2.symm.trans h

theorem rest_of_unjudged (h : unjudged u = unjudged s) :
    (withoutInterDigit (withClaim none u)).line = s.line
      ∧ (withoutInterDigit (withClaim none u)).tamper = s.tamper
      ∧ (withoutInterDigit (withClaim none u)).report = s.report
      ∧ (withoutInterDigit (withClaim none u)).call = { s.call with
          mode := (withoutInterDigit (withClaim none u)).call.mode, reportClaim := none,
          interDigit := none } := by
  have line := line_of_unjudged h
  have tamper := tamper_of_unjudged h
  have report := report_of_unjudged h
  have call := congrArg
    (fun c : CallCtl => { c with mode := u.call.mode, reportClaim := none, interDigit := none })
    (call_of_unjudged h)
  exact ⟨line, tamper, report, call⟩

/-- At rest a step's end leaves the line, the Tamper Monitor and the report, and of the call all but the
mode, the report claim and the inter-digit timer. -/
theorem finish_atRest (n : Nat) (h : AtRest s) : (finish n s).line = s.line
    ∧ (finish n s).tamper = s.tamper ∧ (finish n s).report = s.report
    ∧ (finish n s).call = { s.call with
        mode := (finish n s).call.mode, reportClaim := none, interDigit := none } := by
  rw [finish_line, finish_tamper, finish_report, finish_call, settle_atRest h]
  exact rest_of_unjudged (atReport_unjudged s)

/-! ### The station and the line beyond a station at rest -/

theorem judgeSender_station (h : s.call.station ≠ .creditWait) (h1 : s.call.station ≠ .dialling) :
    (judgeSender s).call.station = s.call.station := by
  have digit : ∀ (p : Bool) (d : Nat) (v : State), (startDigit p d v).call = v.call := by
    intro p d v
    unfold startDigit
    split
    · rfl
    · split <;> rfl
  have offered : (offerDigit s).call.station = s.call.station := by
    unfold offerDigit
    split
    · split
      · rw [digit]
      · split
        · rw [digit]
        · rfl
    · rfl
  have h1' : (offerDigit s).call.station ≠ .dialling := by rwa [offered]
  have report : ∀ v : State, (offerReport v).call = v.call := by
    intro v
    unfold offerReport
    split
    · split
      · split
        · exact digit _ _ _
        · rfl
      · split
        · exact digit _ _ _
        · rfl
      all_goals rfl
    · rfl
  rw [judgeSender, report, judgeGate_still h, judgeRingback_still h1', judgeInterDigit_still h1']
  exact offered

/-- Away from IDLE, READY and the stations that take digits a step's end leaves the station. -/
theorem finish_station (n : Nat) (hr : s.sys.part = .running) (h : s.call.station ≠ .idle)
    (h1 : s.call.station ≠ .ready) (h2 : s.call.station ≠ .creditWait)
    (h3 : s.call.station ≠ .dialling) : (finish n s).call.station = s.call.station := by
  have hst := atReport_station s
  rw [finish_call, settle_eq hr, judgeReport_away (by rwa [hst]) (by rwa [hst]),
    judgeSender_station (s := withClaim _ (atReport s)) (by show (atReport s).call.station ≠ _; rwa [hst])
      (by show (atReport s).call.station ≠ _; rwa [hst])]
  exact hst

/-! ### The loss timer and the line voltage loss timer through a step's end -/

/-- With nothing to dial and no report call the sender leaves the loss timer (R111). -/
theorem judgeSender_loss (hq : s.call.dialQueue = []) (hp : s.report.phase = .noCall) :
    (judgeSender s).line.loss = s.line.loss := by
  have gate : (judgeGate s).line = s.line ∧ (judgeGate s).call.dialQueue = s.call.dialQueue
      ∧ (judgeGate s).report = s.report := by
    unfold judgeGate
    split
    · exact ⟨rfl, rfl, rfl⟩
    · split <;> exact ⟨rfl, rfl, rfl⟩
  have ringback : ∀ v : State, (judgeRingback v).line.loss = v.line.loss
      ∧ (judgeRingback v).report = v.report := by
    intro v
    unfold judgeRingback
    split
    · split <;> exact ⟨rfl, rfl⟩
    · exact ⟨rfl, rfl⟩
  have inter : ∀ v : State, (judgeInterDigit v).line = v.line ∧ (judgeInterDigit v).report = v.report := by
    intro v
    unfold judgeInterDigit
    split
    · split <;> exact ⟨rfl, rfl⟩
    · exact ⟨rfl, rfl⟩
  obtain ⟨gl, gq, gr⟩ := gate
  have phase : (judgeInterDigit (judgeRingback (judgeGate s))).report.phase = .noCall := by
    rw [(inter _).2, (ringback _).2, gr, hp]
  rw [judgeSender, offerDigit_nothing (gq.trans hq), offerReport_still (by simp [phase]) (by simp [phase]),
    (inter _).1, (ringback _).1, gl]

/-- A step's end leaves the loss timer where nothing is to be dialled. -/
theorem finish_loss (n : Nat) (hr : s.sys.part = .running) (hn : noReport s)
    (hq : s.call.dialQueue = []) : (finish n s).line.loss = s.line.loss := by
  have hu := atReport_unjudged s
  have queue : (atReport s).call.dialQueue = [] :=
    (congrArg CallCtl.dialQueue (call_of_unjudged hu)).trans hq
  have hn' := atReport_noReport hn
  rw [finish_line, settle_eq hr, judgeReport_noReport hn',
    judgeSender_loss (s := withClaim none (atReport s)) queue hn'.2]
  have line := congrArg Line.loss (line_of_unjudged hu)
  exact line

/-- With no report call the sender stops the line voltage loss timer only where it leaves SENDING, at which
the timer does not run (R142). -/
theorem judgeSender_lossTimer (hp : s.report.phase = .noCall)
    (h : s.line.state ≠ .released → s.tamper.lossTimer = none) :
    (judgeSender s).tamper.lossTimer = s.tamper.lossTimer := by
  have digit : ∀ (p : Bool) (d : Nat) (v : State), (startDigit p d v).tamper = v.tamper
      ∧ (startDigit p d v).line.state = v.line.state ∧ (startDigit p d v).report = v.report := by
    intro p d v
    unfold startDigit
    split
    · exact ⟨rfl, rfl, rfl⟩
    · split <;> exact ⟨rfl, rfl, rfl⟩
  have gate : (judgeGate s).tamper = s.tamper ∧ (judgeGate s).line.state = s.line.state
      ∧ (judgeGate s).report = s.report := by
    unfold judgeGate
    split
    · exact ⟨rfl, rfl, rfl⟩
    · split <;> exact ⟨rfl, rfl, rfl⟩
  have offered : ∀ v : State, (offerDigit v).tamper = v.tamper
      ∧ (offerDigit v).line.state = v.line.state ∧ (offerDigit v).report = v.report := by
    intro v
    unfold offerDigit
    split
    · split
      · exact digit _ _ _
      · split
        · exact digit _ _ _
        · exact ⟨rfl, rfl, rfl⟩
    · exact ⟨rfl, rfl, rfl⟩
  have ringback : ∀ v : State, (v.line.state ≠ .released → v.tamper.lossTimer = none) →
      (judgeRingback v).tamper.lossTimer = v.tamper.lossTimer ∧ (judgeRingback v).report = v.report := by
    intro v hv
    unfold judgeRingback
    split
    · split
      · next hsent =>
        have hstate : v.line.state = .sending := by
          simp only [numberSent, Bool.and_eq_true, beq_iff_eq] at hsent
          exact hsent.1.1.1.1.2
        exact ⟨(hv (by simp [hstate])).symm, rfl⟩
      · exact ⟨rfl, rfl⟩
    · exact ⟨rfl, rfl⟩
  have inter : ∀ v : State, (judgeInterDigit v).tamper = v.tamper
      ∧ (judgeInterDigit v).report = v.report := by
    intro v
    unfold judgeInterDigit
    split
    · split <;> exact ⟨rfl, rfl⟩
    · exact ⟨rfl, rfl⟩
  obtain ⟨gt, gl, gr⟩ := gate
  obtain ⟨ot, ol, or_⟩ := offered (judgeGate s)
  obtain ⟨rt, rr⟩ := ringback (offerDigit (judgeGate s)) (by rw [ol, gl, ot, gt]; exact h)
  have phase : (judgeInterDigit (judgeRingback (offerDigit (judgeGate s)))).report.phase = .noCall := by
    rw [(inter _).2, rr, or_, gr, hp]
  rw [judgeSender, offerReport_still (by simp [phase]) (by simp [phase]), (inter _).1, rt, ot, gt]

theorem finish_lossTimer (n : Nat) (hr : s.sys.part = .running) (hn : noReport s)
    (h : s.line.state ≠ .released → s.tamper.lossTimer = none) :
    (finish n s).tamper.lossTimer = s.tamper.lossTimer := by
  have hu := atReport_unjudged s
  have hn' := atReport_noReport hn
  have hline := line_of_unjudged hu
  have htamper := tamper_of_unjudged hu
  rw [finish_tamper, settle_eq hr, judgeReport_noReport hn',
    judgeSender_lossTimer (s := withClaim none (atReport s)) hn'.2 (by
      show (atReport s).line.state ≠ _ → (atReport s).tamper.lossTimer = none
      rw [hline, htamper]
      exact h)]
  exact congrArg Tamper.lossTimer htamper

/-! ### The commands of the input levels -/

/-- A change of an input level is taken in RUNNING. -/
theorem levelStep {same : Prop} [Decidable same] {f : State → State} (h : ¬ same)
    (hr : t.sys.part = .running) :
    (if same then Host.Outcome.next s else .next (inRunning f t) : Host.Outcome State Fault Refusal)
      = .next (stepWith f t) := by
  rw [if_neg h, inRunning_eq f hr]

theorem loss_stepWith {f : State → State} (hr : (f t).sys.part = .running) (hn : noReport (f t))
    (hq : (f t).call.dialQueue = []) : (stepWith f t).line.loss = (f t).line.loss :=
  finish_loss _ hr hn hq

theorem lossTimer_stepWith {f : State → State} (hr : (f t).sys.part = .running) (hn : noReport (f t))
    (h : (f t).line.state ≠ .released → (f t).tamper.lossTimer = none) :
    (stepWith f t).tamper.lossTimer = (f t).tamper.lossTimer :=
  finish_lossTimer _ hr hn h

/-- A level change whose step leads to `u`. -/
theorem leads_level {c : Instr} {same : Prop} [Decidable same] {f : State → State}
    (he : exec c s = if same then .next s else .next (inRunning f t)) (h : ¬ same)
    (hr : t.sys.part = .running) (hf : steady (f t) = steady u) : leads c s u :=
  ⟨stepWith f t, he.trans (levelStep h hr), (finish_steady _ _).trans hf⟩

theorem leadsWith_level {c : Instr} {same : Prop} [Decidable same] {f : State → State}
    {P : State → Prop} (he : exec c s = if same then .next s else .next (inRunning f t)) (h : ¬ same)
    (hr : t.sys.part = .running) (hf : steady (f t) = steady u) (hP : P (stepWith f t)) :
    leadsWith c s u P :=
  ⟨stepWith f t, he.trans (levelStep h hr), (finish_steady _ _).trans hf, hP⟩

/-! ### What the money's judgments leave of the metering (R126 to R131) -/

/-- The Metering Unit but for its purse and its standing request. -/
def metering (m : Meter) : Meter := { m with purse := Purse.none, demand := .idle }

theorem metering_raise (b : Block) (code : Nat) (d : List Byte) (s : State) :
    (raise b code d s).meter = s.meter := (raise_beside b code d s).2.2

/-- What a hold leaves: a purse not OPEN stays so. -/
theorem setHold_meter (c : HoldCause) (s : State) : metering (setHold c s).meter = metering s.meter
    ∧ (s.meter.purse.state ≠ .opened → (setHold c s).meter.purse.state ≠ .opened) := by
  unfold setHold
  dsimp only
  split
  · split
    · exact ⟨rfl, fun _ h => nomatch h⟩
    · exact ⟨rfl, id⟩
  · split
    · split
      · exact ⟨rfl, id⟩
      · exact ⟨rfl, id⟩
    · rw [metering_raise]
      exact ⟨rfl, fun _ h => nomatch h⟩

theorem closePurse_meter (s : State) : metering (closePurse s).meter = metering s.meter
    ∧ (closePurse s).meter.purse.state ≠ .opened := by
  unfold closePurse
  dsimp only
  rw [setDemand, setPurse]
  dsimp only [touchLive, markLate]
  rw [metering_raise]
  exact ⟨rfl, fun h => nomatch h⟩

theorem judgeDemand_meter (s : State) : metering (judgeDemand s).meter = metering s.meter
    ∧ (s.meter.purse.state ≠ .opened → (judgeDemand s).meter.purse.state ≠ .opened) := by
  have settles : metering (if requestInFlight s.coin = true then s
        else if (s.coin.escrow.isEmpty && !inFlight s.coin.lane) = true then closePurse s
        else setHold (holdCauseOf (settleDemand s) s) (setDemand (settleDemand s) s)).meter
          = metering s.meter
      ∧ (s.meter.purse.state ≠ .opened → (if requestInFlight s.coin = true then s
        else if (s.coin.escrow.isEmpty && !inFlight s.coin.lane) = true then closePurse s
        else setHold (holdCauseOf (settleDemand s) s)
          (setDemand (settleDemand s) s)).meter.purse.state ≠ .opened) := by
    split
    · exact ⟨rfl, id⟩
    · split
      · exact ⟨(closePurse_meter s).1, fun _ => (closePurse_meter s).2⟩
      · exact setHold_meter _ (setDemand (settleDemand s) s)
  unfold judgeDemand
  split
  · exact ⟨rfl, id⟩
  · next h => split <;> exact ⟨rfl, fun h' => absurd h h'⟩
  · exact settles
  · exact settles

theorem startLane_meter (s : State) : metering (startLane s).meter = metering s.meter
    ∧ (startLane s).meter.purse = s.meter.purse := by
  refine ⟨?_, (startLane_beside s).2⟩
  unfold startLane
  split
  · split
    · rfl
    · split
      · rfl
      · split
        · split <;> rfl
        · rfl
        · rfl
  · rfl

theorem settleOnHook_meter (s : State) : metering (settleOnHook s).meter = metering s.meter
    ∧ (s.meter.purse.state ≠ .opened → (settleOnHook s).meter.purse.state ≠ .opened) := by
  unfold settleOnHook beginSettlement
  split
  · split
    · exact ⟨rfl, fun _ h => nomatch h⟩
    · exact ⟨rfl, id⟩
  · exact ⟨rfl, id⟩

/-- The money's judgments leave the metering, and no purse becomes OPEN. -/
theorem judgeMoney_meter (s : State) : metering (judgeMoney s).meter = metering s.meter
    ∧ (s.meter.purse.state ≠ .opened → (judgeMoney s).meter.purse.state ≠ .opened) := by
  unfold judgeMoney
  split
  · obtain ⟨h1, c1⟩ := settleOnHook_meter s
    obtain ⟨h2, c2⟩ := judgeDemand_meter (settleOnHook s)
    obtain ⟨h3, c3⟩ := startLane_meter (judgeDemand (settleOnHook s))
    exact ⟨h3.trans (h2.trans h1), fun h => c3 ▸ c2 (c1 h)⟩
  · exact ⟨rfl, id⟩

theorem settleOnHook_begun (hh : s.call.hook = false) (hm : s.meter.metered = none) :
    (settleOnHook s).meter.purse.state ≠ .opened := by
  rw [settleOnHook, if_pos (by simp [hh, hm]), beginSettlement]
  split
  · exact fun h => nomatch h
  · next h => exact h

/-- On-hook with no call metered an OPEN purse begins to settle (R117, R128). -/
theorem judgeMoney_settles (hh : s.call.hook = false) (hm : s.meter.metered = none)
    (hs : s.coin.started = true) : (judgeMoney s).meter.purse.state ≠ .opened := by
  rw [judgeMoney, if_pos hs, (startLane_meter _).2]
  exact (judgeDemand_meter _).2 (settleOnHook_begun hh hm)

/-! ### The filtered hook (R90, R91) -/

theorem station_atRest (n : Nat) (h : AtRest s) : (finish n s).call.station = s.call.station := by
  obtain ⟨-, -, -, call⟩ := finish_atRest n h
  rw [call]

theorem station_stepWith_atRest {f : State → State} (h : AtRest (f s)) :
    (stepWith f s).call.station = (f s).call.station := station_atRest _ h

theorem settles_stepWith {f : State → State} (hr : (f s).sys.part = .running)
    (hh : (f s).call.hook = false) (hm : (f s).meter.metered = none)
    (hs : (f s).coin.started = true) : (stepWith f s).meter.purse.state ≠ .opened := by
  rw [stepWith, finish_meter, settle_meter hr]
  exact judgeMoney_settles hh hm hs

theorem station_stepWith {f : State → State} (hr : (f s).sys.part = .running)
    (h : (f s).call.station ≠ .idle) (h1 : (f s).call.station ≠ .ready)
    (h2 : (f s).call.station ≠ .creditWait) (h3 : (f s).call.station ≠ .dialling) :
    (stepWith f s).call.station = (f s).call.station := finish_station _ hr h h1 h2 h3

end

/-- Settles O47: each level's own body, and the timers that a step's end could stop. -/
theorem inputLevelsStartPeriods : Obligations.InputLevelsStartPeriods := by
  intro s x hr
  refine ⟨fun h => leads_level rfl h hr rfl, fun h => leadsWith_level rfl h hr rfl fun hq hn hs => ?_,
    fun h hc hn => ⟨fun hst => leadsWith_level rfl h hr ?_ ?_, fun hst => leads_level rfl h hr ?_,
      fun hst => leads_level rfl h hr ?_⟩, fun h => leads_level rfl h hr rfl,
    fun h => leadsWith_level rfl h hr rfl fun hn => ?_, fun h => leads_level rfl h hr ?_,
    fun h => leads_level rfl h hr ?_, fun h => leads_level rfl h hr ?_, fun h => leads_level rfl h hr rfl⟩
  · have open_ : pulseOpen s.line = false := by simp [pulseOpen, hs]
    refine ⟨fun hx => Eq.trans (loss_stepWith hr hn hq) ?_, fun hx hseize hstate =>
      Eq.trans (loss_stepWith hr hn hq) ?_⟩
    · simp [updLine, hx]
    · have past : pastSeizing s.line = true := by
        obtain hstate | hstate | hstate := hstate <;> simp [pastSeizing, hseize, hstate]
      simp [updLine, hx, past, open_]
  · simp [revBody, updLine, clearLevel, hst, steady]
  · have rest : AtRest (revBody x { s with pins := { s.pins with rev := x } }) :=
      ⟨hr, hn, by
        show s.call.station ≠ _ ∧ s.call.station ≠ _ ∧ s.call.station ≠ _ ∧ s.call.station ≠ _
        simp [hst]⟩
    rw [stepWith, (finish_atRest _ rest).1]
    simp [revBody, updLine, awaitsAnswer, hst, hc]
  · cases x <;> simp [revBody, updLine, clearLevel, hst, hc, steady]
  · simp [revBody, updLine, clearLevel, hst, hc, steady]
  · refine Eq.trans (lossTimer_stepWith hr hn fun hl => if_neg fun h => hl h.2) rfl
  · cases x <;> rfl
  · cases x <;> rfl
  · cases x <;> rfl

/-- Settles O48: a filtered hook moves IDLE and READY, and an open purse on-hook begins to settle. -/
theorem hookMovesTheStation : Obligations.HookMovesTheStation := by
  intro s hr hd hn
  refine ⟨fun hp hh => ?_, fun hp hh => ?_⟩
  · have exec_eq : exec .offHook s = .next (stepWith offHookBody s) := dueStep hr (by simp [hd, hp, hh])
    refine ⟨fun hst => ?_, fun hst => ?_⟩
    · have hn : noReport s := hn.resolve_right (by simp [hst])
      have body : offHookBody s = setStation .ready (updCallCtl (fun c =>
          { c with hook := true, hookTimer := none }) s) := by simp only [offHookBody, hst]
      refine leadsWith_stepWith exec_eq (by rw [body]; rfl) ?_
      have rest : AtRest (offHookBody s) := by
        rw [body]
        exact ⟨hr, hn, by simp [setStation, touchLive]⟩
      rw [station_stepWith_atRest rest, body]
      rfl
    · have body : offHookBody s = updCallCtl (fun c => { c with hook := true, hookTimer := none }) s := by
        simp only [offHookBody, hst]
      refine leadsWith_stepWith exec_eq (by rw [body]; rfl) ?_
      have noted : (offHookBody s).call.station = .reporting := by rw [body]; exact hst
      refine (station_stepWith (by rw [body]; exact hr) ?_ ?_ ?_ ?_).trans noted <;> simp [noted]
  · have exec_eq : exec .onHook s = .next (stepWith onHookBody s) := dueStep hr (by simp [hd, hp, hh])
    refine ⟨fun hst => ?_, fun hst => ?_⟩
    · have hn : noReport s := hn.resolve_right (by simp [hst])
      have body : onHookBody s = setStation .idle (updCallCtl (fun c =>
          { c with hook := false, hookTimer := none }) s) := by simp only [onHookBody, hst]
      refine leadsWith_stepWith exec_eq (by rw [body]; rfl) ?_
      have rest : AtRest (onHookBody s) := by
        rw [body]
        exact ⟨hr, hn, by simp [setStation, touchLive]⟩
      refine ⟨by rw [station_stepWith_atRest rest, body]; rfl, fun _ hm hs => ?_⟩
      exact settles_stepWith rest.running (by rw [body]; rfl) (by rw [body]; exact hm)
        (by rw [body]; exact hs)
    · have body : onHookBody s = updCallCtl (fun c => { c with hook := false, hookTimer := none }) s := by
        simp only [onHookBody, hst]
      refine leadsWith_stepWith exec_eq (by rw [body]; rfl) ?_
      have noted : (onHookBody s).call.station = .reporting := by rw [body]; exact hst
      refine (station_stepWith (by rw [body]; exact hr) ?_ ?_ ?_ ?_).trans noted <;> simp [noted]

end Sys2Proof.Proofs

/-! The objects at the entry (R68 to R71, R140), and the visit's door and box (R78, R173 to R175). -/
namespace Sys2Proof.Proofs
open Sys2Proof.Machine Sys2Proof.Safety Sys2Proof.Laws

section
variable {s t u : State}

/-! ### The oldest unclassified passage (R71) -/

/-- An unclassified passage behind classified ones. -/
def oldestUnclassified (l : List Passage) (x : Passage) (l' ps : List Passage) : Prop :=
  ps = l ++ x :: l' ∧ x.cls = none ∧ ∀ y ∈ l, y.cls ≠ none

theorem dropPassage_oldest {l l' ps : List Passage} {x : Passage} (h : oldestUnclassified l x l' ps) :
    dropPassage (·.cls.isNone) ps = l ++ l' := by
  obtain ⟨rfl, hx, hl⟩ := h
  have first : ¬ ∃ y ∈ l, y.cls.isNone := fun ⟨y, hy, hn⟩ => hl y hy (by simpa using hn)
  rw [dropPassage, List.eraseP_append_right _ (by simpa using hl), List.eraseP_cons_of_pos (by simp [hx])]

theorem classify_oldest (cls : Nat) {l l' ps : List Passage} {x : Passage}
    (h : oldestUnclassified l x l' ps) : classify cls ps = l ++ { x with cls := some cls } :: l' := by
  obtain ⟨rfl, hx, hl⟩ := h
  induction l with
  | nil => simp [classify, hx]
  | cons y l ih =>
    have hy : y.cls.isNone = false := Option.isNone_eq_false_iff.mpr
      (Option.isSome_iff_ne_none.mpr (hl y (by simp)))
    rw [List.cons_append, classify, if_neg (by simp [hy]), ih fun z hz => hl z (by simp [hz])]
    rfl

theorem any_unclassified {l l' ps : List Passage} {x : Passage} (h : oldestUnclassified l x l' ps) :
    ps.any (·.cls.isNone) = true := by
  obtain ⟨rfl, hx, -⟩ := h
  simp [hx]

/-- A level change taken in RUNNING, as `leads_level` with the branches the other way about. -/
theorem leads_taken {c : Instr} {same : Prop} [Decidable same] {f : State → State}
    (he : exec c s = if same then .next (inRunning f t) else .next s) (h : same)
    (hr : t.sys.part = .running) (hf : steady (f t) = steady u) : leads c s u :=
  ⟨stepWith f t, by rw [he, if_pos h, inRunning_eq f hr], (finish_steady _ _).trans hf⟩

/-- A command that acts in RUNNING whenever it comes. -/
theorem runningStep {f : State → State} (hr : s.sys.part = .running) :
    (.next (inRunning f s) : Host.Outcome State Fault Refusal) = .next (stepWith f s) := by
  rw [inRunning_eq f hr]

end

/-- Settles O42: the bodies of the three entry commands, and of the strobe by its code. -/
theorem entryAndStrobeFillThePassages : Obligations.EntryAndStrobeFillThePassages := by
  refine ⟨fun s p hr hp => ⟨fun he hopen => ?_, fun he hclosed => ?_, fun he => ?_⟩,
    fun s p code hr hp => ⟨fun hall => ?_, fun l w late l' hps hl => ?_⟩⟩
  · refine leads_level (f := entryBody) (same := s.pins.entry = true) rfl (by simp [he]) hr ?_
    simp [entryBody, gateOpen, hopen, updCoin, updTamper, param, hp, seconds]
  · refine leads_level (f := entryBody) (same := s.pins.entry = true) rfl (by simp [he]) hr ?_
    have shut : gateOpen { s with pins := { s.pins with entry := true } } = false := by
      simpa [gateOpen] using hclosed
    simp [entryBody, shut, updTally, updTamper, param, hp, seconds, steady, inc16, satAdd]
  · exact leads_taken (same := s.pins.entry = true) rfl he hr rfl
  · have none_ : s.coin.passages.any (·.cls.isNone) = false := by simpa using hall
    refine leads_stepWith (runningStep (f := strobeBody code.toNat) hr) ?_
    simp only [strobeBody, hp, none_]
    rfl
  · have oldest : oldestUnclassified l ⟨none, w, late⟩ l' s.coin.passages := ⟨hps, rfl, hl⟩
    have any := any_unclassified oldest
    refine ⟨fun hc => ?_, fun i hi hc ha => ?_, fun hc => ?_⟩
    · refine leads_stepWith (runningStep (f := strobeBody code.toNat) hr) ?_
      have body : strobeBody code.toNat s = strobeRefused s := by
        simp [strobeBody, hp, any, hc]
      rw [body]
      refine (steady_of_unposted (raise_unposted _ _ _ _)).trans ?_
      simp only [updCoin]
      rw [dropPassage_oldest oldest]
      rfl
    · refine leads_stepWith (runningStep (f := strobeBody code.toNat) hr) ?_
      have accepted : classAccepted p code.toNat = true := by
        rw [hc]
        simpa only [classAccepted, Nat.add_sub_cancel, Bool.and_eq_true] using And.intro (by simp) ha
      have body : strobeBody code.toNat s
          = updCoin (fun c => { c with passages := classify code.toNat c.passages }) s := by
        have : code.toNat ≠ 7 := by omega
        simp [strobeBody, hp, any, this, accepted]
      rw [body, updCoin, classify_oldest _ oldest, hc]
    · refine leads_stepWith (runningStep (f := strobeBody code.toNat) hr) ?_
      have refused : classAccepted p code.toNat = false ∧ code.toNat ≠ 7 := by
        obtain hc | ⟨i, hi, hc, ha⟩ := hc
        · simp [classAccepted, hc]
        · refine ⟨?_, by omega⟩
          rw [hc, classAccepted, Nat.add_sub_cancel, ha, Bool.and_false]
      have body : strobeBody code.toNat s = strobeFault s := by
        simp [strobeBody, hp, any, refused.1, refused.2]
      rw [body]
      rfl

section
variable {s t u : State}

/-! ### The visit's box (R173, R174) -/

theorem visitBox_still (x : Bool) (h : s.visit.state = .closed ∨ s.visit.state = .awaitingDoor
    ∨ s.visit.state = .doorOpen ∧ x = true ∨ s.visit.state = .boxOut ∧ x = false) : visitBox x s = s := by
  unfold visitBox
  obtain h | h | ⟨h, rfl⟩ | ⟨h, rfl⟩ := h <;> simp only [h]

/-- The box put back: the box tallies reset, the marker cleared and the visit at DOOR OPEN (R174). -/
def boxReturned (s : State) : State :=
  updVisit (fun v => { v with state := .doorOpen, left := true }) (clearUncertain (boxTallyReset s))

theorem visitBox_returned (h : s.visit.state = .boxOut) : visitBox true s
    = if s.tamper.door.isOpen then boxReturned s else endVisit false (boxReturned s) := by
  simp only [visitBox, h]
  rfl

theorem resetClasses_eq (l : List EscrowEntry) :
    #v[resetClass l 0, resetClass l 1, resetClass l 2, resetClass l 3, resetClass l 4, resetClass l 5]
      = Vector.ofFn (fun i : Fin 6 => ⟨l.countP (fun e => e.cls == i.val + 1), 0, 0, 0⟩) := rfl

/-- A visit ended with neither DOOR nor CASE open or ACTIVE. -/
theorem endVisit_closed (lapsed : Bool) (hd : s.tamper.door.isOpen = false)
    (hc : s.tamper.case.isOpen = false) (hda : (getChan .door s).state ≠ .active)
    (hca : (getChan .case s).state ≠ .active) :
    unposted (endVisit lapsed s) = unposted (visitClosed lapsed s) := by
  rw [endVisit_rest lapsed hd hc hda hca]
  exact (closeVisitRecord_rest lapsed s).1

theorem forfeited_stepWith {f : State → State} (h : (f s).meter.purse.state = .absent) :
    (stepWith f s).tally.forfeited = (f s).tally.forfeited := finish_forfeited _ h

/-! ### The debounced door (R137, R173) -/

/-- The door's debounced state taken. -/
def doorTaken (x : Bool) (s : State) : State :=
  { s with tamper := { s.tamper with door := ⟨x, none⟩ } }

/-- A door whose change leaves its channel as it is: only the visit hears of it. -/
theorem debouncedBody_door {x : Bool} (hx : s.pins.door = x)
    (hk : x = true → s.tamper.visitKind ≠ none) (ha : (getChan .door s).state ≠ .active) :
    debouncedBody .door s = visitDoor x (doorTaken x s) := by
  have cond : doorCond (doorTaken x s).tamper = false := by
    cases x with
    | false => rfl
    | true =>
      obtain ⟨k, hk⟩ := Option.ne_none_iff_exists'.mp (hk rfl)
      simp [doorCond, doorTaken, hk]
  have judged : judgeChan .door (doorCond (doorTaken x s).tamper) (doorTaken x s) = doorTaken x s := by
    rw [cond]
    exact condEnds_still ha
  subst hx
  exact congrArg (visitDoor s.pins.door) judged

end

/-- Settles O46: the BOX switch, the door and the lapse each move the visit by their own case. -/
theorem visitFollowsDoorAndBox : Obligations.VisitFollowsDoorAndBox := by
  intro s hr
  refine ⟨fun hd => ?_, fun hd hx hv hco hda hca => ?_, fun hd hx hv hda => ?_,
    fun hd hx hv hk hda => ?_, fun hd hv hdo hco hda hca => ?_⟩
  · have exec_eq : exec .boxSwitchChange s = .next (stepWith boxBody s) := dueStep hr hd
    have returned : s.visit.state = .boxOut → s.pins.box = true → boxBody s
        = if s.tamper.door.isOpen then boxReturned { s with coin := { s.coin with box := true, boxTimer := none } }
          else endVisit false (boxReturned { s with coin := { s.coin with box := true, boxTimer := none } }) := by
      intro hv hx
      rw [boxBody, hx]
      exact visitBox_returned hv
    refine ⟨fun hv => ?_, fun hv => ?_, fun hv hx => ?_, fun hv hx hdo => ?_,
      fun hv hx hdo hco hda hca => ?_⟩
    · have still := visitBox_still (s := updCoin (fun c => { c with box := s.pins.box, boxTimer := none }) s)
        s.pins.box (hv.imp id .inl)
      exact leads_stepWith exec_eq (congrArg steady still)
    · have still := visitBox_still (s := updCoin (fun c => { c with box := s.pins.box, boxTimer := none }) s)
        s.pins.box (.inr (.inr hv))
      exact leads_stepWith exec_eq (congrArg steady still)
    · refine leads_stepWith exec_eq ?_
      simp only [boxBody, visitBox, updCoin, hv, hx]
      rfl
    · have body := returned hv hx
      rw [hdo, if_pos rfl] at body
      refine leadsWith_stepWith exec_eq ?_ fun hm => ?_
      · rw [body, boxReturned, boxTallyReset, resetClasses_eq]
        rfl
      · rw [forfeited_stepWith (by rw [body]; exact hm), body]
        rfl
    · have body := returned hv hx
      rw [hdo, if_neg (by simp)] at body
      have closed := endVisit_closed (s := boxReturned { s with coin := { s.coin with box := true, boxTimer := none } })
        false hdo hco hda hca
      rw [← body] at closed
      refine leadsWith_stepWith exec_eq ?_ fun hm => ?_
      · refine (steady_of_unposted closed).trans ?_
        rw [boxReturned, boxTallyReset, resetClasses_eq]
        rfl
      · have hmeter := meter_of_unposted closed
        have htally := tally_of_unposted closed
        rw [forfeited_stepWith (by rw [hmeter]; exact hm), htally]
        rfl
  · have exec_eq : exec (.housingInputDebounced .door) s = .next (stepWith (debouncedBody .door) s) :=
      dueStep hr hd
    refine leads_stepWith exec_eq ?_
    rw [debouncedBody_door hx (by simp) hda]
    have visit : visitDoor false (doorTaken false s) = endVisit false (doorTaken false s) := by
      simp only [visitDoor, doorTaken, hv]
    rw [visit]
    exact steady_of_unposted (endVisit_closed (s := doorTaken false s) false rfl hco hda hca)
  · have exec_eq : exec (.housingInputDebounced .door) s = .next (stepWith (debouncedBody .door) s) :=
      dueStep hr hd
    refine leads_stepWith exec_eq ?_
    rw [debouncedBody_door hx (by simp) hda, visitDoor_closed (by simp [doorTaken, hv])]
    rfl
  · have exec_eq : exec (.housingInputDebounced .door) s = .next (stepWith (debouncedBody .door) s) :=
      dueStep hr hd
    refine leads_stepWith exec_eq ?_
    rw [debouncedBody_door hx (fun _ => hk) hda]
    simp only [visitDoor, doorTaken, hv]
    rfl
  · have exec_eq : exec .visitDoorTimerExpiry s = .next (stepWith (endVisit true) s) :=
      dueStep hr (by simp [hd, hv])
    exact leads_stepWith exec_eq (steady_of_unposted (endVisit_closed true hdo hco hda hca))

end Sys2Proof.Proofs

/-! A channel's trip (R135, R143 to R145), and the drops and windows of the lane and the passages (R72, R79 to
R81, R87). -/
namespace Sys2Proof.Proofs
open Sys2Proof.Machine Sys2Proof.Safety Sys2Proof.Laws

section
variable {s t u v : State} {p : Profile}

/-! ### A report joined (R145, R150, R152) -/

/-- A channel as another left it, or with its failed report QUEUED again (R152). -/
def keptOrQueued (s : State) (x y : ChanRec) : Prop :=
  y = x ∨ (∃ f ∈ s.report.queue, f.failed = true) ∧ y = { x with status := .queued }

theorem startRound_chans (s : State) :
    chansOnly { s with report := (startRound s).report } (startRound s)
      ∧ ∀ ch, keptOrQueued s (getChan ch s) (getChan ch (startRound s)) := by
  by_cases hr : s.report.round = .inRound
  · rw [startRound_goesOn hr]
    exact ⟨rfl, fun _ => .inl rfl⟩
  · obtain ⟨hu, -, hc⟩ := requeueFailed_rest s
    rw [startRound_begins hr]
    refine ⟨?_, fun ch => ?_⟩
    · exact congrArg (fun x : State => unposted { x with report := { (requeueFailed s).report with
        round := .inRound, attempt := 1, due := canReport s, nextDue := none } }) hu
    · have hch := hc ch
      split at hch
      · next hany =>
        obtain ⟨f, hf, hfailed⟩ := List.any_eq_true.mp hany
        simp only [Bool.and_eq_true] at hfailed
        exact .inr ⟨⟨f, hf, hfailed.1⟩, hch⟩
      · exact .inl hch

/-- A report joins the queue with an entry that has not failed. -/
theorem joinReport_entry (code sev : Nat) (time : ShortTime) (s : State) :
    ∃ e : ReportEntry, e.failed = false ∧ joinReport code sev time s = startRound { s with
      report := { s.report with
        queue := insertEntry e (s.report.queue.filter (fun f => f.code != code)) } } := by
  unfold joinReport
  dsimp only
  split <;> exact ⟨_, rfl, rfl⟩

/-- The queue as a report joins it holds no failed entry that was not there before. -/
theorem joinReport_chans (code sev : Nat) (time : ShortTime) (s : State) :
    chansOnly { s with report := (joinReport code sev time s).report } (joinReport code sev time s)
      ∧ ∀ ch, keptOrQueued s (getChan ch s) (getChan ch (joinReport code sev time s)) := by
  obtain ⟨e, hnew, eq⟩ := joinReport_entry code sev time s
  rw [eq]
  obtain ⟨h, hc⟩ := startRound_chans { s with report := { s.report with
    queue := insertEntry e (s.report.queue.filter (fun f => f.code != code)) } }
  refine ⟨h, fun ch => (hc ch).imp id fun ⟨⟨f, hf, hfailed⟩, hq⟩ => ⟨?_, hq⟩⟩
  have hany : (insertEntry e (s.report.queue.filter (fun f => f.code != code))).any (·.failed) = true :=
    List.any_eq_true.mpr ⟨f, hf, hfailed⟩
  rw [any_insertEntry, hnew, Bool.false_or, List.any_eq_true] at hany
  obtain ⟨g, hg, hgf⟩ := hany
  exact ⟨g, (List.mem_filter.mp hg).1, hgf⟩

/-! ### A trip (R135, R143) -/

/-- The record that a trip of `ch` leaves. -/
def tripRec (p : Profile) (ch : Channel) (s : State) : ChanRec := trippedRec p ch (now s) (getChan ch s)

/-- A trip with its report, before its event, the call it ends and the force window it opens. -/
def tripTold (p : Profile) (ch : Channel) (s : State) : State :=
  if callsReport p (tripRec p ch s).severity then
    joinReport (channelCode ch) (tripRec p ch s).severity (tripRec p ch s).last (setChan ch (tripRec p ch s) s)
  else setChan ch (tripRec p ch s) s

/-- The force window opened by a trip of SHOCK (R143). -/
def forceOpened (p : Profile) (ch : Channel) (s : State) : State :=
  if ch = .shock then { s with tamper := { s.tamper with force := seconds p.forceS } } else s

theorem forceOpened_unposted (ch : Channel) (h : unposted t = unposted s) :
    unposted (forceOpened p ch t) = unposted (forceOpened p ch s) := by
  unfold forceOpened
  split
  · exact congrArg (fun x : State => { x with tamper := { x.tamper with force := seconds p.forceS } }) h
  · exact h

/-- A trip that ends no call. -/
theorem tripOne_rest (ch : Channel) (hp : s.gate.profile = some p)
    (hc : ch = .cord → inCall s.call.station = false) :
    unposted (tripOne ch s) = unposted (forceOpened p ch (tripTold p ch s)) := by
  have station : (tripTold p ch s).call = s.call := by
    unfold tripTold
    split
    · exact (call_of_unposted (joinReport_chans _ _ _ _).1).trans rfl
    · rfl
  have ended : ∀ d : List Byte, ¬ (ch = .cord
      ∧ inCall (raise .tamper 16 d (tripTold p ch s)).call.station = true) := by
    rintro d ⟨hch, hin⟩
    rw [raise_call, station, hc hch] at hin
    cases hin
  have eq : tripOne ch s = giveRewrite .tamper (forceOpened p ch (raise .tamper 16
      ([b8 (channelCode ch), b8 (tripRec p ch s).severity] ++ count2 (tripRec p ch s).trips
        ++ [bBool ((tripRec p ch s).status == .queued)]) (tripTold p ch s))) := by
    unfold tripOne
    rw [hp]
    exact congrArg (fun x => giveRewrite .tamper (forceOpened p ch x)) (if_neg (ended _))
  rw [eq, giveRewrite_unposted]
  exact forceOpened_unposted ch (raise_unposted _ _ _ _)

/-- What a trip with its report leaves: the channel's new record, and of the others at most a failed report
QUEUED again, where the trip calls for a report. -/
theorem tripTold_rest (ch : Channel) (s : State) :
    chansOnly { s with report := (tripTold p ch s).report } (tripTold p ch s)
      ∧ getChan ch (tripTold p ch s) = tripRec p ch s
      ∧ (∀ o, o ≠ ch → keptOrQueued s (getChan o s) (getChan o (tripTold p ch s)))
      ∧ (callsReport p (tripRec p ch s).severity = false →
          (tripTold p ch s).report = s.report ∧ ∀ o, o ≠ ch → getChan o (tripTold p ch s) = getChan o s) := by
  have other : ∀ o, o ≠ ch → getChan o (setChan ch (tripRec p ch s) s) = getChan o s := fun o ho =>
    get_set_other _ _ _ _ fun h => ho h.symm
  have same : getChan ch (setChan ch (tripRec p ch s) s) = tripRec p ch s := get_set_same _ _ _
  unfold tripTold
  split
  · next hcalls =>
    have queued : (tripRec p ch s).status = .queued := by
      have : callsReport p (tripSeverity p ch (inc16 (getChan ch s).trips)) = true := hcalls
      simp [tripRec, trippedRec, this]
    obtain ⟨h, hc⟩ := joinReport_chans (channelCode ch) (tripRec p ch s).severity (tripRec p ch s).last
      (setChan ch (tripRec p ch s) s)
    refine ⟨h, ?_, fun o ho => ?_, fun hn => ?_⟩
    · have hch := hc ch
      rw [same] at hch
      obtain hch | ⟨-, hch⟩ := hch
      · exact hch
      · rw [hch, ← queued]
    · have hch := hc o
      rw [other o ho] at hch
      exact hch
    · rw [hcalls] at hn
      cases hn
  · exact ⟨rfl, same, fun o ho => .inl (other o ho), fun _ => ⟨rfl, other⟩⟩

/-- What `tripped` asks of a channel's record. -/
theorem tripped_of_rec {ch : Channel} (p : Profile) {x : ChanRec} (hx : x = tripRec p ch s)
    (hrest : getChan ch t = x ∨ getChan ch t = { x with status := .queued })
    (hstatus : callsReport p (tripRec p ch s).severity = false →
      (ch ≠ .door ∧ ch ≠ .case ∧ ch ≠ .slot) ∨ s.tamper.force = none
        ∨ (∀ e ∈ s.report.queue, e.failed = false) → getChan ch t = x) : tripped ch p s t := by
  subst hx
  have sev : (tripRec p ch s).severity
      = min 3 (baseSeverity p ch + if 3 ≤ min 65535 ((getChan ch s).trips + 1) then 1 else 0) := by
    show tripSeverity p ch _ = _
    unfold tripSeverity
    cases ch with
    | force => show 3 = min 3 (3 + _); omega
    | _ => rfl
  have calls : callsReport p (tripRec p ch s).severity = true
      ↔ 1 ≤ p.threshold ∧ p.threshold ≤ (tripRec p ch s).severity := by
    simp [callsReport]
  refine ⟨_, _, rfl, rfl, ?_, ?_, ?_, ?_, ?_, fun hc => ?_, fun hc hn => ?_⟩
  · obtain h | h := hrest <;> rw [h] <;> rfl
  · obtain h | h := hrest <;> rw [h] <;> rfl
  · obtain h | h := hrest <;> rw [h] <;> rfl
  · obtain h | h := hrest <;> rw [h] <;> rfl
  · obtain h | h := hrest <;> rw [h, ← sev]
  · rw [← sev, ← calls] at hc
    obtain h | h := hrest
    · rw [h]
      exact if_pos hc
    · rw [h]
  · rw [← sev, ← calls, Bool.not_eq_true] at hc
    rw [hstatus hc hn]
    exact if_neg (by rw [Bool.not_eq_true]; exact hc)

theorem tripped_of_chans {ch : Channel} (h : tripped ch p s t) (hc : u.tamper.chans = t.tamper.chans) :
    tripped ch p s u := by
  have same : getChan ch u = getChan ch t := by rw [getChan, hc, getChan]
  unfold tripped at h ⊢
  rw [same]
  exact h

/-- What the appearing of `ch`'s condition leaves (R135, R143 to R145). -/
structure Trip (p : Profile) (ch : Channel) (s v : State) : Prop where
  own : tripped ch p s v
  raw : (getChan ch v).raw = (getChan ch s).raw
  rest : unposted v = unposted { s with
    report := v.report, tamper := { s.tamper with
      chans := v.tamper.chans, force := if ch = .shock then seconds p.forceS else s.tamper.force } }
  force : forceful ch = true → s.tamper.force ≠ none → (getChan .force s).state ≠ .active →
    tripped .force p s v
  others : forceful ch = false ∨ s.tamper.force = none → (∀ e ∈ s.report.queue, e.failed = false) →
    ∀ o, o ≠ ch → getChan o v = getChan o s

/-- What one trip leaves, its FORCE apart. -/
structure TripOne (p : Profile) (ch : Channel) (s v : State) : Prop where
  own : getChan ch v = tripRec p ch s
  others : ∀ o, o ≠ ch → keptOrQueued s (getChan o s) (getChan o v)
  quiet : callsReport p (tripRec p ch s).severity = false →
    v.report = s.report ∧ ∀ o, o ≠ ch → getChan o v = getChan o s
  rest : unposted v = unposted { s with
    report := v.report, tamper := { s.tamper with
      chans := v.tamper.chans, force := if ch = .shock then seconds p.forceS else s.tamper.force } }

theorem tripOne_leaves (ch : Channel) (hp : s.gate.profile = some p)
    (hc : ch = .cord → inCall s.call.station = false) : TripOne p ch s (tripOne ch s) := by
  have hu := tripOne_rest ch hp hc
  obtain ⟨h1, h2, h3, h4⟩ := tripTold_rest (p := p) ch s
  have chans : (tripOne ch s).tamper.chans = (tripTold p ch s).tamper.chans := by
    rw [tamper_of_unposted hu, forceOpened]
    split <;> rfl
  have report : (tripOne ch s).report = (tripTold p ch s).report := by
    rw [report_of_unposted hu, forceOpened]
    split <;> rfl
  have get : ∀ o, getChan o (tripOne ch s) = getChan o (tripTold p ch s) := fun o => by
    rw [getChan, chans, getChan]
  refine ⟨(get ch).trans h2, fun o ho => ?_, fun hn => ⟨report.trans (h4 hn).1, fun o ho =>
    (get o).trans ((h4 hn).2 o ho)⟩, ?_⟩
  · rw [get]
    exact h3 o ho
  · rw [hu, report, chans]
    refine (forceOpened_unposted ch h1).trans ?_
    unfold forceOpened
    split <;> rfl

theorem forceful_three {ch : Channel} (h : forceful ch = true) :
    ch = .door ∨ ch = .case ∨ ch = .slot := by
  cases ch <;> simp_all [forceful]

/-- A trip that makes no FORCE. -/
theorem TripOne.trip {ch : Channel} (h : TripOne p ch s v)
    (hf : forceful ch = true → s.tamper.force ≠ none → (getChan .force s).state = .active) :
    Trip p ch s v := by
  obtain ⟨own, others, -, rest⟩ := h
  refine ⟨tripped_of_rec p rfl (.inl own) fun _ _ => own, by rw [own]; rfl, rest,
    fun h1 h2 h3 => absurd (hf h1 h2) h3, fun _ hn o ho => ?_⟩
  obtain h | ⟨⟨f, hf, hfailed⟩, -⟩ := others o ho
  · exact h
  · rw [hn f hf] at hfailed
    cases hfailed

theorem tripSeverity_le (p : Profile) (ch : Channel) (n : Nat) : tripSeverity p ch n ≤ 3 := by
  cases ch <;> simp only [tripSeverity] <;> omega

/-- Where FORCE's trip calls for no report, no other trip does. -/
theorem callsReport_force {ch : Channel} (h : callsReport p 3 = false) (n : Nat) :
    callsReport p (tripSeverity p ch n) = false := by
  have := tripSeverity_le p ch n
  simp only [callsReport, Bool.and_eq_false_iff, decide_eq_false_iff_not] at h ⊢
  omega

/-- A trip of DOOR, CASE or SLOT and then of FORCE. -/
theorem TripOne.withForce {ch : Channel} (h : TripOne p ch s u) (h' : TripOne p .force u v)
    (hch : forceful ch = true) (hf : s.tamper.force ≠ none) : Trip p ch s v := by
  obtain ⟨own, others, quiet, rest⟩ := h
  obtain ⟨fown, fothers, -, frest⟩ := h'
  have three := forceful_three hch
  have ne : ch ≠ .force := by rintro rfl; cases hch
  have notShock : ch ≠ .shock := by rintro rfl; cases hch
  have mine := fothers ch ne
  rw [own] at mine
  have cal : now u = now s := by
    have := cal_of_unposted rest
    rw [now, this, now]
  have base : getChan .force u = getChan .force s
      ∨ getChan .force u = { getChan .force s with status := .queued } :=
    (others .force ne.symm).imp id And.right
  refine ⟨tripped_of_rec p rfl (mine.imp id And.right) fun hn hw => ?_, ?_, ?_, fun _ _ _ => ?_,
    fun hw => ?_⟩
  · obtain ⟨h1, h2, h3⟩ | hw | hw := hw
    · obtain h | h | h := three
      · exact absurd h h1
      · exact absurd h h2
      · exact absurd h h3
    · exact absurd hw hf
    · obtain h | ⟨⟨f, hq, hfailed⟩, -⟩ := mine
      · exact h
      · rw [(quiet hn).1] at hq
        rw [hw f hq] at hfailed
        cases hfailed
  · obtain h | ⟨-, h⟩ := mine <;> rw [h] <;> rfl
  · rw [if_neg notShock] at rest ⊢
    rw [if_neg (by simp)] at frest
    refine frest.trans ?_
    exact congrArg (fun x : State => { x with
      report := v.report, tamper := { x.tamper with chans := v.tamper.chans } }) rest
  · refine tripped_of_rec p rfl ?_ fun hn _ => ?_
    · rw [fown, tripRec, cal]
      obtain hb | hb := base
      · rw [hb]; exact .inl rfl
      · rw [hb]
        right
        simp only [tripRec, trippedRec, ite_self]
    · have still := (quiet (callsReport_force hn _)).2 .force ne.symm
      rw [fown, tripRec, cal, still, tripRec]
  · exact absurd hw (by simp [hch, hf])

/-- The condition of a quiet or latched channel appears, and ends no call. -/
theorem condAppears_trip {ch : Channel} (hp : s.gate.profile = some p) (ha : (getChan ch s).state ≠ .active)
    (hc : ch = .cord → inCall s.call.station = false) : Trip p ch s (condAppears ch s) := by
  have h := tripOne_leaves ch hp hc
  have eq : condAppears ch s = if (forceful ch && (tripOne ch s).tamper.force.isSome
      && (getChan .force (tripOne ch s)).state != .active) then tripOne .force (tripOne ch s)
      else tripOne ch s := if_neg ha
  have force : forceful ch = true → (tripOne ch s).tamper.force = s.tamper.force := by
    intro hf
    rw [tamper_of_unposted h.rest, if_neg (by rintro rfl; cases hf)]
  have state : forceful ch = true → (getChan .force (tripOne ch s)).state = (getChan .force s).state := by
    intro hf
    obtain hs | ⟨-, hs⟩ := h.others .force (by rintro rfl; cases hf) <;> rw [hs]
  rw [eq]
  split
  · next hcond =>
    simp only [Bool.and_eq_true] at hcond
    obtain ⟨⟨hf, hsome⟩, -⟩ := hcond
    rw [force hf] at hsome
    have hp' : (tripOne ch s).gate.profile = some p := (profile_of_unposted h.rest).trans hp
    exact h.withForce (tripOne_leaves .force hp' (by simp)) hf (by
      intro hn
      rw [hn] at hsome
      cases hsome)
  · next hcond =>
    refine h.trip fun hf hn => ?_
    refine Decidable.byContradiction fun hact => hcond ?_
    rw [hf, force hf, Option.isSome_iff_ne_none.mpr hn, Bool.true_and, Bool.true_and, bne_iff_ne, state hf]
    exact hact

/-- What the appearing of a condition that ends no call and opens no force window leaves, ACTIVE channel or
not. -/
theorem condAppears_only {ch : Channel} (hp : s.gate.profile = some p) (hc : ch ≠ .cord)
    (hs : ch ≠ .shock) :
    unposted (condAppears ch s) = unposted { s with
        report := (condAppears ch s).report,
        tamper := { s.tamper with chans := (condAppears ch s).tamper.chans } }
      ∧ (getChan ch (condAppears ch s)).state = .active
      ∧ ((getChan ch s).state ≠ .active → tripped ch p s (condAppears ch s)) := by
  by_cases ha : (getChan ch s).state = .active
  · have still : condAppears ch s = s := if_pos ha
    rw [still]
    exact ⟨rfl, ha, fun h => absurd ha h⟩
  · obtain ⟨own, -, rest, -, -⟩ := condAppears_trip hp ha fun h => absurd h hc
    rw [if_neg hs] at rest
    obtain ⟨_, _, -, -, act, -⟩ := id own
    exact ⟨rest, act, fun _ => own⟩

/-- A trip seen from a state with the same channels, force window, clock and queue. -/
theorem tripped_from {ch : Channel} (h : tripped ch p u t) (hc : u.tamper.chans = s.tamper.chans)
    (hf : u.tamper.force = s.tamper.force) (hcal : u.cal = s.cal)
    (hq : u.report.queue = s.report.queue) : tripped ch p s t := by
  have same : getChan ch u = getChan ch s := by rw [getChan, hc, getChan]
  unfold tripped at h ⊢
  rwa [same, hf, hcal, hq] at h

/-! ### The lane through the money's judgments (R78, R80) -/

/-- The lane's state, its gate and the drop window. -/
def laneOf (c : Coin) := (c.lane, c.gatePos, c.dropTimer)

theorem setHold_laneOf (c : HoldCause) (s : State) : laneOf (setHold c s).coin = laneOf s.coin := by
  unfold setHold
  dsimp only
  split
  · split <;> rfl
  · split
    · split <;> rfl
    · rw [raise_coin]; rfl

theorem judgeDemand_laneOf (s : State) : laneOf (judgeDemand s).coin = laneOf s.coin := by
  have settles : laneOf (if requestInFlight s.coin = true then s
      else if (s.coin.escrow.isEmpty && !inFlight s.coin.lane) = true then closePurse s
      else setHold (holdCauseOf (settleDemand s) s) (setDemand (settleDemand s) s)).coin
        = laneOf s.coin := by
    split
    · rfl
    · split
      · simp [closePurse, laneOf]
      · exact setHold_laneOf _ (setDemand (settleDemand s) s)
  unfold judgeDemand
  split
  · rfl
  · split <;> rfl
  · exact settles
  · exact settles

/-- A lane not CLEAR starts nothing. -/
theorem judgeMoney_laneOf (h : s.coin.lane ≠ .clear) : laneOf (judgeMoney s).coin = laneOf s.coin := by
  have hook : laneOf (settleOnHook s).coin = laneOf s.coin := by
    unfold settleOnHook beginSettlement
    split
    · split <;> rfl
    · rfl
  have demand := (judgeDemand_laneOf (settleOnHook s)).trans hook
  have lane : startLane (judgeDemand (settleOnHook s)) = judgeDemand (settleOnHook s) :=
    if_neg fun hc => h ((congrArg Prod.fst demand).symm.trans hc)
  unfold judgeMoney
  split
  · rw [lane, demand]
  · rfl

theorem laneOf_stepWith {f : State → State} (hr : (f s).sys.part = .running)
    (h : (f s).coin.lane ≠ .clear) : laneOf (stepWith f s).coin = laneOf (f s).coin := by
  obtain ⟨r, hcoin⟩ := finish_coin (waiting s) (f s)
  rw [stepWith, hcoin, settle_coin hr]
  exact judgeMoney_laneOf h

/-! ### The jam and the stranding (R72, R80) -/

/-- The lane jammed, before the LANE channel hears of it. -/
def laneJammed (s : State) : State :=
  { s with coin := { s.coin with lane := .jammed, gatePos := .hold, dropTimer := none } }

theorem jamBody_rest (hp : s.gate.profile = some p) :
    unposted (jamBody s) = unposted { laneJammed s with
        report := (jamBody s).report,
        tamper := { s.tamper with chans := (jamBody s).tamper.chans } }
      ∧ (getChan .lane (jamBody s)).state = .active
      ∧ ((getChan .lane s).state ≠ .active → tripped .lane p s (jamBody s)) := by
  have body : ∃ d, jamBody s = condAppears .lane (raise .coin 12 d (touchLive (laneJammed s))) := ⟨_, rfl⟩
  obtain ⟨d, body⟩ := body
  rw [body]
  have raised := raise_unposted .coin 12 d (touchLive (laneJammed s))
  have told : (raise .coin 12 d (touchLive (laneJammed s))).tamper = s.tamper := by rw [raise_tamper]; rfl
  have cal : (raise .coin 12 d (touchLive (laneJammed s))).cal = s.cal := by rw [raise_cal]; rfl
  have report : (raise .coin 12 d (touchLive (laneJammed s))).report = s.report := by rw [raise_report]; rfl
  have prof : (raise .coin 12 d (touchLive (laneJammed s))).gate.profile = some p := by
    rw [raise_gate]; exact hp
  generalize raise .coin 12 d (touchLive (laneJammed s)) = r at raised told cal report prof
  obtain ⟨rest, act, trip⟩ := condAppears_only (ch := .lane) prof (by simp) (by simp)
  refine ⟨?_, act, fun ha => ?_⟩
  · rw [rest, told]
    exact congrArg (fun x : State => { x with
      report := (condAppears .lane r).report,
      tamper := { s.tamper with chans := (condAppears .lane r).tamper.chans } }) raised
  · refine tripped_from (trip ?_) (by rw [told]) (by rw [told]) cal (by rw [report])
    rwa [getChan, told]

/-- The passage stranded, before the SLOT channel hears of it. -/
def passageLost (l : List Passage) (s : State) : State :=
  { s with
    coin := { s.coin with passages := l },
    tally := { s.tally with stranded := inc16 s.tally.stranded } }

theorem strandBody_rest (x : Passage) (hp : s.gate.profile = some p) :
    unposted (strandBody x s) = unposted { passageLost (dropPassage passageDue s.coin.passages) s with
        report := (strandBody x s).report,
        tamper := { s.tamper with
          chans := (strandBody x s).tamper.chans,
          slotClear := if s.pins.entry then s.tamper.slotClear else some 1000 } }
      ∧ (getChan .slot (strandBody x s)).state = .active
      ∧ ((getChan .slot s).state ≠ .active → tripped .slot p s (strandBody x s)) := by
  have body : ∃ d b, strandBody x s = strandSlot (raise .coin 3 d { passageLost
      (dropPassage passageDue s.coin.passages) s with img := b }) := ⟨_, _, rfl⟩
  obtain ⟨d, b, body⟩ := body
  rw [body]
  generalize hlost : ({ passageLost (dropPassage passageDue s.coin.passages) s with img := b } : State) = w
  have raised := raise_unposted .coin 3 d w
  have told : (raise .coin 3 d w).tamper = s.tamper := by rw [raise_tamper, ← hlost]; rfl
  have cal : (raise .coin 3 d w).cal = s.cal := by rw [raise_cal, ← hlost]; rfl
  have report : (raise .coin 3 d w).report = s.report := by rw [raise_report, ← hlost]; rfl
  have pins : (raise .coin 3 d w).pins = s.pins := by rw [raise_pins, ← hlost]; rfl
  have prof : (raise .coin 3 d w).gate.profile = some p := by rw [raise_gate, ← hlost]; exact hp
  generalize raise .coin 3 d w = r at raised told cal report pins prof
  obtain ⟨rest, act, trip⟩ := condAppears_only (ch := .slot) prof (by simp) (by simp)
  have trip' : (getChan .slot s).state ≠ .active → tripped .slot p s (condAppears .slot r) := fun ha => by
    refine tripped_from (trip ?_) (by rw [told]) (by rw [told]) cal (by rw [report])
    rwa [getChan, told]
  have pins' : (condAppears .slot r).pins = s.pins := (pins_of_unposted rest).trans pins
  have lost : unposted r = unposted (passageLost (dropPassage passageDue s.coin.passages) s) := by
    rw [raised, ← hlost]; rfl
  have strand : strandSlot r = if s.pins.entry then condAppears .slot r
      else { condAppears .slot r with
        tamper := { (condAppears .slot r).tamper with slotClear := some 1000 } } := by
    rw [← pins']
    rfl
  rw [strand]
  rw [told] at rest
  split
  · refine ⟨?_, act, trip'⟩
    rw [rest]
    exact congrArg (fun y : State => { y with
      report := (condAppears .slot r).report,
      tamper := { s.tamper with chans := (condAppears .slot r).tamper.chans } }) lost
  · refine ⟨?_, act, fun ha => tripped_of_chans (trip' ha) rfl⟩
    have cleared := congrArg (fun y : State => unposted { y with
      tamper := { y.tamper with slotClear := some 1000 } }) rest
    have lost' := congrArg (fun y : State => { y with
      report := (condAppears .slot r).report,
      tamper := { s.tamper with
        chans := (condAppears .slot r).tamper.chans, slotClear := some 1000 } }) lost
    exact cleared.trans lost'

theorem dropPassage_due {l l' ps : List Passage} {x : Passage} (h : ps = l ++ x :: l')
    (hx : x.window < 100) (hl : ∀ y ∈ l, 100 ≤ y.window) :
    ps.find? passageDue = some x ∧ dropPassage passageDue ps = l ++ l' := by
  have here : passageDue x = true := by simpa [passageDue] using hx
  have before : ∀ y ∈ l, ¬ passageDue y = true := by simpa [passageDue] using hl
  subst h
  refine ⟨?_, ?_⟩
  · rw [List.find?_append, List.find?_eq_none.mpr before, List.find?_cons_of_pos here]
    rfl
  · rw [dropPassage, List.eraseP_append_right _ before, List.eraseP_cons_of_pos here]

end

/-- Settles O45. -/
theorem windowsJamAndStrand : Obligations.WindowsJamAndStrand := by
  intro s p hr hp
  refine ⟨fun hd hl => ?_, fun l x l' hps hx hl => ?_⟩
  · have exec_eq : exec .dropWindowExpiry s = .next (stepWith jamBody s) :=
      dueStep hr (by obtain hl | hl := hl <;> simp [hd, hl, inFlight])
    obtain ⟨rest, act, trip⟩ := jamBody_rest hp
    have hs : steady (stepWith jamBody s) = steady (jamBody s) := finish_steady _ _
    have coin := coin_of_unposted rest
    have lane := laneOf_stepWith (f := jamBody) (s := s)
      ((congrArg Sys.part (sys_of_unposted rest)).trans hr) (by rw [coin]; simp [laneJammed])
    have hs' := hs.trans (steady_of_unposted rest)
    rw [coin] at lane
    generalize stepWith jamBody s = t at exec_eq hs hs' lane
    obtain ⟨lane, pos, drop⟩ : t.coin.lane = .jammed ∧ t.coin.gatePos = .hold ∧ t.coin.dropTimer = none := by
      simpa only [laneOf, laneJammed, Prod.mk.injEq] using lane
    have chans := tamper_of_steady hs
    have uncertain := uncertain_of_steady hs'
    have escrow := escrow_of_steady hs'
    have passages := passagesKept_of_steady hs'
    have classes := classes_of_steady hs'
    have mem := mem_of_steady hs'
    refine ⟨t, exec_eq, lane, pos, drop, escrow, passages, uncertain, ?_,
      fun ha => tripped_of_chans (trip ha) chans, classes, mem⟩
    rw [getChan, chans]
    exact act
  · obtain ⟨found, dropped⟩ := dropPassage_due hps hx hl
    have exec_eq : exec .passageWindowExpiry s = .next (stepWith (strandBody x) s) := by
      show execPassageWindowExpiry s = _
      unfold execPassageWindowExpiry
      rw [found, ← inRunning_eq _ hr]
    obtain ⟨rest, act, trip⟩ := strandBody_rest (s := s) x hp
    rw [dropped] at rest
    have hs : steady (stepWith (strandBody x) s) = steady (strandBody x s) := finish_steady _ _
    have hs' := hs.trans (steady_of_unposted rest)
    generalize stepWith (strandBody x) s = t at exec_eq hs hs'
    have chans := tamper_of_steady hs
    have escrow := escrow_of_steady hs'
    have passages := passagesKept_of_steady hs'
    have classes := classes_of_steady hs'
    have mem := mem_of_steady hs'
    have tally := congrArg Tally.stranded (tallyRest_of_steady hs')
    have clear := congrArg Tamper.slotClear (tamperRest_of_steady hs')
    refine ⟨t, exec_eq, passages, tally, ?_, fun ha => tripped_of_chans (trip ha) chans,
      fun he => clear.trans ?_, fun he => clear.trans ?_, escrow, classes, mem⟩
    · rw [getChan, chans]
      exact act
    · rw [he]; rfl
    · rw [he]; rfl

end Sys2Proof.Proofs

/-! What leaves the head of the lane, and the end of the flush (R79, R81, R87). -/
namespace Sys2Proof.Proofs
open Sys2Proof.Machine Sys2Proof.Safety Sys2Proof.Laws

section
variable {s t u : State} {p : Profile}

/-! ### The action in flight completed (R79, R118) -/

theorem updClass_fin (i : Fin 6) (f : ClassCount → ClassCount) (t : Tally) :
    updClass (i.val + 1) f t = { t with classes := t.classes.set i (f t.classes[i]) } := by
  have hv : ∀ x : ClassCount, t.classes.setIfInBounds i.val x = t.classes.set i x := by
    intro x
    simp [Vector.setIfInBounds, Vector.set, Array.setIfInBounds]
  simp [updClass, hv]

/-- The purse and the deposited figures once the value of a coin has left the lane (R118). -/
def valueMoved (toBox : Bool) (n : Nat) (p : Purse) : Purse :=
  if p.state = .absent then p else if toBox then { p with k := p.k + n } else { p with r := p.r + n }

/-- A coin of a class leaves the head: its value moves, and its class and the cash box are counted. -/
theorem completeAction_coin {i : Fin 6} {e : EscrowEntry} {l : List EscrowEntry}
    (he : s.coin.escrow = e :: l) (hc : e.cls = i.val + 1) :
    ∃ coin img, completeAction s = { s with
        coin := coin, img := img,
        meter := { s.meter with purse := valueMoved (s.coin.lane == .toBox) e.value s.meter.purse },
        tally := if s.coin.lane == .toBox then { s.tally with
            boxValue := satAdd moneyTop s.tally.boxValue e.value,
            boxCoins := inc16 s.tally.boxCoins,
            classes := s.tally.classes.set i { s.tally.classes[i] with
              collected := inc16 s.tally.classes[i].collected } }
          else { s.tally with classes := s.tally.classes.set i { s.tally.classes[i] with
            returned := inc16 s.tally.classes[i].returned } } }
      ∧ steady { s with coin := coin } = steady { s with coin := { s.coin with escrow := l } } := by
  unfold completeAction
  rw [he]
  dsimp only
  rw [if_neg (by omega), hc, valueMoved]
  cases s.coin.lane == .toBox with
  | true =>
    by_cases hp : s.meter.purse.state = .absent
    · simp only [hp, if_true, updTally, updClass_fin, touchLive]
      exact ⟨_, _, rfl, rfl⟩
    · simp only [hp, if_true, if_false, updTally, updClass_fin, touchLive, setPurse]
      exact ⟨_, _, rfl, rfl⟩
  | false =>
    by_cases hp : s.meter.purse.state = .absent
    · simp only [hp, if_true, updTally, updClass_fin, touchLive, Bool.false_eq_true, if_false]
      exact ⟨_, _, rfl, rfl⟩
    · simp only [hp, if_false, updTally, updClass_fin, touchLive, setPurse, Bool.false_eq_true]
      exact ⟨_, _, rfl, rfl⟩

theorem purse_stepWith {f : State → State} (hr : (f s).sys.part = .running)
    (ho : (f s).meter.purse.state = .opened) (hh : (f s).call.hook = true) :
    (stepWith f s).meter.purse = (f s).meter.purse := by
  rw [stepWith, finish_meter, settle_meter hr]
  exact judgeMoney_open ho hh

/-- The value of a coin that leaves an open purse's lane off-hook. -/
theorem drop_purse {i : Fin 6} {e : EscrowEntry} {l : List EscrowEntry} {b : Bool}
    (hr : s.sys.part = .running) (hdrop : dropBody s = completeAction s)
    (he : s.coin.escrow = e :: l) (hc : e.cls = i.val + 1) (hb : (s.coin.lane == .toBox) = b)
    (hh : s.call.hook = true) (ho : s.meter.purse.state = .opened) :
    (stepWith dropBody s).meter.purse
      = if b then { s.meter.purse with k := s.meter.purse.k + e.value }
        else { s.meter.purse with r := s.meter.purse.r + e.value } := by
  obtain ⟨coin, img, eq, -⟩ := completeAction_coin he hc
  rw [← hdrop, hb] at eq
  have purse : (dropBody s).meter.purse = if b then { s.meter.purse with k := s.meter.purse.k + e.value }
        else { s.meter.purse with r := s.meter.purse.r + e.value } := by
    rw [eq]
    simp [valueMoved, ho]
  rw [purse_stepWith (by rw [eq]; exact hr) ?_ (by rw [eq]; exact hh), purse]
  rw [purse]
  split <;> exact ho

/-! ### A drop that nothing expects (R81, R141) -/

theorem unexpectedDrop_rest (hp : s.gate.profile = some p) :
    steady (unexpectedDrop s) = steady { setUncertain s with
        report := (unexpectedDrop s).report,
        tamper := { s.tamper with chans := (unexpectedDrop s).tamper.chans } }
      ∧ ((getChan .lane s).state = .active → (unexpectedDrop s).tamper.chans = s.tamper.chans)
      ∧ ((getChan .lane s).state ≠ .active → (getChan .lane (unexpectedDrop s)).state = .latched) := by
  have raised := raise_unposted .coin 13 [2, b8 s.coin.escrow.length] (setUncertain s)
  have told : (raise .coin 13 [2, b8 s.coin.escrow.length] (setUncertain s)).tamper = s.tamper := by
    rw [raise_tamper]; rfl
  have prof : (raise .coin 13 [2, b8 s.coin.escrow.length] (setUncertain s)).gate.profile = some p := by
    rw [raise_gate]; exact hp
  have body : ∀ r, r = raise .coin 13 [2, b8 s.coin.escrow.length] (setUncertain s) →
      unexpectedDrop s = if (getChan .lane r).state = .active then r
        else condEnds .lane (condAppears .lane r) := by
    rintro r rfl
    rfl
  have body := body _ rfl
  generalize raise .coin 13 [2, b8 s.coin.escrow.length] (setUncertain s) = r at raised told prof body
  have same : getChan .lane r = getChan .lane s := by rw [getChan, told, getChan]
  rw [same] at body
  by_cases ha : (getChan .lane s).state = .active
  · rw [if_pos ha] at body
    rw [body]
    refine ⟨?_, fun _ => by rw [told], fun h => absurd ha h⟩
    have report : r.report = s.report := (report_of_unposted raised).trans rfl
    rw [told, report]
    exact steady_of_unposted raised
  · rw [if_neg ha] at body
    obtain ⟨rest, act, -⟩ := condAppears_only (ch := .lane) prof (by simp) (by simp)
    generalize condAppears .lane r = v at body rest act
    obtain ⟨ends, -⟩ := condEnds_rest .lane v
    rw [body]
    have chans := congrArg Tamper.chans (tamper_of_unposted ends)
    have report : (condEnds .lane v).report = v.report := by
      rw [report_of_unposted ends, letGo_only]
    refine ⟨?_, fun h => absurd h ha, fun _ => ?_⟩
    · refine (steady_of_unposted ends).trans ?_
      rw [letGo_only, chans, report]
      rw [told] at rest
      have rest' := congrArg (fun x : State => unposted { x with
        tamper := { x.tamper with chans := (letGo .lane v).tamper.chans } }) rest
      have raised' := congrArg (fun x : State => { x with
        report := v.report,
        tamper := { s.tamper with chans := (letGo .lane v).tamper.chans } }) raised
      exact steady_of_unposted (rest'.trans raised')
    · rw [getChan, chans, ← getChan, letGo_getChan, if_pos ⟨rfl, act⟩]

/-! ### The flush over (R85, R87) -/

/-- The lane as the flush leaves it. -/
def flushOver (s : State) : State :=
  { s with coin := { s.coin with
    lane := .clear, gatePos := .hold, arrival := 1, flushTimer := none, uncertain := true,
    started := true } }

theorem coinStarted_rest (s : State) : ∃ m d g img, coinStarted s = { s with
    meter := { s.meter with purse := m }, img := img,
    coin := { s.coin with started := true, deposited := d, purseFig := g } } := by
  unfold coinStarted
  dsimp only
  split
  · exact ⟨_, _, _, _, rfl⟩
  · exact ⟨_, _, _, _, rfl⟩

theorem flushBody_rest (s : State) : steady (flushBody s) = steady (flushOver s)
    ∧ (flushBody s).sys = s.sys ∧ (flushBody s).coin.escrow = s.coin.escrow
    ∧ laneOf (flushBody s).coin = (.clear, .hold, s.coin.dropTimer) := by
  have raised := raise_unposted .coin 13 [3, 0] (setUncertain (updCoin (fun c => { c with
      lane := .clear, gatePos := .hold, arrival := 1, flushTimer := none }) s))
  unfold flushBody
  generalize raise .coin 13 [3, 0] (setUncertain (updCoin (fun c => { c with
      lane := .clear, gatePos := .hold, arrival := 1, flushTimer := none }) s)) = r at raised
  obtain ⟨m, d, g, img, eq⟩ := coinStarted_rest r
  rw [eq]
  have coin := coin_of_unposted raised
  refine ⟨?_, (sys_of_unposted raised).trans rfl, ?_, ?_⟩
  · have := congrArg (fun x : State => steady { x with
      coin := { x.coin with started := true } }) raised
    exact this
  · exact (congrArg Coin.escrow coin).trans rfl
  · exact (congrArg laneOf coin).trans rfl

end

/-- Settles O44. -/
theorem dropEdgeEmptiesTheHead : Obligations.DropEdgeEmptiesTheHead := by
  intro s hr
  have exec_eq : exec .dropEdge s = .next (stepWith dropBody s) := runningStep hr
  have completes : s.coin.lane = .toBox ∨ s.coin.lane = .toReturn → dropBody s = completeAction s := by
    intro hl
    obtain hl | hl := hl <;> simp only [dropBody, hl]
  refine ⟨fun i e l he hc => ⟨fun hl => ?_, fun hl => ?_⟩, fun e l he hc hl => ?_, fun hl => ?_,
    fun hl hd => ?_, fun hl hp => ?_⟩
  · have drop := completes (.inl hl)
    obtain ⟨coin, img, eq, hcoin⟩ := completeAction_coin he hc
    have box : (s.coin.lane == .toBox) = true := by rw [hl]; rfl
    refine leadsWith_stepWith exec_eq ?_ fun hh ho => by
      rw [drop_purse hr drop he hc box hh ho, if_pos rfl]
    rw [drop, eq, box, if_pos rfl]
    exact congrArg (fun x : State => { x with tally := { s.tally with
      forfeited := 0, bank := none, edition := 0, boxValue := satAdd moneyTop s.tally.boxValue e.value,
      boxCoins := inc16 s.tally.boxCoins,
      classes := s.tally.classes.set i { s.tally.classes[i] with
        collected := inc16 s.tally.classes[i].collected } } }) hcoin
  · have drop := completes (.inr hl)
    obtain ⟨coin, img, eq, hcoin⟩ := completeAction_coin he hc
    have box : (s.coin.lane == .toBox) = false := by rw [hl]; rfl
    refine leadsWith_stepWith exec_eq ?_ fun hh ho => by
      rw [drop_purse hr drop he hc box hh ho, if_neg (by simp)]
    rw [drop, eq, box, if_neg (by simp)]
    exact congrArg (fun x : State => { x with tally := { s.tally with
      forfeited := 0, bank := none, edition := 0, classes := s.tally.classes.set i { s.tally.classes[i] with
        returned := inc16 s.tally.classes[i].returned } } }) hcoin
  · refine leads_stepWith exec_eq ?_
    rw [completes (.inr hl), completeAction, he]
    simp only [hc, if_true]
    rfl
  · refine leads_stepWith exec_eq ?_
    simp only [dropBody, hl]
    rfl
  · have exec_eq : exec .flushEnd s = .next (stepWith flushBody s) := dueStep hr (by simp [hd, hl])
    obtain ⟨hs, hsys, hesc, hlane⟩ := flushBody_rest s
    refine leadsWith_stepWith exec_eq hs fun hnil => ?_
    obtain ⟨r, hcoin⟩ := finish_coin (waiting s) (flushBody s)
    obtain ⟨lane, pos, -⟩ := judgeMoney_lane_empty (hesc.trans hnil)
    obtain ⟨flane, fpos, -⟩ : (flushBody s).coin.lane = .clear ∧ (flushBody s).coin.gatePos = .hold ∧ _ := by
      simpa only [laneOf, Prod.mk.injEq] using hlane
    rw [stepWith, hcoin, settle_coin (by rw [hsys]; exact hr)]
    exact ⟨lane.trans flane, pos.trans fpos⟩
  · obtain ⟨p, hp⟩ := Option.ne_none_iff_exists'.mp hp
    obtain ⟨rest, active, quiet⟩ := unexpectedDrop_rest hp
    have drop : dropBody s = unexpectedDrop s := by
      obtain hl | hl := hl <;> simp only [dropBody, hl]
    have hs : steady (stepWith dropBody s) = steady (unexpectedDrop s) :=
      (finish_steady _ _).trans (by rw [drop])
    have hs' := hs.trans rest
    generalize stepWith dropBody s = t at exec_eq hs hs'
    have chans := tamper_of_steady hs
    have uncertain := uncertain_of_steady hs'
    have escrow := escrow_of_steady hs'
    have passages := passagesKept_of_steady hs'
    have classes := classes_of_steady hs'
    have box := boxValue_of_steady hs'
    have mem := mem_of_steady hs'
    refine ⟨t, exec_eq, uncertain, escrow, passages, classes, box, mem,
      fun ha => chans.trans (active ha), fun ha => ?_⟩
    rw [getChan, chans]
    exact quiet ha

end Sys2Proof.Proofs

/-! An object at the tail of the lane (R73 to R75, R117, R128, R129). -/
namespace Sys2Proof.Proofs
open Sys2Proof.Machine Sys2Proof.Safety Sys2Proof.Laws

section
variable {s t u : State} {p : Profile}

/-! ### A coin in the lane -/

/-- The sequence number of an arrival (R73). -/
def arrivalSeq (s : State) : Nat :=
  if s.coin.purseFig = .absent ∧ s.coin.escrow = [] then 1 else s.coin.arrival

/-- A coin at the tail, before it is counted and credited. -/
def coinJoined (cls value : Nat) (s : State) : State :=
  touchLive { s with coin := { s.coin with
    passages := s.coin.passages.drop 1,
    escrow := s.coin.escrow ++ [⟨cls, value, arrivalSeq s, s.cal.time⟩],
    arrival := nextSeq (arrivalSeq s) } }

/-- A coin at the tail, counted but not yet credited. -/
def coinCounted (i : Fin 6) (value : Nat) (s : State) : State :=
  countAccepted (i.val + 1) (coinJoined (i.val + 1) value s)

/-- What a coin's arrival leaves, its event apart. -/
def coinArrived (i : Fin 6) (late : Bool) (value : Nat) (s : State) : State :=
  (if late then creditLate value else creditCoin value) (coinCounted i value s)

theorem laneBody_coin {i : Fin 6} {w : Nat} {late : Bool} {l : List Passage}
    (hp : s.gate.profile = some p) (hlen : s.coin.escrow.length < 10)
    (hps : s.coin.passages = ⟨some (i.val + 1), w, late⟩ :: l) :
    ∃ d, laneBody s = raise .coin 1 d (coinArrived i late (p.classes.getD i.val (0, false)).1 s) := by
  have arrive : laneBody s = arriveCoin (i.val + 1) late s := by
    simp only [laneBody, hps, if_neg (Nat.not_le.mpr hlen)]
  rw [arrive]
  unfold arriveCoin
  rw [hp]
  exact ⟨_, rfl⟩

/-- A counted coin leaves the call, the report, the part, the money and the lane. -/
theorem coinCounted_rest (i : Fin 6) (value : Nat) (s : State) :
    beside (coinCounted i value s) = beside s ∧ (coinCounted i value s).meter = s.meter
      ∧ laneOf (coinCounted i value s).coin = laneOf s.coin
      ∧ (coinCounted i value s).coin.started = s.coin.started
      ∧ (coinCounted i value s).coin.escrow
          = s.coin.escrow ++ [⟨i.val + 1, value, arrivalSeq s, s.cal.time⟩] := by
  obtain ⟨h1, h2, h3⟩ := countAccepted_beside (i.val + 1) (coinJoined (i.val + 1) value s)
  refine ⟨h1, h2, ?_, ?_, ?_⟩
  · rw [coinCounted, h3]; rfl
  · rw [coinCounted, h3]; rfl
  · rw [coinCounted, h3]; rfl

/-- The three ways a coin is credited: to the purse there is or opens, to one to be settled at the end of
a paid call, and to one settled at once. -/
theorem coinArrived_cases (i : Fin 6) (late : Bool) (value : Nat) (s : State) :
    (coinArrived i late value s = setPurse (credited s.meter.purse value) (coinCounted i value s)
      ∧ (s.meter.purse.state = .absent → late = false))
    ∨ (s.meter.purse.state = .absent ∧ late = true ∧ paidCall s = true
      ∧ coinArrived i late value s = updCall (fun c => { c with settleDue := true })
          (setPurse (credited s.meter.purse value) (coinCounted i value s)))
    ∨ (s.meter.purse.state = .absent ∧ late = true ∧ paidCall s = false
      ∧ coinArrived i late value s = setPurse { credited s.meter.purse value with state := .settling }
          (setPurse (credited s.meter.purse value) (coinCounted i value s))) := by
  obtain ⟨hb, hm, -, -, -⟩ := coinCounted_rest i value s
  have call := (beside_fields hb).1
  have paid : paidCall (coinCounted i value s) = paidCall s := by rw [paidCall, call, paidCall]
  unfold coinArrived
  cases late with
  | false =>
    left
    rw [if_neg (by simp), creditCoin_eq, hm]
    exact ⟨rfl, fun _ => rfl⟩
  | true =>
    rw [if_pos rfl]
    have cases := creditLate_cases value (coinCounted i value s)
    rw [paid, hm] at cases
    obtain ⟨ha, h⟩ | ⟨ha, hc, h⟩ | ⟨ha, hc, h⟩ := cases
    · exact .inl ⟨h, fun h' => absurd h' ha⟩
    · exact .inr (.inl ⟨ha, rfl, hc, h⟩)
    · exact .inr (.inr ⟨ha, rfl, hc, h⟩)

/-- A coin's arrival leaves the part, the station, the claim, the hook, the report and the lane. -/
theorem coinArrived_rest (i : Fin 6) (late : Bool) (value : Nat) (s : State) :
    steady (coinArrived i late value s) = steady (coinCounted i value s)
      ∧ (coinArrived i late value s).sys = s.sys ∧ (coinArrived i late value s).report = s.report
      ∧ (coinArrived i late value s).call = { s.call with cur := (coinArrived i late value s).call.cur }
      ∧ laneOf (coinArrived i late value s).coin = laneOf s.coin
      ∧ (coinArrived i late value s).coin.started = s.coin.started
      ∧ (coinArrived i late value s).coin.escrow
          = s.coin.escrow ++ [⟨i.val + 1, value, arrivalSeq s, s.cal.time⟩] := by
  obtain ⟨hb, -, hl, hst, he⟩ := coinCounted_rest i value s
  obtain ⟨hcall, hrep, hsys⟩ := beside_fields hb
  have cases := coinArrived_cases i late value s
  generalize coinArrived i late value s = u at cases ⊢
  generalize coinCounted i value s = v at cases hl hst he hcall hrep hsys ⊢
  obtain ⟨h, -⟩ | ⟨-, -, -, h⟩ | ⟨-, -, -, h⟩ := cases
  · rw [h]
    exact ⟨rfl, hsys, hrep, by simp [setPurse, touchLive, hcall], hl, hst, he⟩
  · rw [h]
    exact ⟨rfl, hsys, hrep, by simp [updCall, setPurse, touchLive, hcall], hl, hst, he⟩
  · rw [h]
    exact ⟨rfl, hsys, hrep, by simp [setPurse, touchLive, hcall], hl, hst, he⟩

/-- `coinArrived_cases`, in what it says of the purse and the call. -/
theorem coinArrived_money (i : Fin 6) (late : Bool) (value : Nat) (s : State) :
    ((coinArrived i late value s).meter.purse = credited s.meter.purse value
        ∧ (s.meter.purse.state = .absent → late = false))
      ∨ (s.meter.purse.state = .absent ∧ late = true ∧ paidCall s = true
        ∧ (coinArrived i late value s).meter.purse = credited s.meter.purse value
        ∧ (coinArrived i late value s).call.cur
            = s.call.cur.map (fun c => { c with settleDue := true }))
      ∨ (s.meter.purse.state = .absent ∧ late = true ∧ paidCall s = false
        ∧ (coinArrived i late value s).meter.purse
            = { credited s.meter.purse value with state := .settling }) := by
  have cases := coinArrived_cases i late value s
  have call : (coinCounted i value s).call = s.call :=
    (beside_fields (coinCounted_rest i value s).1).1
  generalize coinArrived i late value s = u at cases ⊢
  generalize coinCounted i value s = v at cases call
  obtain ⟨h, hl⟩ | ⟨h1, h2, h3, h⟩ | ⟨h1, h2, h3, h⟩ := cases
  · exact .inl ⟨by rw [h]; rfl, hl⟩
  · exact .inr (.inl ⟨h1, h2, h3, by rw [h]; rfl, by rw [h, ← call]; rfl⟩)
  · exact .inr (.inr ⟨h1, h2, h3, by rw [h]; rfl⟩)

/-- A purse settling beside a clear lane with one coin gives the coin back at once (R78, R129). -/
theorem judgeMoney_givesBack {e : EscrowEntry} (hs : s.coin.started = true) (hl : s.coin.lane = .clear)
    (he : s.coin.escrow = [e]) (hc : e.cls ≠ 0) (hp : s.meter.purse.state = .settling)
    (hk : s.meter.purse.c ≤ s.meter.purse.k) :
    (judgeMoney s).meter.purse = s.meter.purse ∧ (judgeMoney s).coin.lane = .toReturn
      ∧ (judgeMoney s).coin.gatePos = .toReturn := by
  have hook : settleOnHook s = s := by simp [settleOnHook, beginSettlement, hp]
  have want : settleDemand s = .giveBack := if_neg fun h => absurd h.1 (Nat.not_lt.mpr hk)
  have cause : holdCauseOf .giveBack s = .nothing := by simp [holdCauseOf, hl]
  have demand : judgeDemand s = setDemand .giveBack s := by
    unfold judgeDemand
    simp only [hp, requestInFlight, hl, inFlight, he, want, cause]
    simp [setHold, setDemand, hp]
  rw [judgeMoney, if_pos hs, hook, demand]
  have lane : startLane (setDemand .giveBack s) = startAction .toReturn .toReturn
      (setDemand .idle (setDemand .giveBack s)) := by
    simp [startLane, setDemand, hl, he, hc]
  rw [lane]
  exact ⟨rfl, rfl, rfl⟩

theorem credited_absent {q : Purse} (h : q.state = .absent) (n : Nat) :
    credited q n = ⟨.opened, n, 0, 0, 0, 0, .nothing⟩ := by
  rw [credited, if_pos h]
  rfl

theorem credited_present {q : Purse} (h : q.state ≠ .absent) (n : Nat) :
    credited q n = { q with d := q.d + n } := if_neg h

theorem credited_state (q : Purse) (n : Nat) : (credited q n).state ≠ .absent := by
  unfold credited
  split
  · exact fun h => nomatch h
  · next h => exact h

/-- The money at the end of a lane edge that has left `u`, by what the arrival left there (R117, R128,
R129). -/
theorem lane_money {n value : Nat} {late : Bool} {e : EscrowEntry} (hr : u.sys.part = .running)
    (hcall : u.call = { s.call with cur := u.call.cur }) (hrep : u.report = s.report)
    (hl : laneOf u.coin = laneOf s.coin) (hst : u.coin.started = s.coin.started)
    (he : u.coin.escrow = s.coin.escrow ++ [e]) (hc : e.cls ≠ 0)
    (cases : (u.meter.purse = credited s.meter.purse value ∧ (s.meter.purse.state = .absent → late = false))
      ∨ (s.meter.purse.state = .absent ∧ late = true ∧ paidCall s = true
        ∧ u.meter.purse = credited s.meter.purse value
        ∧ u.call.cur = s.call.cur.map (fun c => { c with settleDue := true }))
      ∨ (s.meter.purse.state = .absent ∧ late = true ∧ paidCall s = false
        ∧ u.meter.purse = { credited s.meter.purse value with state := .settling })) :
    (finish n u).meter.purse.state ≠ .absent
      ∧ (s.meter.purse.state = .absent →
        (finish n u).meter.purse.d = value ∧ (finish n u).meter.purse.c = 0
          ∧ (finish n u).meter.purse.k = 0 ∧ (finish n u).meter.purse.r = 0
          ∧ (finish n u).meter.purse.x = 0)
      ∧ (s.meter.purse.state ≠ .absent →
        (finish n u).meter.purse.d = s.meter.purse.d + value
          ∧ (finish n u).meter.purse.c = s.meter.purse.c ∧ (finish n u).meter.purse.k = s.meter.purse.k
          ∧ (finish n u).meter.purse.r = s.meter.purse.r ∧ (finish n u).meter.purse.x = s.meter.purse.x)
      ∧ (s.meter.purse.state = .settling ∨ s.meter.purse.state = .held →
        (finish n u).meter.purse.state = .settling ∨ (finish n u).meter.purse.state = .held)
      ∧ (s.call.hook = true →
        (s.meter.purse.state = .absent → late = false ∨ paidCall s = true →
          (finish n u).meter.purse = ⟨.opened, value, 0, 0, 0, 0, .nothing⟩)
        ∧ (s.meter.purse.state = .opened →
          (finish n u).meter.purse = { s.meter.purse with d := s.meter.purse.d + value }))
      ∧ (s.meter.purse.state = .absent → late = true → paidCall s = true →
        (s.call.claim = .free → s.call.station = .idle → noReport s) →
        (finish n u).call.cur.any (·.settleDue) = true)
      ∧ (s.meter.purse.state = .absent → late = true → paidCall s = false →
        s.coin.started = true → s.coin.lane = .clear → s.coin.escrow = [] →
        (finish n u).meter.purse = ⟨.settling, value, 0, 0, 0, 0, .nothing⟩
          ∧ (finish n u).coin.lane = .toReturn ∧ (finish n u).coin.gatePos = .toReturn) := by
  have hook : u.call.hook = s.call.hook := by rw [hcall]
  have some_ : u.meter.purse.state ≠ .absent := by
    obtain ⟨h, -⟩ | ⟨-, -, -, h, -⟩ | ⟨-, -, -, h⟩ := cases
    · rw [h]; exact credited_state _ _
    · rw [h]; exact credited_state _ _
    · rw [h]; exact fun h => nomatch h
  have listed : u.coin.escrow ≠ [] := by simp [he]
  obtain ⟨money, lane, pos⟩ := finish_money n u hr
  obtain ⟨-, goes, opened⟩ := judgeMoney_goesOn u some_ listed
  have due := fun h => finish_settlementDue n u hr some_ listed h
  have gives := judgeMoney_givesBack (s := u) (e := e)
  rw [money, lane, pos]
  generalize finish n u = t at due
  obtain ⟨gd, gc, gk, gr, gx, gs, gset⟩ := id goes
  refine ⟨gs, fun ha => ?_, fun ha => ?_, fun hs => gset ?_, fun hh => ⟨fun ha hw => ?_, fun ho => ?_⟩,
    fun ha hlate hpaid hw => ?_, fun ha hlate hpaid hstarted hclear hempty => ?_⟩
  · rw [gd, gc, gk, gr, gx]
    have abs := credited_absent ha value
    obtain ⟨h, -⟩ | ⟨-, -, -, h, -⟩ | ⟨-, -, -, h⟩ := cases
    all_goals
      rw [h, abs]
      exact ⟨rfl, rfl, rfl, rfl, rfl⟩
  · rw [gd, gc, gk, gr, gx]
    obtain ⟨h, -⟩ | ⟨h, -⟩ | ⟨h, -⟩ := cases
    · rw [h, credited_present ha]
      exact ⟨rfl, rfl, rfl, rfl, rfl⟩
    · exact absurd h ha
    · exact absurd h ha
  · have ha : s.meter.purse.state ≠ .absent := by obtain h | h := hs <;> simp [h]
    obtain ⟨h, -⟩ | ⟨h, -⟩ | ⟨h, -⟩ := cases
    · rw [h, credited_present ha]
      exact hs
    · exact absurd h ha
    · exact absurd h ha
  · have abs := credited_absent ha value
    have mine : u.meter.purse = credited s.meter.purse value := by
      obtain ⟨h, -⟩ | ⟨-, -, -, h, -⟩ | ⟨-, hlate, hpaid, -⟩ := cases
      · exact h
      · exact h
      · obtain h | h := hw
        · rw [hlate] at h; cases h
        · rw [hpaid] at h; cases h
    rw [opened (by rw [mine, abs]) (hook.trans hh), mine, abs]
  · have ha : s.meter.purse.state ≠ .absent := by simp [ho]
    obtain ⟨h, -⟩ | ⟨h, -⟩ | ⟨h, -⟩ := cases
    · rw [opened (by rw [h, credited_present ha]; exact ho) (hook.trans hh), h, credited_present ha]
    · exact absurd h ha
    · exact absurd h ha
  · obtain ⟨-, h⟩ | ⟨-, -, -, -, h⟩ | ⟨-, -, h, -⟩ := cases
    · rw [h ha] at hlate; cases hlate
    · have mark : settlementDue u = true := by
        rw [settlementDue, h]
        cases hcur : s.call.cur with
        | none => simp [paidCall, hcur] at hpaid
        | some c => rfl
      refine (due fun hcl hidle => ?_).trans mark
      rw [hcall] at hcl hidle
      rw [noReport, hrep]
      exact hw hcl hidle
    · rw [hpaid] at h; cases h
  · have abs := credited_absent ha value
    obtain ⟨-, h⟩ | ⟨-, -, h, -⟩ | ⟨-, -, -, h⟩ := cases
    · rw [h ha] at hlate; cases hlate
    · rw [hpaid] at h; cases h
    · rw [abs] at h
      obtain ⟨g1, g2, g3⟩ := gives (hst.trans hstarted) ((congrArg Prod.fst hl).trans hclear)
        (by rw [he, hempty]; rfl) hc (by rw [h]) (Nat.le_of_eq (by rw [h]))
      exact ⟨g1.trans h, g2, g3⟩

end

/-- Settles O43. -/
theorem laneEdgeAddsAnEntry : Obligations.LaneEdgeAddsAnEntry := by
  intro s p hr hp
  have exec_eq : exec .laneEdge s = .next (stepWith laneBody s) := runningStep hr
  refine ⟨fun hlen => ⟨?_, fun hps => ?_⟩, fun hlen => ?_⟩
  · intro i w late l hps n value seq hn hvalue hseq
    obtain ⟨d, body⟩ := laneBody_coin hp hlen hps
    rw [← hvalue] at body
    obtain ⟨hsteady, hsys, hrep, hcall, hlane, hstarted, hesc⟩ := coinArrived_rest i late value s
    have counted := countAccepted_steady i (coinJoined (i.val + 1) value s) n hn
    have money := coinArrived_money i late value s
    have raised := raise_unposted .coin 1 d (coinArrived i late value s)
    rw [← body] at raised
    generalize coinArrived i late value s = v at hsteady hsys hrep hcall hlane hstarted hesc money raised
    refine leadsWith_stepWith exec_eq ?_ ?_
    · refine (steady_of_unposted raised).trans (hsteady.trans (counted.trans ?_))
      have seq_eq : arrivalSeq s = seq := hseq.symm
      simp only [coinJoined, seq_eq, hps]
      rfl
    · have ucoin := coin_of_unposted raised
      have umeter := meter_of_unposted raised
      have ucall := call_of_unposted raised
      have urep := report_of_unposted raised
      have usys := sys_of_unposted raised
      rw [stepWith]
      generalize laneBody s = u at ucoin umeter ucall urep usys ⊢
      rw [← ucoin] at hlane hstarted hesc
      rw [← umeter, ← ucall] at money
      rw [← ucall] at hcall
      exact lane_money ((congrArg Sys.part (usys.trans hsys)).trans hr) hcall (urep.trans hrep) hlane
        hstarted hesc (Nat.succ_ne_zero _) money
  · refine leads_stepWith exec_eq ?_
    have foreign : laneBody s = arriveForeign s := by
      unfold laneBody
      rw [if_neg (Nat.not_le.mpr hlen)]
      split
      · next x l hx =>
        rw [hps x l hx]
      · rfl
    rw [foreign]
    exact steady_of_unposted (raise_unposted _ _ _ _)
  · refine leads_stepWith exec_eq ?_
    rw [laneBody, if_pos hlen]
    exact steady_of_unposted (raise_unposted _ _ _ _)

end Sys2Proof.Proofs

/-! The end of a call of the caller or an incoming call (R102, R115, R126, R164). -/
namespace Sys2Proof.Proofs
open Sys2Proof.Machine Sys2Proof.Safety Sys2Proof.Laws

section
variable {s t u : State} {p : Profile}

/-! ### The record handed over (R164 to R166) -/

theorem ring_of_unposted (h : unposted t = unposted s) : t.ring = s.ring :=
  show (unposted t).ring = (unposted s).ring from congrArg State.ring h

/-- `t` is `s` but for the Record Unit, the counts and the posts. -/
def recordsOnly (s t : State) : Prop :=
  unposted t = unposted { s with ring := t.ring, tally := t.tally }

theorem recordsOnly_trans (h : recordsOnly s t) (h' : recordsOnly t u) : recordsOnly s u := by
  have := congrArg (fun x : State => unposted { x with ring := u.ring, tally := u.tally }) h
  exact h'.trans this

theorem recordsOnly_of_unposted (h : unposted t = unposted s) : recordsOnly s t := by
  rw [recordsOnly, ring_of_unposted h, tally_of_unposted h, h]

theorem recordsOnly_offer (q : Producer) (es : List PostEntry) (h : recordsOnly s u) :
    recordsOnly s (offer q es u) :=
  recordsOnly_trans h (recordsOnly_of_unposted (offer_unposted q es u))
theorem offer_ring (q : Producer) (es : List PostEntry) (s : State) : (offer q es s).ring = s.ring :=
  ring_of_unposted (offer_unposted q es s)
theorem offer_tally (q : Producer) (es : List PostEntry) (s : State) : (offer q es s).tally = s.tally :=
  tally_of_unposted (offer_unposted q es s)

theorem placeRecord_only (c : CallRecord) (s : State) : recordsOnly s (placeRecord c s)
    ∧ (placeRecord c s).ring.seq = s.ring.seq ∧ (placeRecord c s).tally = s.tally := by
  unfold placeRecord
  split
  · exact ⟨rfl, rfl, rfl⟩
  · exact ⟨recordsOnly_offer _ _ rfl, by rw [offer_ring], by rw [offer_tally]⟩

theorem dropRecord_only (s : State) : recordsOnly s (dropRecord s)
    ∧ (dropRecord s).ring.seq = s.ring.seq ∧ (dropRecord s).tally.lineLost = s.tally.lineLost := by
  unfold dropRecord
  dsimp only
  split
  · exact ⟨rfl, rfl, rfl⟩
  · split
    · exact ⟨recordsOnly_offer _ _ rfl, by rw [offer_ring]; rfl, by rw [offer_tally]; rfl⟩
    · exact ⟨rfl, rfl, rfl⟩

theorem placePending_only (s : State) : recordsOnly s (placePending s)
    ∧ (placePending s).ring.seq = s.ring.seq ∧ (placePending s).tally = s.tally := by
  unfold placePending
  split
  · exact ⟨rfl, rfl, rfl⟩
  · next c _ =>
    split
    · obtain ⟨h, hs, ht⟩ := placeRecord_only c { s with ring := { s.ring with slot := none } }
      exact ⟨h, hs, ht⟩
    · exact ⟨rfl, rfl, rfl⟩

theorem countKind_lineLost (k : CallKind) (t : Tally) : (countKind k t).lineLost = t.lineLost := by
  unfold countKind
  split <;> rfl

/-- A record handed over takes a sequence number, and changes nothing but the Record Unit and the counts. -/
theorem handRecord_only (c : CallRecord) (s : State) : recordsOnly s (handRecord c s).1
    ∧ (handRecord c s).1.ring.seq = (s.ring.seq + 1) % 65536
    ∧ (handRecord c s).1.tally.lineLost = s.tally.lineLost := by
  obtain ⟨h0, seq0, tally0⟩ := placePending_only s
  unfold handRecord
  dsimp only
  generalize placePending s = v at h0 seq0 tally0
  generalize hv : (updTally (countKind c.kind)
    { v with ring := { v.ring with seq := (v.ring.seq + 1) % 65536 } }) = w
  have h1 : recordsOnly s w := recordsOnly_trans h0 (by rw [← hv]; rfl)
  have seq1 : w.ring.seq = (s.ring.seq + 1) % 65536 := by rw [← hv, ← seq0]; rfl
  have lost1 : w.tally.lineLost = s.tally.lineLost := by
    rw [← hv, ← tally0]
    exact countKind_lineLost _ _
  split
  · split
    · obtain ⟨h, hs, ht⟩ := placeRecord_only { c with seq := v.ring.seq } w
      exact ⟨recordsOnly_trans h1 h, hs.trans seq1, (congrArg Tally.lineLost ht).trans lost1⟩
    · exact ⟨recordsOnly_trans h1 rfl, seq1, lost1⟩
  · obtain ⟨h, hs, ht⟩ := dropRecord_only w
    split
    · exact ⟨recordsOnly_trans (recordsOnly_trans h1 h) rfl, hs.trans seq1, ht.trans lost1⟩
    · exact ⟨recordsOnly_trans h1 h, hs.trans seq1, ht.trans lost1⟩

/-! ### The steps of R102 -/

/-- The line as the end of a call leaves it (R115). -/
def endedLine (s : State) : Line :=
  if s.line.state = .released ∨ s.line.state = .clearing then
    { s.line with sender := none, waiting := false }
  else { s.line with
    state := .clearing, seize := false, waiting := false, loopTimer := none, toneLimit := none,
    tonePeriod := none, loss := none, answerP := none, clearP := none, sender := none,
    guard := seconds (param (·.guardS) s) }

/-- The call control as the end of a call leaves it (R102). -/
def endedCall (x : Station) (c : CallCtl) : CallCtl :=
  { c with
    station := x, dialQueue := [], creditTimer := none, answerTimer := none, interDigit := none,
    claim := .free, cur := none }

/-- The state once a call is let go, before its record is handed over. -/
def callReleased (c : CallInfo) (s : State) : State :=
  { s with
    call := endedCall s.call.station s.call, line := endedLine s,
    tamper := { s.tamper with lossTimer :=
      if s.line.state = .released ∨ s.line.state = .clearing then s.tamper.lossTimer else none },
    meter := (takeEnd c s).meter, coin := (takeEnd c s).coin, img := (takeEnd c s).img }

/-- What taking the end of a call changes. -/
theorem takeEnd_only (c : CallInfo) (s : State) : takeEnd c s = { s with
    meter := (takeEnd c s).meter, coin := (takeEnd c s).coin, img := (takeEnd c s).img } := by
  unfold takeEnd beginSettlement
  split
  · split <;> rfl
  · rfl

theorem endCall_released {c : CallInfo} (o : CallOutcome) (x : Station) (h : s.call.cur = some c) :
    endCall o x s = setStation x (if c.seized then
      raise .call 10 (endedDetail (handRecord (callRecord o c s.meter.units s.meter.charge
          (credit s.meter.purse)) (callReleased c s)).2 (recordedKind c.kind) o s.meter.charge)
        (handRecord (callRecord o c s.meter.units s.meter.charge (credit s.meter.purse))
          (callReleased c s)).1
      else callReleased c s) := by
  have released : ∀ v : State, v = { s with
      call := { s.call with dialQueue := [], creditTimer := none, answerTimer := none, interDigit := none },
      line := { s.line with sender := none } } →
      ({ releaseLine { takeEnd c v with line := { (takeEnd c v).line with waiting := false } } with
        call := { (releaseLine { takeEnd c v with
          line := { (takeEnd c v).line with waiting := false } }).call with claim := .free, cur := none } } : State)
        = callReleased c s := by
    rintro v rfl
    have split_end : takeEnd c { s with
        call := { s.call with dialQueue := [], creditTimer := none, answerTimer := none, interDigit := none },
        line := { s.line with sender := none } } = { takeEnd c s with
        call := { s.call with dialQueue := [], creditTimer := none, answerTimer := none, interDigit := none },
        line := { s.line with sender := none } } := by
      unfold takeEnd beginSettlement
      split
      · have same : ∀ w : State, (endMetering { w with
            call := { w.call with dialQueue := [], creditTimer := none, answerTimer := none, interDigit := none },
            line := { w.line with sender := none } }).meter.purse = (endMetering w).meter.purse := fun _ => rfl
        rw [same]
        split <;> rfl
      · rfl
    rw [split_end, takeEnd_only]
    unfold releaseLine callReleased endedLine
    dsimp only
    by_cases hl : s.line.state = .released ∨ s.line.state = .clearing
    · rw [if_pos hl, if_pos hl, if_pos hl]
      rfl
    · rw [if_neg hl, if_neg hl, if_neg hl]
      rfl
  unfold endCall
  rw [h]
  dsimp only
  rw [released _ rfl]

/-- The end of a call: what it leaves but for the counts and the posts. -/
theorem endCall_rest {c : CallInfo} (o : CallOutcome) (x : Station) (h : s.call.cur = some c) :
    recordsOnly { callReleased c s with call := endedCall x s.call } (endCall o x s)
      ∧ (endCall o x s).ring.seq
          = (if c.seized then (s.ring.seq + 1) % 65536 else s.ring.seq)
      ∧ (endCall o x s).tally.lineLost = s.tally.lineLost := by
  rw [endCall_released o x h]
  obtain ⟨hh, hseq, hlost⟩ := handRecord_only
    (callRecord o c s.meter.units s.meter.charge (credit s.meter.purse)) (callReleased c s)
  have station : ∀ v : State, recordsOnly (callReleased c s) v →
      recordsOnly { callReleased c s with call := endedCall x s.call } (setStation x v) := fun v hv =>
    congrArg (fun y : State => unposted { y with call := { y.call with station := x } }) hv
  cases c.seized with
  | false => exact ⟨station _ rfl, rfl, rfl⟩
  | true =>
    simp only [if_true]
    generalize handRecord (callRecord o c s.meter.units s.meter.charge (credit s.meter.purse))
      (callReleased c s) = r at hh hseq hlost
    have raised := raise_unposted .call 10
      (endedDetail r.2 (recordedKind c.kind) o s.meter.charge) r.1
    refine ⟨station _ (recordsOnly_trans hh (recordsOnly_of_unposted raised)), ?_, ?_⟩
    · exact (congrArg CallRing.seq (ring_of_unposted raised)).trans hseq
    · exact (congrArg Tally.lineLost (tally_of_unposted raised)).trans hlost

theorem takeEnd_metering (c : CallInfo) (s : State) : (takeEnd c s).meter.metered = none
    ∧ (takeEnd c s).meter.units = 0 ∧ (takeEnd c s).meter.charge = 0
    ∧ (takeEnd c s).meter.warnTimer = none ∧ (takeEnd c s).coin.escrow = s.coin.escrow
    ∧ (takeEnd c s).coin.started = s.coin.started := by
  unfold takeEnd beginSettlement
  split
  · split <;> exact ⟨rfl, rfl, rfl, rfl, rfl, rfl⟩
  · exact ⟨rfl, rfl, rfl, rfl, rfl, rfl⟩

theorem takeEnd_closed {c : CallInfo} (h : c.settleDue = true) :
    (takeEnd c s).meter.purse.state ≠ .opened := by
  unfold takeEnd
  rw [if_pos h, beginSettlement]
  split
  · exact fun h => nomatch h
  · next h => exact h

/-! ### The end of a call at the end of its step -/

/-- What the end of a call leaves at the end of its step: `callOver`, and what it does not touch. -/
structure CallEnded (x : Station) (s t : State) : Prop where
  ended : callOver x s t
  purse : s.call.hook = true → s.meter.purse.state = .opened →
    s.call.cur.any (·.settleDue) = false → t.meter.purse = s.meter.purse
  lost : t.tally.lineLost = s.tally.lineLost
  hook : t.call.hook = s.call.hook
  escrow : t.coin.escrow = s.coin.escrow
  chans : t.tamper.chans = s.tamper.chans
  force : t.tamper.force = s.tamper.force
  mem : t.mem = s.mem

theorem lineLost_of_steady (h : steady t = steady s) : t.tally.lineLost = s.tally.lineLost :=
  show (steady t).tally.lineLost = (steady s).tally.lineLost from congrArg (·.tally.lineLost) h

/-- A state that the end of a call has left, at the end of its step. -/
theorem callOver_finish {c : CallInfo} {x : Station} (n : Nat) (hcur : s.call.cur = some c)
    (hr : u.sys.part = .running) (hn : noReport u) (hx : x = .idle ∨ x = .ready)
    (ucall : u.call = endedCall x s.call) (uline : u.line = endedLine s)
    (umeter : metering u.meter = metering (takeEnd c s).meter)
    (upurse : c.settleDue = true → u.meter.purse.state ≠ .opened)
    (hseq : u.ring.seq = if c.seized then (s.ring.seq + 1) % 65536 else s.ring.seq) :
    callOver x s (finish n u) := by
  have rest : AtRest u := by
    refine ⟨hr, hn, ?_⟩
    rw [ucall]
    obtain rfl | rfl := hx <;> simp [endedCall]
  obtain ⟨fline, -, -, fcall⟩ := finish_atRest n rest
  have fmeter : (finish n u).meter = (judgeMoney u).meter := by rw [finish_meter, settle_meter hr]
  obtain ⟨jm, jp⟩ := judgeMoney_meter u
  have fring := finish_ring n u
  generalize finish n u = t at fline fcall fmeter fring
  obtain ⟨em, eu, ec, ew, -, -⟩ := takeEnd_metering c s
  have metering_ : metering t.meter = metering (takeEnd c s).meter := by rw [fmeter, jm, umeter]
  rw [ucall] at fcall
  refine ⟨?_, ?_, ?_, ?_, ?_, ?_, ?_, ?_, ?_, ?_, ?_, fun hd => ?_, fun h1 h2 => ?_, fun c' hc' => ?_⟩
  · rw [fcall]; rfl
  · rw [fcall]; rfl
  · rw [fcall]; rfl
  · rw [fcall]; rfl
  · rw [fcall]; rfl
  · rw [fcall]; rfl
  · rw [fcall]
  · exact (congrArg Meter.metered metering_).trans em
  · exact (congrArg Meter.units metering_).trans eu
  · exact (congrArg Meter.charge metering_).trans ec
  · exact (congrArg Meter.warnTimer metering_).trans ew
  · rw [hcur] at hd
    rw [fmeter]
    exact jp (upurse hd)
  · rw [fline, uline, endedLine, if_neg (by simp [h1, h2])]
    exact ⟨rfl, rfl, rfl, rfl⟩
  · rw [hcur] at hc'
    cases hc'
    rw [fring, hseq]

/-- The hook through a step that ends a call. -/
theorem hook_ended {x : Station} (n : Nat) (hr : u.sys.part = .running) (hn : noReport u)
    (hx : x = .idle ∨ x = .ready) (ucall : u.call = endedCall x s.call) :
    (finish n u).call.hook = s.call.hook := by
  have rest : AtRest u := by
    refine ⟨hr, hn, ?_⟩
    rw [ucall]
    obtain rfl | rfl := hx <;> simp [endedCall]
  obtain ⟨-, -, -, fcall⟩ := finish_atRest n rest
  rw [fcall, ucall]
  rfl

/-- A step that leaves the state as the end of a call has it, whatever was posted. -/
theorem callEnded_finish {c : CallInfo} {x : Station} (n : Nat) (hcur : s.call.cur = some c)
    (hr : s.sys.part = .running) (hn : noReport s) (hx : x = .idle ∨ x = .ready)
    (h : recordsOnly { callReleased c s with call := endedCall x s.call } u)
    (hseq : u.ring.seq = if c.seized then (s.ring.seq + 1) % 65536 else s.ring.seq)
    (hlost : u.tally.lineLost = s.tally.lineLost) : CallEnded x s (finish n u) := by
  have ucall : u.call = endedCall x s.call := (call_of_unposted h).trans rfl
  have uline : u.line = endedLine s := (line_of_unposted h).trans rfl
  have umeter : u.meter = (takeEnd c s).meter := (meter_of_unposted h).trans rfl
  have ureport : u.report = s.report := (report_of_unposted h).trans rfl
  have usys : u.sys = s.sys := (sys_of_unposted h).trans rfl
  have ucoin : u.coin = (takeEnd c s).coin := (coin_of_unposted h).trans rfl
  have umem : u.mem = s.mem := (mem_of_unposted h).trans rfl
  have uchans : u.tamper.chans = s.tamper.chans := (congrArg Tamper.chans (tamper_of_unposted h)).trans rfl
  have uforce : u.tamper.force = s.tamper.force := (congrArg Tamper.force (tamper_of_unposted h)).trans rfl
  have urun : u.sys.part = .running := by rw [usys]; exact hr
  have uquiet : noReport u := by rw [noReport, ureport]; exact hn
  have fsteady := finish_steady n u
  have ended := callOver_finish n hcur urun uquiet hx ucall uline (by rw [umeter])
    (fun hd => by rw [umeter]; exact takeEnd_closed hd) hseq
  have hook := hook_ended n urun uquiet hx ucall
  have fmeter : (finish n u).meter = (judgeMoney u).meter := by rw [finish_meter, settle_meter urun]
  generalize finish n u = t at fsteady ended hook fmeter
  have force := congrArg Tamper.force (tamperRest_of_steady fsteady)
  refine ⟨ended, fun hh ho hd => ?_, ?_, hook, ?_, (tamper_of_steady fsteady).trans uchans,
    Eq.trans force uforce, ?_⟩
  · rw [hcur] at hd
    have kept : u.meter.purse = s.meter.purse := by rw [umeter, takeEnd_purse c s hd]
    rw [fmeter, judgeMoney_open (by rw [kept]; exact ho) (by rw [ucall]; exact hh), kept]
  · rw [lineLost_of_steady fsteady, hlost]
  · rw [escrow_of_steady fsteady, ucoin, (takeEnd_metering c s).2.2.2.2.1]
  · rw [mem_of_steady fsteady, umem]

/-- A call ended in its own step. -/
theorem callEnded_endCall {x : Station} (n : Nat) (o : CallOutcome) (hcur : s.call.cur ≠ none)
    (hr : s.sys.part = .running) (hn : noReport s) (hx : x = .idle ∨ x = .ready) :
    CallEnded x s (finish n (endCall o x s)) := by
  obtain ⟨c, hcur⟩ := Option.ne_none_iff_exists'.mp hcur
  obtain ⟨h, hseq, hlost⟩ := endCall_rest o x hcur
  exact callEnded_finish n hcur hr hn hx h hseq hlost

/-- A call's end seen from a state with the same call, line state, profile and sequence number. -/
theorem callOver_from {x : Station} (h : callOver x u t) (hcur : u.call.cur = s.call.cur)
    (hline : u.line.state = s.line.state) (hprof : u.gate.profile = s.gate.profile)
    (hseq : u.ring.seq = s.ring.seq) : callOver x s t := by
  have guard : param (·.guardS) u = param (·.guardS) s := by unfold param; rw [hprof]
  unfold callOver at h ⊢
  rwa [hcur, hline, guard, hseq] at h

end

end Sys2Proof.Proofs

/-! Where what the part writes stands: the bytes of a call record and of the images (R186, sections 13.1, 13.4
and 13.5). -/
namespace Sys2Proof.Proofs
open Sys2Proof.Machine Sys2Proof.Safety Sys2Proof.Laws

/-! ### Fields read back -/

theorem b8_toNat (n : Nat) : (b8 n).toNat = n % 256 := BitVec.toNat_ofNat n 8

theorem b8_small {n : Nat} (h : n < 256) : (b8 n).toNat = n := by
  rw [b8_toNat, Nat.mod_eq_of_lt h]

/-- A two-byte field holds its number modulo 65536. -/
theorem read_two (n : Nat) : (b8 n).toNat + 256 * (b8 (n / 256)).toNat = n % 65536 := by
  simp only [b8_toNat]
  omega

/-- A three-byte field holds its number modulo 16777216. -/
theorem read_three (n : Nat) : (b8 n).toNat + 256 * (b8 (n / 256)).toNat
    + 65536 * (b8 (n / 256 / 256)).toNat = n % 16777216 := by
  simp only [b8_toNat]
  omega

/-- A four-byte field holds its number modulo 2 to the 32. -/
theorem read_four (n : Nat) : (b8 n).toNat + 256 * (b8 (n / 256)).toNat
    + 65536 * ((b8 (n / 256 / 256)).toNat + 256 * (b8 (n / 256 / 256 / 256)).toNat)
      = n % 4294967296 := by
  simp only [b8_toNat]
  omega

theorem read_count (n : Nat) : (b8 (min n 65535)).toNat + 256 * (b8 (min n 65535 / 256)).toNat
    = min 65535 n := by
  rw [read_two]
  omega

theorem read_money (n : Nat) : (b8 (min n 16777215)).toNat + 256 * (b8 (min n 16777215 / 256)).toNat
    + 65536 * (b8 (min n 16777215 / 256 / 256)).toNat = min 16777215 n := by
  rw [read_three]
  omega

/-! ### Packed digits (section 0.5.4) -/

theorem packDigits_length (k : Nat) (ds : List Nat) : (packDigits k ds).length = k := by
  induction k, ds using packDigits.induct <;> simp_all [packDigits]

theorem packPair_low (a b : Nat) : (packPair a b).toNat % 16 = a % 16 := by
  rw [packPair, b8_toNat]
  omega

theorem packPair_high (a b : Nat) : (packPair a b).toNat / 16 = b % 16 := by
  rw [packPair, b8_toNat]
  omega

theorem codeOr_nil (j : Nat) : codeOr [] j = 15 := if_neg (by simp)

theorem codeOr_cons_zero (a : Nat) (ds : List Nat) : codeOr (a :: ds) 0 = a % 16 := if_pos (by simp)

theorem codeOr_cons_succ (a : Nat) (ds : List Nat) (j : Nat) : codeOr (a :: ds) (j + 1) = codeOr ds j := by
  unfold codeOr
  simp

/-- The digit of a byte: its low half, then its high half. -/
theorem digitCode_cons (b : Byte) (bs : List Byte) (j : Nat) : digitCode (b :: bs) 0 j
    = match j with
      | 0 => b.toNat % 16
      | 1 => b.toNat / 16
      | j + 2 => digitCode bs 0 j := by
  unfold digitCode u8
  match j with
  | 0 => rfl
  | 1 => rfl
  | j + 2 =>
    have half : (j + 2) / 2 = j / 2 + 1 := by omega
    have odd : (j + 2) % 2 = j % 2 := by omega
    simp [half, odd]

/-- Packed digits read back, the filler past the last. -/
theorem digitCode_packDigits (k : Nat) (ds : List Nat) (j : Nat) (h : j < 2 * k) :
    digitCode (packDigits k ds) 0 j = codeOr ds j := by
  induction k, ds using packDigits.induct generalizing j with
  | case1 => omega
  | case2 k ih =>
    rw [packDigits, digitCode_cons]
    match j with
    | 0 => exact (packPair_low 15 15).trans (codeOr_nil 0).symm
    | 1 => exact (packPair_high 15 15).trans (codeOr_nil 1).symm
    | j + 2 => exact (ih j (by omega)).trans (by rw [codeOr_nil, codeOr_nil])
  | case3 k a ih =>
    rw [packDigits, digitCode_cons]
    match j with
    | 0 => exact (packPair_low a 15).trans (codeOr_cons_zero a []).symm
    | 1 =>
      rw [codeOr_cons_succ, codeOr_nil]
      exact packPair_high a 15
    | j + 2 =>
      rw [codeOr_cons_succ, codeOr_nil]
      exact (ih j (by omega)).trans (codeOr_nil j)
  | case4 k a b ds ih =>
    rw [packDigits, digitCode_cons]
    match j with
    | 0 => exact (packPair_low a b).trans (codeOr_cons_zero a _).symm
    | 1 =>
      rw [codeOr_cons_succ, codeOr_cons_zero]
      exact packPair_high a b
    | j + 2 =>
      rw [codeOr_cons_succ, codeOr_cons_succ]
      exact ih j (by omega)

/-! ### A region of a list -/

/-- A list of known length spelled out byte by byte. -/
def spelled (n : Nat) (p : List Byte) : List Byte := (List.range n).map (fun i => p.getD i 0)

theorem spelled_eq {n : Nat} {p : List Byte} (h : p.length = n) : spelled n p = p := by
  refine List.ext_getElem (by simp [spelled, h]) fun i h1 h2 => ?_
  simp [spelled, h2]

theorem byte_append_left {p q : List Byte} {k : Nat} (h : k < p.length) : (p ++ q).getD k 0 = p.getD k 0 := by
  rw [List.getD_eq_getElem?_getD, List.getD_eq_getElem?_getD, List.getElem?_append_left h]

theorem byte_append_right {p q : List Byte} {k : Nat} : (p ++ q).getD (p.length + k) 0 = q.getD k 0 := by
  rw [List.getD_eq_getElem?_getD, List.getD_eq_getElem?_getD, List.getElem?_append_right (Nat.le_add_right _ _),
    Nat.add_sub_cancel_left]

theorem byte_inside {p : List Byte} {k : Nat} (h : k < p.length) : p.getD k 0 = p[k] := by
  rw [List.getD_eq_getElem?_getD, List.getElem?_eq_getElem h, Option.getD_some]

theorem byte_beyond {p : List Byte} {k : Nat} (h : p.length ≤ k) : p.getD k 0 = 0 := by
  rw [List.getD_eq_getElem?_getD, List.getElem?_eq_none h, Option.getD_none]

theorem byte_zeros {n k : Nat} : (List.replicate n (0 : Byte)).getD k 0 = 0 := by
  rw [List.getD_eq_getElem?_getD, List.getElem?_replicate]
  split
  · exact Option.getD_some
  · exact Option.getD_none

/-- A byte inside a region. -/
theorem u8_region (a p b : List Byte) {k : Nat} (h : k < p.length) :
    u8 (a ++ (p ++ b)) (a.length + k) = u8 p k := by
  unfold u8
  rw [byte_append_right, byte_append_left h]

/-- The digits packed in a region. -/
theorem digitCode_region (a p b : List Byte) {j : Nat} (h : j < 2 * p.length) :
    digitCode (a ++ (p ++ b)) a.length j = digitCode p 0 j := by
  have hk : j / 2 < p.length := by omega
  unfold digitCode
  rw [u8_region a p b hk, Nat.zero_add]

/-! ### A call record (section 13.4) -/

/-- A call record in front of its digits. -/
def callFront (c : CallRecord) : List Byte :=
  leBytes 2 c.seq ++ [b8 (callKindCode c.kind), b8 (outcomeCode c.outcome), zoneByte c.zone,
    b8 c.digitCount]

/-- A call record behind its digits. -/
def callBack (c : CallRecord) : List Byte :=
  fullBytes c.start ++ (count2 c.wait ++ (leBytes 4 (min c.talk 4294967295) ++ (count2 c.units
    ++ (money3 c.charge ++ (money3 c.credit ++ (leBytes 2 c.edition
    ++ [b8 (c.band.toNat + 8 * nBool c.clockInvalid + 16 * nBool (decide (20 < c.digitCount))
        + 32 * nBool c.gatePassed), 0]))))))

theorem callBytes_eq (c : CallRecord) :
    callBytes c = callFront c ++ (packDigits 10 c.digits ++ callBack c) := by
  simp only [callBytes, callFront, callBack, List.append_assoc]

theorem nBool_ite (b : Bool) (k : Nat) : k * nBool b = if b then k else 0 := by
  cases b
  · exact Nat.mul_zero k
  · exact Nat.mul_one k

theorem zoneByte_toNat (z : Option Nat) : (zoneByte z).toNat = z.getD 255 % 256 := by
  cases z with
  | none => rfl
  | some z => exact b8_toNat z

/-- A call record's bytes hold its fields (section 13.4). -/
theorem callBytes_laid (c : CallRecord) : callLaid c (callBytes c) := by
  have digits : ∀ j < 20, digitCode (callBytes c) 6 j = codeOr c.digits j := by
    intro j hj
    have region := digitCode_region (callFront c) (packDigits 10 c.digits) (callBack c) (j := j)
      (by rw [packDigits_length]; exact hj)
    rw [← callBytes_eq] at region
    exact region.trans (digitCode_packDigits 10 c.digits j hj)
  have kind : callKindCode c.kind < 256 := by cases c.kind <;> decide
  have outcome : outcomeCode c.outcome < 256 := by cases c.outcome <;> decide
  have talk : min c.talk 4294967295 % 4294967296 = min 4294967295 c.talk := by omega
  have flags : c.band.toNat + 8 * nBool c.clockInvalid + 16 * nBool (decide (20 < c.digitCount))
      + 32 * nBool c.gatePassed < 256 := by
    have := c.band.isLt
    rw [nBool_ite, nBool_ite, nBool_ite]
    split <;> split <;> split <;> omega
  have whole : callBytes c = callFront c ++ (spelled 10 (packDigits 10 c.digits) ++ callBack c) := by
    rw [callBytes_eq, spelled_eq (packDigits_length 10 c.digits)]
  refine ⟨?_, ?_, ?_, ?_, ?_, ?_, digits, ?_⟩
  all_goals rw [whole]
  · rfl
  · exact read_two c.seq
  · exact b8_small kind
  · exact b8_small outcome
  · exact zoneByte_toNat c.zone
  · exact b8_toNat c.digitCount
  · refine ⟨b8_toNat _, b8_toNat _, b8_toNat _, b8_toNat _, b8_toNat _, b8_toNat _, read_count c.wait,
      (read_four _).trans talk, read_count c.units, read_money c.charge, read_money c.credit,
      read_two c.edition, ?_, rfl⟩
    refine (b8_small flags).trans ?_
    rw [nBool_ite, nBool_ite, nBool_ite]
    simp only [decide_eq_true_eq]

end Sys2Proof.Proofs

/-! The causes that end a call (R91, R99, R101, R102, R110, R111, R113) and its record (R164 to R166). -/
namespace Sys2Proof.Proofs
open Sys2Proof.Machine Sys2Proof.Safety Sys2Proof.Laws

section
variable {s t u v : State} {p : Profile}

/-! ### A call ended in its own step -/

/-- A step that ends the call in progress, from a state that differs from `s` in the line's timers, the
counts and the posts alone. -/
theorem callEnded_stepWith {c : Instr} {f : State → State} {o : CallOutcome}
    (he : exec c s = .next (stepWith f s)) (hf : f s = endCall o .ready v)
    (hv : unposted v = unposted { s with line := v.line, tally := v.tally })
    (hline : v.line.state = s.line.state) (hcur : s.call.cur ≠ none) (hr : s.sys.part = .running)
    (hn : noReport s) : ∃ t, exec c s = .next t ∧ callOver .ready s t
      ∧ (s.call.hook = true → s.meter.purse.state = .opened →
          s.call.cur.any (·.settleDue) = false → t.meter.purse = s.meter.purse)
      ∧ t.tally.lineLost = v.tally.lineLost ∧ t.call.hook = s.call.hook
      ∧ t.coin.escrow = s.coin.escrow ∧ t.tamper.chans = s.tamper.chans ∧ t.mem = s.mem := by
  have call : v.call = s.call := (call_of_unposted hv).trans rfl
  have sys : v.sys = s.sys := (sys_of_unposted hv).trans rfl
  have report : v.report = s.report := (report_of_unposted hv).trans rfl
  have meter : v.meter = s.meter := (meter_of_unposted hv).trans rfl
  have coin : v.coin = s.coin := (coin_of_unposted hv).trans rfl
  have tamper : v.tamper = s.tamper := (tamper_of_unposted hv).trans rfl
  have mem : v.mem = s.mem := (mem_of_unposted hv).trans rfl
  have prof : v.gate.profile = s.gate.profile := (profile_of_unposted hv).trans rfl
  have ring : v.ring = s.ring := (ring_of_unposted hv).trans rfl
  obtain ⟨ended, purse, lost, hook, escrow, chans, -, fmem⟩ := callEnded_endCall (s := v) (x := .ready)
    (waiting s) o (by rw [call]; exact hcur) (by rw [sys]; exact hr) (by rw [noReport, report]; exact hn)
    (.inr rfl)
  have step : finish (waiting s) (endCall o .ready v) = stepWith f s := by rw [stepWith, hf]
  rw [step] at ended purse lost hook escrow chans fmem
  refine ⟨stepWith f s, he, callOver_from ended (by rw [call]) hline prof (by rw [ring]), ?_, lost,
    hook.trans (by rw [call]), escrow.trans (by rw [coin]), chans.trans (by rw [tamper]),
    fmem.trans mem⟩
  rw [call, meter] at purse
  exact purse

theorem notKept_of_steady (h : steady t = steady s) : t.tally.notKept = s.tally.notKept :=
  show (steady t).tally.notKept = (steady s).tally.notKept from congrArg (·.tally.notKept) h

/-- A step that ends the call in progress behind an event. -/
theorem callEnded_raised {c : Instr} {f : State → State} {o : CallOutcome}
    (he : exec c s = .next (stepWith f s)) (hf : f s = endCall o .ready v)
    (hv : unposted v = unposted s) (hcur : s.call.cur ≠ none) (hr : s.sys.part = .running)
    (hn : noReport s) : ∃ t, exec c s = .next t ∧ callOver .ready s t
      ∧ (s.call.hook = true → s.meter.purse.state = .opened →
          s.call.cur.any (·.settleDue) = false → t.meter.purse = s.meter.purse)
      ∧ t.tally.lineLost = s.tally.lineLost ∧ t.call.hook = s.call.hook
      ∧ t.coin.escrow = s.coin.escrow ∧ t.tamper.chans = s.tamper.chans ∧ t.mem = s.mem := by
  have line := line_of_unposted hv
  have tally := tally_of_unposted hv
  have ends := callEnded_stepWith he hf (by rw [line, tally]; exact hv) (congrArg Line.state line)
    hcur hr hn
  rwa [tally] at ends

/-- A command that acts in RUNNING where its conditions hold. -/
theorem condStep {f : State → State} {d : Prop} [Decidable d] (hr : s.sys.part = .running) (hd : d) :
    (if d then Host.Outcome.next (inRunning f s)
      else .next s : Host.Outcome State Fault Refusal) = .next (stepWith f s) := by
  rw [if_pos hd, inRunning_eq f hr]

/-! ### The record of a call (R164 to R166) -/

theorem gated_iff (c : CallRecord) : gated c = true ↔ c.kind = .paid ∧ c.gatePassed = true := by
  rw [gated, Bool.and_eq_true, beq_iff_eq]

theorem displaces_iff (old c : CallRecord) : (!gated old && gated c) = true ↔
    ¬ (old.kind = .paid ∧ old.gatePassed = true) ∧ c.kind = .paid ∧ c.gatePassed = true := by
  rw [Bool.and_eq_true, Bool.not_eq_true', ← Bool.not_eq_true, gated_iff, gated_iff]

/-- The state in which a record handed over is placed: its sequence number is taken, its kind counted. -/
def seqTaken (k : CallKind) (s : State) : State :=
  updTally (countKind k) { s with ring := { s.ring with seq := (s.ring.seq + 1) % 65536 } }

theorem countKind_notKept (k : CallKind) (t : Tally) : (countKind k t).notKept = t.notKept := by
  unfold countKind
  split <;> rfl

theorem handRecord_empty {c : CallRecord} (h : s.ring.slot = none) (hr : (s.ring.w - s.ring.r).toNat < 64) :
    (handRecord c s).1 = placeRecord { c with seq := s.ring.seq } (seqTaken c.kind s) := by
  have room : unread s.ring.w s.ring.r < 64 := hr
  unfold handRecord
  rw [placePending_none h]
  dsimp only
  split
  · rw [if_pos room]
    rfl
  · next old h' => cases h.symm.trans h'

theorem handRecord_kept {c : CallRecord} (h : s.ring.slot = none) (hr : 64 ≤ (s.ring.w - s.ring.r).toNat) :
    (handRecord c s).1 = fillSlot { c with seq := s.ring.seq } (seqTaken c.kind s) := by
  have full : ¬ unread s.ring.w s.ring.r < 64 := Nat.not_lt.mpr hr
  unfold handRecord
  rw [placePending_none h]
  dsimp only
  split
  · rw [if_neg full]
    rfl
  · next old h' => cases h.symm.trans h'

theorem handRecord_full {c old : CallRecord} (h : s.ring.slot = some old)
    (hr : 64 ≤ (s.ring.w - s.ring.r).toNat) : (handRecord c s).1
      = if !gated old && gated c then fillSlot { c with seq := s.ring.seq } (dropRecord (seqTaken c.kind s))
        else dropRecord (seqTaken c.kind s) := by
  unfold handRecord
  rw [placePending_full h hr]
  dsimp only
  split
  · next h' => cases h.symm.trans h'
  · next old' h' =>
    cases h.symm.trans h'
    have same : gated { c with seq := s.ring.seq } = gated c := rfl
    rw [same]
    split <;> rfl

/-- A record dropped, with room for the header's run (R166). -/
theorem dropRecord_counts (hp : s.gate.profile = some p) (hw : s.gate.waiters = [])
    (hq : s.gate.queue.length ≤ 15) (hk : s.ring.notKept ≤ 255) :
    (dropRecord s).ring = { s.ring with notKept := min 255 (s.ring.notKept + 1) }
      ∧ (dropRecord s).tally.notKept = min 65535 (s.tally.notKept + 1)
      ∧ (s.ring.notKept < 255 → (dropRecord s).gate.queue = s.gate.queue
          ++ [.write (p.callsBase + 2) [BitVec.ofNat 8 (s.ring.notKept + 1)] .plain]) := by
  unfold dropRecord
  rw [hp]
  dsimp only
  by_cases h : s.ring.notKept < 255
  · rw [if_pos h, offer_room _ _ _ (by exact hw) (by exact Nat.succ_le_succ hq),
      Nat.min_eq_right (Nat.succ_le_of_lt h)]
    exact ⟨rfl, rfl, fun _ => rfl⟩
  · rw [if_neg h]
    have full : min 255 (s.ring.notKept + 1) = s.ring.notKept := by omega
    rw [full]
    exact ⟨rfl, rfl, fun h' => absurd h' h⟩

/-- The record of a call that the far end ends, as it is handed over. -/
def farEndRecord (c : CallInfo) (s : State) : CallRecord :=
  callRecord .farEnd c s.meter.units s.meter.charge (credit s.meter.purse)

/-- The state that a far-end clear hands the record over in. -/
def farEndReleased (c : CallInfo) (s : State) : State :=
  callReleased c { s with line := { s.line with clearP := none } }

/-- A far-end clear of a seized call: the record handed over, and what the rest of the step leaves. -/
theorem farEnd_recorded {c : CallInfo} (hr : s.sys.part = .running) (hd : timerDue s.line.clearP = true)
    (hst : s.call.station = .talking) (hcur : s.call.cur = some c) (hseized : c.seized = true) :
    exec .farEndClear s = .next (stepWith clearBody s)
      ∧ (stepWith clearBody s).ring = (handRecord (farEndRecord c s) (farEndReleased c s)).1.ring
      ∧ (stepWith clearBody s).tally.notKept
          = (handRecord (farEndRecord c s) (farEndReleased c s)).1.tally.notKept
      ∧ grows (handRecord (farEndRecord c s) (farEndReleased c s)).1 (stepWith clearBody s) := by
  have body : ∃ d, clearBody s = setStation .ready (raise .call 10 d
      (handRecord (farEndRecord c s) (farEndReleased c s)).1) := by
    have ends := endCall_released (s := updLine (fun l => { l with clearP := none }) s) .farEnd .ready hcur
    rw [if_pos hseized] at ends
    refine ⟨_, Eq.trans ?_ ends⟩
    simp only [clearBody, hst]
  obtain ⟨d, body⟩ := body
  refine ⟨dueStep hr hd, ?_, ?_, ?_⟩
  · rw [stepWith, finish_ring, body]
    exact (setStation_ring _ _).trans (ring_of_unposted (raise_unposted _ _ _ _))
  · rw [stepWith, notKept_of_steady (finish_steady _ _), body, setStation_tally]
    exact congrArg Tally.notKept (tally_of_unposted (raise_unposted _ _ _ _))
  · refine grows_trans ?_ (finish_grows _ _)
    rw [body, grows, setStation_gate]
    exact raise_grows _ _ _ _

end

/-- Settles O49. -/
theorem callsEndForEachCause : Obligations.CallsEndForEachCause := by
  refine ⟨fun s hr hn hcur => ⟨fun hd hp hh hin => ?_, fun c hc => ?_⟩,
    fun s p c hr hn hroom hp hd hst hcur hseized rec hrec => ?_, callBytes_laid⟩
  · have exec_eq : exec .onHook s = .next (stepWith onHookBody s) := dueStep hr (by simp [hd, hp, hh])
    have body : ∃ o, onHookBody s = endCall o .idle
        (updCallCtl (fun c => { c with hook := false, hookTimer := none }) s) := by
      unfold onHookBody
      cases hst : s.call.station <;> simp only [hst, inCall, Bool.false_eq_true] at hin ⊢ <;> exact ⟨_, rfl⟩
    obtain ⟨o, body⟩ := body
    obtain ⟨ended, -, -, hook, escrow, chans, -, mem⟩ := callEnded_endCall (x := .idle)
      (s := updCallCtl (fun c => { c with hook := false, hookTimer := none }) s) (waiting s) o hcur hr hn
      (.inl rfl)
    have step : finish (waiting s) (endCall o .idle
        (updCallCtl (fun c => { c with hook := false, hookTimer := none }) s)) = stepWith onHookBody s := by
      rw [stepWith, body]
    rw [step] at ended hook escrow chans mem
    exact ⟨_, exec_eq, callOver_from ended rfl rfl rfl rfl, hook, escrow, chans, mem⟩
  · obtain ⟨rfl, hd, hst⟩ | ⟨rfl, hd, hst⟩ | ⟨rfl, hd, hst, hcl⟩ | ⟨rfl, hd, hst, hcl⟩
      | ⟨rfl, hd, hpast, hloop, hcl⟩ | ⟨rfl, hd, hst⟩ := hc
    · exact callEnded_stepWith (v := s) (dueStep hr (by simp [hd, hst])) rfl rfl rfl hcur hr hn
    · have body : answerLimitBody s = endCall .noAnswer .ready s := if_pos ⟨hst, hd⟩
      exact callEnded_stepWith (v := s) (runningStep hr) body rfl rfl hcur hr hn
    · have body : noLineBody s = endCall .noLine .ready
          (raiseRefused .noLine (curFigures s).1 (curFigures s).2 s) := if_neg hcl
      exact callEnded_raised (condStep hr ⟨hst, hd⟩) body (raise_unposted _ _ _ _) hcur hr hn
    · have body : ∃ d, noToneBody s = endCall .noDialTone .ready (raise .call 8 d s) :=
        ⟨_, if_neg hcl⟩
      obtain ⟨d, body⟩ := body
      exact callEnded_raised (condStep hr ⟨hst, hd⟩) body (raise_unposted _ _ _ _) hcur hr hn
    · have body : lossBody s = endCall .lineLost .ready
          (updTally (fun t => { t with lineLost := inc16 t.lineLost }) s) := if_neg hcl
      have exec_eq : exec .lineLoss s = .next (stepWith lossBody s) :=
        dueStep hr (by simp [hd, hpast, hloop])
      exact callEnded_stepWith (v := updTally (fun t => { t with lineLost := inc16 t.lineLost }) s) exec_eq
        body rfl rfl hcur hr hn
    · have body : clearBody s = endCall .farEnd .ready (updLine (fun l => { l with clearP := none }) s) := by
        obtain hst | hst := hst <;> simp only [clearBody, hst]
      exact callEnded_stepWith (c := .farEndClear) (v := updLine (fun l => { l with clearP := none }) s)
        (dueStep hr hd) body rfl rfl hcur hr hn
  · obtain ⟨he, hring, hkept, hgrow⟩ := farEnd_recorded hr hd hst hcur hseized
    obtain ⟨hw, hq⟩ := hroom
    have rec_eq : { farEndRecord c s with seq := (farEndReleased c s).ring.seq } = rec := by
      rw [hrec]
      cases hk : c.kind <;> simp [farEndRecord, callRecord, hk, recordedKind, credit, farEndReleased, callReleased]
    have hp' : (seqTaken (farEndRecord c s).kind (farEndReleased c s)).gate.profile = some p := hp
    generalize stepWith clearBody s = t at he hring hkept hgrow
    refine ⟨fun hroom hslot => ?_, fun hfull => ⟨fun hslot => ?_, fun old hslot hk => ?_⟩⟩
    · rw [handRecord_empty (s := farEndReleased c s) hslot hroom, rec_eq,
        placeRecord_room hp' hw (Nat.le_trans hq (by omega))] at hring hgrow
      refine ⟨t, he, congrArg CallRing.w hring, (congrArg CallRing.slot hring).trans hslot, ?_⟩
      exact postedTogether_of_append (l := []) (by rw [List.append_nil]; rfl) hgrow
    · rw [handRecord_kept (s := farEndReleased c s) hslot hfull, rec_eq] at hring hkept
      exact ⟨t, he, (congrArg CallRing.w hring).trans rfl, congrArg CallRing.slot hring,
        (congrArg CallRing.notKept hring).trans rfl, hkept.trans (countKind_notKept _ _)⟩
    · rw [handRecord_full (s := farEndReleased c s) hslot hfull, rec_eq] at hring hkept hgrow
      obtain ⟨dring, dkept, dqueue⟩ := dropRecord_counts hp' hw (Nat.le_trans hq (by omega)) hk
      have gives : (!gated old && gated (farEndRecord c s)) = true
          ↔ ¬ (old.kind = .paid ∧ old.gatePassed = true) ∧ rec.kind = .paid ∧ rec.gatePassed = true := by
        rw [← rec_eq]
        exact displaces_iff old _
      have kept : (seqTaken (farEndRecord c s).kind (farEndReleased c s)).tally.notKept = s.tally.notKept :=
        countKind_notKept _ _
      rw [kept] at dkept
      have dw : (dropRecord (seqTaken (farEndRecord c s).kind (farEndReleased c s))).ring.w = s.ring.w :=
        (congrArg CallRing.w dring).trans rfl
      have dslot : (dropRecord (seqTaken (farEndRecord c s).kind (farEndReleased c s))).ring.slot
          = some old := (congrArg CallRing.slot dring).trans hslot
      have dnot : (dropRecord (seqTaken (farEndRecord c s).kind (farEndReleased c s))).ring.notKept
          = min 255 (s.ring.notKept + 1) := (congrArg CallRing.notKept dring).trans rfl
      have dposts : s.ring.notKept < 255 →
          (dropRecord (seqTaken (farEndRecord c s).kind (farEndReleased c s))).gate.queue
            = s.gate.queue ++ [.write (p.callsBase + 2) [BitVec.ofNat 8 (s.ring.notKept + 1)] .plain] := dqueue
      generalize dropRecord (seqTaken (farEndRecord c s).kind (farEndReleased c s)) = x
        at hring hkept hgrow dkept dw dslot dnot dposts
      by_cases hg : (!gated old && gated (farEndRecord c s)) = true
      · rw [if_pos hg] at hring hkept hgrow
        rw [if_pos (gives.mp hg)]
        have tring : t.ring = { x.ring with slot := some rec } := hring
        exact ⟨t, he, by rw [tring, ← dw], by rw [tring], by rw [tring, ← dnot], hkept.trans dkept,
          fun h => posted_of_append (dposts h) hgrow⟩
      · rw [if_neg hg] at hring hkept hgrow
        rw [if_neg (fun h => hg (gives.mpr h))]
        exact ⟨t, he, by rw [hring, dw], by rw [hring, dslot], by rw [hring, dnot], hkept.trans dkept,
          fun h => posted_of_append (dposts h) hgrow⟩

end Sys2Proof.Proofs

/-! What makes a channel trip (R135, R137, R139, R140, R142, R143, R146). -/
namespace Sys2Proof.Proofs
open Sys2Proof.Machine Sys2Proof.Safety Sys2Proof.Laws

section
variable {s t u v : State} {p : Profile}

/-! ### A trip of CORD that ends a call (R146) -/

/-- The state in which a CORD trip ends the call in progress: the trip and its report told, its event raised. -/
theorem tripOne_cord (hp : s.gate.profile = some p) (hin : inCall s.call.station = true) :
    ∃ d, tripOne .cord s = giveRewrite .tamper (endCall .cord .ready (raise .tamper 16 d (tripTold p .cord s))) := by
  have station : (tripTold p .cord s).call = s.call := by
    unfold tripTold
    split
    · exact (call_of_unposted (joinReport_chans _ _ _ _).1).trans rfl
    · rfl
  refine ⟨[b8 (channelCode .cord), b8 (tripRec p .cord s).severity] ++ count2 (tripRec p .cord s).trips
        ++ [bBool ((tripRec p .cord s).status == .queued)], ?_⟩
  have ended : inCall (raise .tamper 16 ([b8 (channelCode .cord), b8 (tripRec p .cord s).severity]
      ++ count2 (tripRec p .cord s).trips ++ [bBool ((tripRec p .cord s).status == .queued)])
      (tripTold p .cord s)).call.station = true := by
    rw [raise_call, station]
    exact hin
  unfold tripOne
  rw [hp]
  exact congrArg (giveRewrite .tamper) (if_pos (And.intro rfl ended))

theorem endCall_kept (o : CallOutcome) (x : Station) (s : State) :
    (endCall o x s).tamper.chans = s.tamper.chans ∧ (endCall o x s).tamper.force = s.tamper.force
      ∧ (endCall o x s).coin.escrow = s.coin.escrow ∧ (endCall o x s).mem = s.mem := by
  cases hcur : s.call.cur with
  | none =>
    have same : endCall o x s = s := by simp only [endCall, hcur]
    rw [same]
    exact ⟨rfl, rfl, rfl, rfl⟩
  | some c =>
    obtain ⟨h, -, -⟩ := endCall_rest o x hcur
    have tamper := tamper_of_unposted h
    have coin := coin_of_unposted h
    have mem := mem_of_unposted h
    obtain ⟨-, -, -, -, escrow, -⟩ := takeEnd_metering c s
    exact ⟨(congrArg Tamper.chans tamper).trans rfl, (congrArg Tamper.force tamper).trans rfl,
      (congrArg Coin.escrow coin).trans escrow, mem.trans rfl⟩

/-! ### What every trip leaves -/

/-- What the appearing of `ch`'s condition leaves of the channels, and what it does not touch. -/
structure Trips (p : Profile) (ch : Channel) (s v : State) : Prop where
  own : tripped ch p s v
  raw : (getChan ch v).raw = (getChan ch s).raw
  withForce : forceful ch = true → s.tamper.force ≠ none → (getChan .force s).state ≠ .active →
    tripped .force p s v
  others : forceful ch = false ∨ s.tamper.force = none → (∀ e ∈ s.report.queue, e.failed = false) →
    ∀ o, o ≠ ch → getChan o v = getChan o s
  force : ch ≠ .shock → v.tamper.force = s.tamper.force
  escrow : v.coin.escrow = s.coin.escrow
  mem : v.mem = s.mem

theorem Trip.trips {ch : Channel} (h : Trip p ch s v) : Trips p ch s v where
  own := h.own
  raw := h.raw
  withForce := h.force
  others := h.others
  force hs := by
    have := tamper_of_unposted h.rest
    rw [if_neg hs] at this
    exact (congrArg Tamper.force this).trans rfl
  escrow := (congrArg Coin.escrow (coin_of_unposted h.rest)).trans rfl
  mem := (mem_of_unposted h.rest).trans rfl

theorem condAppears_cord (ha : (getChan .cord s).state ≠ .active) : condAppears .cord s = tripOne .cord s :=
  if_neg ha

/-- A CORD trip, whether or not it ends a call. -/
theorem cord_trips (hp : s.gate.profile = some p) (ha : (getChan .cord s).state ≠ .active) :
    Trips p .cord s (condAppears .cord s) := by
  by_cases hin : inCall s.call.station = true
  · obtain ⟨d, eq⟩ := tripOne_cord hp hin
    have raised := raise_unposted .tamper 16 d (tripTold p .cord s)
    obtain ⟨told, own, others, -⟩ := tripTold_rest (p := p) .cord s
    rw [condAppears_cord ha, eq]
    have hu := giveRewrite_unposted .tamper (endCall .cord .ready (raise .tamper 16 d (tripTold p .cord s)))
    generalize raise .tamper 16 d (tripTold p .cord s) = r at raised hu
    obtain ⟨chans, force, escrow, mem⟩ := endCall_kept .cord .ready r
    have hchans := ((congrArg Tamper.chans (tamper_of_unposted hu)).trans chans).trans
      (congrArg Tamper.chans (tamper_of_unposted raised))
    have hforce := ((congrArg Tamper.force (tamper_of_unposted hu)).trans force).trans
      ((congrArg Tamper.force (tamper_of_unposted raised)).trans
        ((congrArg Tamper.force (tamper_of_unposted told)).trans rfl))
    have hescrow := ((congrArg Coin.escrow (coin_of_unposted hu)).trans escrow).trans
      ((congrArg Coin.escrow (coin_of_unposted raised)).trans
        ((congrArg Coin.escrow (coin_of_unposted told)).trans rfl))
    have hmem := ((mem_of_unposted hu).trans mem).trans ((mem_of_unposted raised).trans
      ((mem_of_unposted told).trans rfl))
    generalize giveRewrite .tamper (endCall .cord .ready r) = w at hchans hforce hescrow hmem
    have get : ∀ o, getChan o w = getChan o (tripTold p .cord s) := fun o => by
      rw [getChan, hchans, getChan]
    have mine := (get .cord).trans own
    refine ⟨tripped_of_rec p rfl (.inl mine) fun _ _ => mine, by rw [mine]; rfl, (fun h => nomatch h),
      fun _ hn o ho => ?_, fun _ => hforce, hescrow, hmem⟩
    rw [get]
    obtain h | ⟨⟨f, hf, hfailed⟩, -⟩ := others o ho
    · exact h
    · rw [hn f hf] at hfailed
      cases hfailed
  · exact (condAppears_trip hp ha fun _ => by simpa using hin).trips

theorem condAppears_trips {ch : Channel} (hp : s.gate.profile = some p)
    (ha : (getChan ch s).state ≠ .active) : Trips p ch s (condAppears ch s) := by
  by_cases hc : ch = .cord
  · subst hc
    exact cord_trips hp ha
  · exact (condAppears_trip hp ha fun h => absurd h hc).trips

/-- A CORD trip that calls for no report ends the call in progress (R146). -/
theorem cord_ends (n : Nat) (hp : s.gate.profile = some p) (ha : (getChan .cord s).state ≠ .active)
    (ht : p.threshold = 0) (hr : s.sys.part = .running) (hn : noReport s) (hcur : s.call.cur ≠ none)
    (hin : inCall s.call.station = true) : callOver .ready s (finish n (condAppears .cord s)) := by
  obtain ⟨d, eq⟩ := tripOne_cord hp hin
  have quiet : callsReport p (tripRec p .cord s).severity = false := by simp [callsReport, ht]
  have told : tripTold p .cord s = setChan .cord (tripRec p .cord s) s := by
    rw [tripTold, if_neg (by simp [quiet])]
  have raised := raise_unposted .tamper 16 d (tripTold p .cord s)
  rw [condAppears_cord ha, eq]
  have hu := giveRewrite_unposted .tamper (endCall .cord .ready (raise .tamper 16 d (tripTold p .cord s)))
  rw [told] at raised hu ⊢
  have rcall := call_of_unposted raised
  have rsys := sys_of_unposted raised
  have rreport := report_of_unposted raised
  have rline := line_of_unposted raised
  have rring := ring_of_unposted raised
  have rprof := profile_of_unposted raised
  generalize raise .tamper 16 d (setChan .cord (tripRec p .cord s) s) = r at *
  obtain ⟨c, hc⟩ := Option.ne_none_iff_exists'.mp hcur
  have hrc : r.call.cur = some c := (congrArg CallCtl.cur rcall).trans hc
  obtain ⟨h, hseq, hlost⟩ := endCall_rest .cord .ready hrc
  have hring := ring_of_unposted hu
  have htally := tally_of_unposted hu
  generalize giveRewrite .tamper (endCall .cord .ready r) = w at *
  obtain ⟨ended, -⟩ := callEnded_finish (u := w) (x := .ready) n hrc (by rw [rsys]; exact hr)
    (by rw [noReport, rreport]; exact hn) (.inr rfl)
    (recordsOnly_trans h (recordsOnly_of_unposted hu)) (by rw [hring, hseq]) (by rw [htally, hlost])
  exact callOver_from ended ((congrArg CallCtl.cur rcall).trans rfl) ((congrArg Line.state rline).trans rfl)
    (rprof.trans rfl) ((congrArg CallRing.seq rring).trans rfl)

/-- A state that differs from `s` in timers and debouncers of the Tamper Monitor alone. -/
def timersOnly (s v : State) : Prop :=
  v = { s with tamper := v.tamper } ∧ v.tamper.chans = s.tamper.chans ∧ v.tamper.force = s.tamper.force

theorem Trips.from_timers {ch : Channel} (h : Trips p ch v u) (hv : timersOnly s v) : Trips p ch s u := by
  obtain ⟨hv, hchans, hforce⟩ := hv
  have get : ∀ o, getChan o v = getChan o s := fun o => by rw [getChan, hchans, getChan]
  have cal : v.cal = s.cal := by rw [hv]
  have report : v.report = s.report := by rw [hv]
  have coin : v.coin = s.coin := by rw [hv]
  have mem : v.mem = s.mem := by rw [hv]
  obtain ⟨own, raw, withForce, others, force, escrow, fmem⟩ := h
  rw [get] at raw
  rw [get, hforce] at withForce
  rw [hforce, report] at others
  rw [hforce] at force
  rw [coin] at escrow
  rw [mem] at fmem
  refine ⟨tripped_from own hchans hforce cal (by rw [report]), raw,
    fun h1 h2 h3 => tripped_from (withForce h1 h2 h3) hchans hforce cal (by rw [report]),
    fun h1 h2 o ho => (others h1 h2 o ho).trans (get o), force, escrow, fmem⟩

theorem Trips.at_end {ch : Channel} (h : Trips p ch s u) (ht : steady t = steady u)
    : Trips p ch s t := by
  have chans := tamper_of_steady ht
  have get : ∀ o, getChan o t = getChan o u := fun o => by rw [getChan, chans, getChan]
  have rest := congrArg Tamper.force (tamperRest_of_steady ht)
  have force : t.tamper.force = u.tamper.force := rest
  obtain ⟨own, raw, withForce, others, hforce, escrow, mem⟩ := h
  exact ⟨tripped_of_chans own chans, by rw [get, raw],
    fun h1 h2 h3 => tripped_of_chans (withForce h1 h2 h3) chans,
    fun h1 h2 o ho => by rw [get, others h1 h2 o ho], fun hs => by rw [force, hforce hs],
    by rw [escrow_of_steady ht, escrow], by rw [mem_of_steady ht, mem]⟩

/-- The input debounced open, ENTRY blocked or the line voltage lost: the step is the condition's
appearing from a state with the timers moved on. -/
theorem conditionStep {c : Instr} {ch : Channel} (hr : s.sys.part = .running)
    (h : (c = .housingInputDebounced .door ∧ ch = .door ∧ timerDue s.tamper.door.timer = true
          ∧ s.pins.door = true ∧ s.tamper.visitKind = none ∧ s.visit.state = .closed)
        ∨ (c = .housingInputDebounced .case ∧ ch = .case ∧ timerDue s.tamper.case.timer = true
          ∧ s.pins.case = true ∧ s.tamper.visitKind ≠ some .service)
        ∨ (c = .housingInputDebounced .cord ∧ ch = .cord ∧ timerDue s.tamper.cord.timer = true
          ∧ s.pins.cord = true)
        ∨ (c = .slotBlockExpiry ∧ ch = .slot ∧ timerDue s.tamper.slotBlock = true)
        ∨ (c = .lineVoltageLossExpiry ∧ ch = .line ∧ timerDue s.tamper.lossTimer = true))
    (hp : s.gate.profile = some p) (ha : (getChan ch s).state ≠ .active) :
    ∃ v, timersOnly s v ∧ exec c s = .next (finish (waiting s) (condAppears ch v)) := by
  obtain ⟨rfl, rfl, hd, hpin, hk, hvis⟩ | ⟨rfl, rfl, hd, hpin, hk⟩ | ⟨rfl, rfl, hd, hpin⟩ | ⟨rfl, rfl, hd⟩
    | ⟨rfl, rfl, hd⟩ := h
  · refine ⟨doorTaken true s, ⟨rfl, rfl, rfl⟩, ?_⟩
    have trip := condAppears_trip (ch := .door) (s := doorTaken true s) hp ha (by simp)
    have visit : (condAppears .door (doorTaken true s)).visit = s.visit :=
      (visit_of_steady (steady_of_unposted trip.rest)).trans rfl
    have cond : housingCond .door (doorTaken true s).tamper = true := by
      simp [housingCond, doorCond, doorTaken, hk]
    have body : debouncedBody .door s = visitDoor true (condAppears .door (doorTaken true s)) := by
      unfold debouncedBody
      dsimp only [pinOf]
      rw [hpin, if_pos rfl]
      exact congrArg (visitDoor true) (if_pos cond)
    have still : visitDoor true (condAppears .door (doorTaken true s))
        = condAppears .door (doorTaken true s) := by
      unfold visitDoor
      rw [visit, hvis]
    rw [← still, ← body]
    exact dueStep hr hd
  · refine ⟨{ s with tamper := { s.tamper with case := ⟨true, none⟩ } }, ⟨rfl, rfl, rfl⟩, ?_⟩
    have cond : housingCond .case ({ s.tamper with case := ⟨true, none⟩ }) = true := by
      simp [housingCond, caseCond, hk]
    have body : debouncedBody .case s
        = condAppears .case { s with tamper := { s.tamper with case := ⟨true, none⟩ } } := by
      unfold debouncedBody
      dsimp only [pinOf]
      rw [hpin, if_neg (by simp)]
      exact if_pos cond
    rw [← body]
    exact dueStep hr hd
  · refine ⟨{ s with tamper := { s.tamper with cord := ⟨true, none⟩ } }, ⟨rfl, rfl, rfl⟩, ?_⟩
    have body : debouncedBody .cord s
        = condAppears .cord { s with tamper := { s.tamper with cord := ⟨true, none⟩ } } := by
      unfold debouncedBody
      dsimp only [pinOf]
      rw [hpin, if_neg (by simp)]
      rfl
    rw [← body]
    exact dueStep hr hd
  · exact ⟨{ s with tamper := { s.tamper with slotBlock := none } }, ⟨rfl, rfl, rfl⟩, dueStep hr hd⟩
  · exact ⟨{ s with tamper := { s.tamper with lossTimer := none } }, ⟨rfl, rfl, rfl⟩, dueStep hr hd⟩

/-! ### SHOCK (R139) -/

/-- The shock pulse counted, before its count is judged. -/
def shockCounted (s : State) : State := updTamper windowPulse (countEdge .shock s)

theorem shockCounted_eq (n : Nat) (hn : n = (if s.tamper.shockWindow = none then 1 else s.tamper.shockCount + 1)) :
    shockCounted s = { s with tamper := { s.tamper with
      chans := { s.tamper.chans with
        shock := { s.tamper.chans.shock with raw := s.tamper.chans.shock.raw + 1 } },
      shockWindow := if s.tamper.shockWindow = none then some 10000 else s.tamper.shockWindow,
      shockCount := n, quiet := some 10000 } } := by
  subst hn
  cases hw : s.tamper.shockWindow <;>
    simp [shockCounted, updTamper, windowPulse, countEdge, setChan, Channels.set, getChan, Channels.get, hw]

end

/-- Settles O56. -/
theorem conditionsTripTheirChannels : Obligations.ConditionsTripTheirChannels := by
  intro s p hr hp
  refine ⟨fun c ch h ha => ?_, fun n hn => ⟨fun hne => ?_, fun he ha => ?_⟩, fun hd => ?_⟩
  · obtain ⟨v, hv, he⟩ := conditionStep hr h hp ha
    have hv' := id hv
    obtain ⟨veq, vchans, -⟩ := hv'
    have vprof : v.gate.profile = some p := by rw [veq]; exact hp
    have vact : (getChan ch v).state ≠ .active := by rw [getChan, vchans]; exact ha
    have trips := ((condAppears_trips vprof vact).from_timers hv).at_end
      (finish_steady (waiting s) (condAppears ch v))
    have notShock : ch ≠ .shock := by
      rintro rfl
      simp at h
    refine ⟨_, he, trips.own, trips.raw, fun hch hf hfa => trips.withForce ?_ hf hfa,
      fun hw hnone o ho => trips.others ?_ hnone o ho, ?_, trips.force notShock, trips.escrow, trips.mem⟩
    · obtain rfl | rfl | rfl := hch <;> rfl
    · obtain hw | rfl | rfl := hw
      · exact .inr hw
      · exact .inl rfl
      · exact .inl rfl
    · rintro rfl ht hnr hcur hin
      have vcall : v.call = s.call := by rw [veq]
      have vreport : v.report = s.report := by rw [veq]
      have vsys : v.sys = s.sys := by rw [veq]
      have vline : v.line = s.line := by rw [veq]
      have vring : v.ring = s.ring := by rw [veq]
      have ended := cord_ends (waiting s) vprof vact ht (by rw [vsys]; exact hr)
        (by rw [noReport, vreport]; exact hnr) (by rw [vcall]; exact hcur) (by rw [vcall]; exact hin)
      exact callOver_from ended (by rw [vcall]) (by rw [vline]) (by rw [vprof, hp]) (by rw [vring])
  · have eq := shockCounted_eq n hn
    have body : shockBody s = shockCounted s := if_neg (by
      show ¬ (shockCounted s).tamper.shockCount = param (·.shockCount) (shockCounted s)
      rw [eq]
      simpa [param, hp] using hne)
    exact leads_stepWith (runningStep hr) (by rw [body, eq])
  · have eq := shockCounted_eq n hn
    have body : shockBody s = condAppears .shock (shockCounted s) := if_pos (by
      show (shockCounted s).tamper.shockCount = param (·.shockCount) (shockCounted s)
      rw [eq]
      simpa [param, hp] using he)
    have hprof : (shockCounted s).gate.profile = some p := by rw [eq]; exact hp
    have hact : (getChan .shock (shockCounted s)).state ≠ .active := by rw [eq]; exact ha
    have trip := condAppears_trip hprof hact fun h => nomatch h
    have trips := trip.trips.at_end (finish_steady (waiting s) (condAppears .shock (shockCounted s)))
    have tamper := (tamperRest_of_steady (finish_steady (waiting s) (condAppears .shock (shockCounted s)))).trans
      (congrArg (fun t : Tamper => { t with lossTimer := none }) (tamper_of_unposted trip.rest))
    have exec_eq : exec .shockPulse s = .next (stepWith shockBody s) := runningStep hr
    rw [stepWith, body] at exec_eq
    generalize finish (waiting s) (condAppears .shock (shockCounted s)) = t at trips tamper exec_eq
    rw [eq] at trips tamper
    exact ⟨t, exec_eq, trips.own, trips.raw, congrArg Tamper.force tamper, congrArg Tamper.shockCount tamper,
      congrArg Tamper.quiet tamper, trips.mem⟩
  · exact leads_stepWith (dueStep hr hd) rfl

end Sys2Proof.Proofs

/-! The calling side at the end of a step (R96, R97, R100, R155, R158), the warnings and the ringing (R104,
R125), and the line from seizure to release (R110, R115). -/
namespace Sys2Proof.Proofs
open Sys2Proof.Machine Sys2Proof.Safety Sys2Proof.Laws

section
variable {s t u v : State} {p : Profile}

/-! ### What the digit sender finds -/

/-- `v` is what the digit sender finds at the end of a step that left `s`, where no report claim is
granted; `t` is the state at the step's end. -/
structure Calling (s v t : State) : Prop where
  call : t.call = (judgeSender v).call
  line : t.line = (judgeSender v).line
  report : t.report = (judgeSender v).report
  found_call : v.call = { s.call with mode := v.call.mode, reportClaim := v.call.reportClaim }
  found_line : v.line = s.line
  found_report : v.report = s.report
  found_pins : v.pins = s.pins
  found_profile : v.gate.profile = s.gate.profile
  found_meter : v.meter = (judgeMoney s).meter

/-- No report claim can be granted at the end of a step that left `s` (R108). -/
def noGrant (s : State) : Prop :=
  noReport s ∨ (s.call.station ≠ .idle ∧ s.call.station ≠ .ready) ∨ s.call.claim ≠ .free
    ∨ s.report.phase ≠ .noCall

theorem atReport_call (s : State) : (atReport s).call = { s.call with mode := (atReport s).call.mode } :=
  call_of_unjudged (atReport_unjudged s)

theorem judgeReport_atReport (h : noGrant s) :
    ∃ w, judgeReport (atReport s) = withClaim w (atReport s) := by
  obtain h | ⟨h, h'⟩ | h | h := h
  · exact ⟨_, judgeReport_noReport (atReport_noReport h)⟩
  · exact ⟨_, judgeReport_away (by rwa [atReport_station]) (by rwa [atReport_station])⟩
  · refine ⟨_, judgeReport_ungranted fun sev _ => ?_⟩
    have claim : (atReport s).call.claim = s.call.claim := by rw [atReport_call]
    simp [mayGrant, claim, h]
  · have report := report_of_unjudged (atReport_unjudged s)
    have wanted : claimWanted (atReport s) = none := by simp [claimWanted, report, h]
    exact ⟨_, judgeReport_ungranted (by simp [wanted])⟩

theorem withClaim_call_of {w : Option Nat} {v : State} {c : CallCtl}
    (h : v.call = { c with mode := v.call.mode }) :
    (withClaim w v).call = { c with
      mode := (withClaim w v).call.mode, reportClaim := (withClaim w v).call.reportClaim } :=
  congrArg (fun c : CallCtl => { c with reportClaim := w }) h
theorem withClaim_line (w : Option Nat) (v : State) : (withClaim w v).line = v.line := rfl
theorem withClaim_report (w : Option Nat) (v : State) : (withClaim w v).report = v.report := rfl
theorem withClaim_pins (w : Option Nat) (v : State) : (withClaim w v).pins = v.pins := rfl
theorem withClaim_gate (w : Option Nat) (v : State) : (withClaim w v).gate = v.gate := rfl
theorem withClaim_meter (w : Option Nat) (v : State) : (withClaim w v).meter = v.meter := rfl

theorem calling_finish (n : Nat) (hr : s.sys.part = .running) (h : noGrant s) :
    ∃ v, Calling s v (finish n s) := by
  obtain ⟨w, hw⟩ := judgeReport_atReport h
  have hs : settle s = judgeSender (withClaim w (atReport s)) := by rw [settle_eq hr, hw]
  have hu := atReport_unjudged s
  refine ⟨withClaim w (atReport s), by rw [finish_call, hs], by rw [finish_line, hs],
    by rw [finish_report, hs], ?_, ?_, ?_, ?_, ?_, ?_⟩
  · exact withClaim_call_of (atReport_call s)
  · exact (withClaim_line w _).trans (line_of_unjudged hu)
  · exact (withClaim_report w _).trans (report_of_unjudged hu)
  · exact (withClaim_pins w _).trans (pins_of_unjudged hu)
  · rw [withClaim_gate]
    exact profile_of_unjudged hu
  · exact (withClaim_meter w _).trans (atReport_meter s)

/-! ### The digit sender, case by case -/

/-- With the line neither SENDING nor CONNECTED, and no report digit to send, the line stands. -/
theorem judgeSender_line (h : v.line.state ≠ .sending) (h' : v.line.state ≠ .connected)
    (hp : v.report.phase ≠ .dialling) (hp' : v.report.phase ≠ .sending) :
    (judgeSender v).line = v.line ∧ (judgeSender v).report = v.report
      ∧ (v.call.station ≠ .creditWait → (judgeSender v).call.cur = v.call.cur) := by
  have gate : (judgeGate v).line = v.line ∧ (judgeGate v).report = v.report
      ∧ (v.call.station ≠ .creditWait → (judgeGate v).call.cur = v.call.cur) := by
    refine ⟨?_, ?_, fun hc => by rw [judgeGate_still hc]⟩
    · unfold judgeGate
      split
      · rfl
      · split <;> rfl
    · unfold judgeGate
      split
      · rfl
      · split <;> rfl
  obtain ⟨gl, gr, gc⟩ := gate
  have offered : offerDigit (judgeGate v) = judgeGate v := by
    unfold offerDigit
    split
    · rw [if_neg (by simp [mayDial, gl, h]), if_neg (by simp [mayTone, gl, h'])]
    · rfl
  have ringback : judgeRingback (judgeGate v) = judgeGate v := by
    unfold judgeRingback
    split
    · exact if_neg (by simp [numberSent, gl, h])
    · rfl
  have inter : judgeInterDigit (judgeGate v) = withoutInterDigit (judgeGate v) := by
    refine if_neg ?_
    unfold awaitsDigit
    split
    · simp [gl, h]
    · simp
  rw [judgeSender, offered, ringback, inter, offerReport_still (s := withoutInterDigit (judgeGate v))
    (by show (judgeGate v).report.phase ≠ _; rwa [gr]) (by show (judgeGate v).report.phase ≠ _; rwa [gr])]
  exact ⟨gl, gr, gc⟩

/-- In DIALLING with nothing to send and the number not complete the inter-digit timer runs (R97). -/
theorem judgeSender_waits {c : CallInfo} (hst : v.call.station = .dialling) (hl : v.line.state = .sending)
    (hs : v.line.sender = none) (hq : v.call.dialQueue = []) (hc : v.call.cur = some c)
    (hn : c.complete = false) (hi : v.call.interDigit = none) (hp : v.report.phase = .noCall) :
    judgeSender v = { v with call := { v.call with
      interDigit := seconds (param (·.interDigitS) v) } } := by
  have idle : idleSender v = true := by simp [idleSender, hs]
  have ringback : judgeRingback v = v := by
    unfold judgeRingback
    rw [hc]
    exact if_neg (by simp [numberSent, hn])
  have awaits : awaitsDigit v = true := by
    unfold awaitsDigit
    rw [hc]
    simp [hst, hl, idle, hq, hn]
  have inter : judgeInterDigit v = { v with call := { v.call with
      interDigit := seconds (param (·.interDigitS) v) } } := by
    unfold judgeInterDigit
    rw [if_pos awaits, hi]
  rw [judgeSender, judgeGate_still (by simp [hst]), offerDigit_nothing hq, ringback, inter]
  exact offerReport_still (by simp [hp]) (by simp [hp])

theorem startDigit_busy (pulse : Bool) (x : Nat) (s : State) :
    (startDigit pulse x s).line.sender ≠ none ∧ (startDigit pulse x s).call = s.call
      ∧ (startDigit pulse x s).report = s.report
      ∧ (startDigit pulse x s).line.state = s.line.state := by
  unfold startDigit
  split
  · exact ⟨by simp, rfl, rfl, rfl⟩
  · split
    · exact ⟨by simp, rfl, rfl, rfl⟩
    · exact ⟨by simp, rfl, rfl, rfl⟩

/-- Behind a digit started nothing more is sent, and the inter-digit timer stops. -/
theorem behind_digit (h : u.line.sender ≠ none) :
    offerReport (judgeInterDigit (judgeRingback u)) = withoutInterDigit u := by
  have busy : idleSender u = false := by simpa [idleSender, Option.ne_none_iff_isSome] using h
  have ringback : judgeRingback u = u := by
    unfold judgeRingback
    split
    · exact if_neg (by simp [numberSent, busy])
    · rfl
  have inter : judgeInterDigit u = withoutInterDigit u := by
    refine if_neg ?_
    unfold awaitsDigit
    split
    · simp [busy]
    · simp
  rw [ringback, inter]
  have busy' : idleSender (withoutInterDigit u) = false := busy
  exact if_neg (by simp [busy'])

/-- In DIALLING the next digit of the number is sent (R100). -/
theorem judgeSender_dials {c : CallInfo} {x : Nat} {q : List Nat} (hst : v.call.station = .dialling)
    (hl : v.line.state = .sending) (hs : v.line.sender = none) (hq : v.call.dialQueue = x :: q)
    (hc : v.call.cur = some c) (hd : c.decided = false ∨ c.gatePassed = true) :
    judgeSender v = withoutInterDigit (startDigit (pulseMode v) x
      { v with call := { v.call with dialQueue := q } }) := by
  have may : mayDial v c = true := by
    obtain hd | hd := hd <;> simp [mayDial, hst, hl, idleSender, hs, hd]
  have offered : offerDigit v = startDigit (pulseMode v) x
      { v with call := { v.call with dialQueue := q } } := by
    unfold offerDigit
    rw [hc, hq]
    exact if_pos may
  rw [judgeSender, judgeGate_still (by simp [hst]), offered]
  exact behind_digit (startDigit_busy _ _ _).1

/-- In conversation the head of the Dial Queue is sent as a tone (R96). -/
theorem judgeSender_tones {x : Nat} {q : List Nat}
    (hst : v.call.station = .talking ∨ v.call.station = .talkingIn)
    (hl : v.line.state = .connected) (hs : v.line.sender = none) (hq : v.call.dialQueue = x :: q)
    (hc : v.call.cur ≠ none) :
    judgeSender v = withoutInterDigit (startDigit false x
      { v with call := { v.call with dialQueue := q } }) := by
  obtain ⟨c, hc⟩ := Option.ne_none_iff_exists'.mp hc
  have not_dialling : v.call.station ≠ .dialling ∧ v.call.station ≠ .creditWait := by
    obtain h | h := hst <;> simp [h]
  have may : mayTone v = true := by
    obtain h | h := hst <;> simp [mayTone, h, hl, idleSender, hs]
  have offered : offerDigit v = startDigit false x { v with call := { v.call with dialQueue := q } } := by
    unfold offerDigit
    rw [hc, hq]
    dsimp only
    rw [if_neg (by simp [mayDial, not_dialling.1]), if_pos may]
  rw [judgeSender, judgeGate_still not_dialling.2, offered]
  exact behind_digit (startDigit_busy _ _ _).1

/-- In REPORTING only the report's own digits and symbols are sent (R155, R158). -/
theorem judgeSender_reporting (hst : v.call.station = .reporting) :
    judgeSender v = offerReport (withoutInterDigit v) := by
  rw [judgeSender, judgeGate_still (by simp [hst]), offerDigit_still (by simp [hst]) (by simp [hst])
    (by simp [hst]), judgeRingback_still (by simp [hst]), judgeInterDigit_still (by simp [hst])]

/-- In conversation the call in progress and the line's state stand. -/
theorem judgeSender_conversing (hst : v.call.station = .talking ∨ v.call.station = .talkingIn)
    (hp : v.report.phase ≠ .dialling) (hp' : v.report.phase ≠ .sending) :
    (judgeSender v).call.cur = v.call.cur ∧ (judgeSender v).line.state = v.line.state
      ∧ (judgeSender v).line.loopTimer = v.line.loopTimer := by
  have timers : ∀ (b : Bool) (x : Nat) (w : State), (startDigit b x w).line.loopTimer = w.line.loopTimer := by
    intro b x w
    unfold startDigit
    split
    · rfl
    · split <;> rfl
  by_cases hs : v.line.sender = none
  · by_cases hl : v.line.state = .connected
    · cases hq : v.call.dialQueue with
      | nil =>
        rw [judgeSender_talking hst (.inl hq) hp hp']
        exact ⟨rfl, rfl, rfl⟩
      | cons x q =>
        by_cases hc : v.call.cur = none
        · have still : offerDigit v = v := by
            unfold offerDigit
            rw [hc]
          have not_dialling : v.call.station ≠ .dialling ∧ v.call.station ≠ .creditWait := by
            obtain h | h := hst <;> simp [h]
          rw [judgeSender, judgeGate_still not_dialling.2, still, judgeRingback_still not_dialling.1,
            judgeInterDigit_still not_dialling.1, offerReport_still (s := withoutInterDigit v) hp hp']
          exact ⟨rfl, rfl, rfl⟩
        · obtain ⟨-, call, -, state⟩ := startDigit_busy false x
            { v with call := { v.call with dialQueue := q } }
          have cur := congrArg CallCtl.cur call
          have timer := timers false x { v with call := { v.call with dialQueue := q } }
          rw [judgeSender_tones hst hl hs hq hc]
          exact ⟨cur, state, timer⟩
    · have not_dialling : v.call.station ≠ .dialling ∧ v.call.station ≠ .creditWait := by
        obtain h | h := hst <;> simp [h]
      have still : offerDigit v = v := by
        unfold offerDigit
        split
        · rw [if_neg (by simp [mayDial, not_dialling.1]), if_neg (by simp [mayTone, hl])]
        · rfl
      rw [judgeSender, judgeGate_still not_dialling.2, still, judgeRingback_still not_dialling.1,
        judgeInterDigit_still not_dialling.1, offerReport_still (s := withoutInterDigit v) hp hp']
      exact ⟨rfl, rfl, rfl⟩
  · rw [judgeSender_talking hst (.inr hs) hp hp']
    exact ⟨rfl, rfl, rfl⟩

end

end Sys2Proof.Proofs

/-! WARN and the ringing (R104, R125), and the line from its seizure to its release (R105, R110, R115). -/
namespace Sys2Proof.Proofs
open Sys2Proof.Machine Sys2Proof.Safety Sys2Proof.Laws

section
variable {s t u v : State} {p : Profile}

theorem startDigit_call (b : Bool) (x : Nat) (s : State) : (startDigit b x s).call = s.call :=
  (startDigit_busy b x s).2.1

/-! ### No ringing out of nothing -/

/-- The calling side's judgments never enter RING IN. -/
theorem judgeSender_ringIn (h : v.call.station ≠ .ringIn) : (judgeSender v).call.station ≠ .ringIn := by
  have gate : ∀ w : State, w.call.station ≠ .ringIn → (judgeGate w).call.station ≠ .ringIn := by
    intro w hw
    unfold judgeGate
    split
    · exact hw
    · split
      · exact fun h => nomatch h
      · exact hw
  have offered : ∀ w : State, (offerDigit w).call.station = w.call.station := by
    intro w
    unfold offerDigit
    split
    · split
      · rw [startDigit_call]
      · split
        · rw [startDigit_call]
        · rfl
    · rfl
  have ringback : ∀ w : State, w.call.station ≠ .ringIn → (judgeRingback w).call.station ≠ .ringIn := by
    intro w hw
    unfold judgeRingback
    split
    · split
      · exact fun h => nomatch h
      · exact hw
    · exact hw
  have inter : ∀ w : State, (judgeInterDigit w).call.station = w.call.station := by
    intro w
    unfold judgeInterDigit
    split
    · split <;> rfl
    · rfl
  have report : ∀ w : State, (offerReport w).call.station = w.call.station := by
    intro w
    unfold offerReport
    split
    · split
      · split
        · rw [startDigit_call]
        · rfl
      · split
        · rw [startDigit_call]
        · rfl
      all_goals rfl
    · rfl
  rw [judgeSender, report, inter]
  exact ringback _ (by rw [offered]; exact gate _ h)

theorem grantReport_station (h : s.call.station ≠ .ringIn) : (grantReport s).call.station ≠ .ringIn := by
  unfold grantReport
  split
  · exact h
  · dsimp only
    unfold askSeize
    split
    · unfold closeSeize
      dsimp only
      split
      · exact fun h => nomatch h
      · exact fun h => nomatch h
    · exact fun h => nomatch h

theorem judgeReport_ringIn (h : s.call.station ≠ .ringIn) : (judgeReport s).call.station ≠ .ringIn := by
  unfold judgeReport
  dsimp only
  split
  · exact h
  · split
    · exact grantReport_station h
    · exact h

theorem finish_ringIn (n : Nat) (hr : s.sys.part = .running) (h : s.call.station ≠ .ringIn) :
    (finish n s).call.station ≠ .ringIn := by
  rw [finish_call, settle_eq hr]
  exact judgeSender_ringIn (judgeReport_ringIn (by rwa [atReport_station]))

theorem ringIn_stepWith {f : State → State} (hr : (f s).sys.part = .running)
    (h : (f s).call.station = .ringIn) : (stepWith f s).call.station = .ringIn := by
  refine (station_stepWith hr ?_ ?_ ?_ ?_).trans h <;> simp [h]

end

/-- Settles O54. -/
theorem warnAndRingAreTimed : Obligations.WarnAndRingAreTimed := by
  intro s hr
  have exec_eq : exec .ringReport s = .next (stepWith ringBody s) := runningStep hr
  have stays : noReport s → (s.call.station = .idle ∨ s.call.station = .ready ∨ s.call.station = .ringIn) →
      ringBody s = s → (stepWith ringBody s).call.station = s.call.station := by
    intro hn hst hbody
    refine (station_stepWith_atRest (by rw [hbody]; refine ⟨hr, hn, ?_⟩; obtain h | h | h := hst <;> simp [h])).trans ?_
    rw [hbody]
  refine ⟨fun hd => leads_stepWith (dueStep hr hd) rfl, fun hl => ⟨fun hst => ?_,
    fun p hp hin hmode hcl hst => ?_, fun p hp hst hno => ?_⟩, fun hl hl' => ?_, fun hd hst hn => ?_⟩
  · have body : ringBody s = updCallCtl (fun c => { c with ringTimer := some 6000 }) s := by
      unfold ringBody
      rw [if_pos hl, if_pos hst]
    refine leadsWith_stepWith exec_eq (by rw [body]; rfl) (ringIn_stepWith (by rw [body]; exact hr) ?_)
    rw [body]
    exact hst
  · have may : mayRing s = true := by
      obtain hst | ⟨hst, hm⟩ := hst
      · simp [mayRing, hp, hin, hmode, hcl, hst]
      · simp [mayRing, hp, hin, hmode, hcl, hst, purseOpen, hm]
    have away : s.call.station ≠ .ringIn := by obtain hst | ⟨hst, -⟩ := hst <;> simp [hst]
    have body : ringBody s = raise .call 11 []
        (setStation .ringIn (updCallCtl (fun c => { c with ringTimer := some 6000 }) s)) := by
      unfold ringBody
      rw [if_pos hl, if_neg away, if_pos may]
    refine leadsWith_stepWith exec_eq ?_ (ringIn_stepWith ?_ ?_)
    · rw [body]
      exact (steady_of_unposted (raise_unposted _ _ _ _)).trans rfl
    · rw [body, raise_sys]
      exact hr
    · rw [body, raise_call]
      rfl
  · have may : mayRing s = false := by
      obtain h | h | h | ⟨h, h'⟩ | ⟨h, h'⟩ := hno
      · simp [mayRing, hp, h]
      · simp [mayRing, h]
      · simp [mayRing, h]
      · simp [mayRing, h, h']
      · simp [mayRing, h, purseOpen, h']
    have body : ringBody s = s := by
      unfold ringBody
      rw [if_pos hl, if_neg hst, if_neg (by simp [may])]
    refine leadsWith_stepWith exec_eq (by rw [body]) ⟨?_, fun hn hw => stays hn (hw.imp id .inl) body⟩
    rw [stepWith, body]
    exact finish_ringIn _ hr hst
  · have body : ringBody s = s := if_neg (by simp [hl, hl'])
    exact leadsWith_stepWith exec_eq (by rw [body]) fun hn hw => stays hn hw body
  · have exec_eq : exec .ringTimerExpiry s = .next (stepWith (fun s => setStation (restStation s)
        (updCallCtl (fun c => { c with ringTimer := none }) s)) s) := dueStep hr (by simp [hd, hst])
    refine leadsWith_stepWith exec_eq rfl ?_
    have rest : AtRest (setStation (restStation s) (updCallCtl (fun c => { c with ringTimer := none }) s)) :=
      ⟨hr, hn, by cases hh : s.call.hook <;> simp [setStation, touchLive, restStation, hh]⟩
    exact station_stepWith_atRest (f := fun s => setStation (restStation s)
      (updCallCtl (fun c => { c with ringTimer := none }) s)) rest

section
variable {s t u v : State} {p : Profile}

/-! ### Loop current (R105, R110) -/

/-- The line stands at a step's end where it is neither SENDING nor CONNECTED, and with it the call in
progress outside CREDIT WAIT and the report. -/
theorem finish_quietLine (n : Nat) (hr : s.sys.part = .running) (hg : noGrant s)
    (h : s.line.state ≠ .sending) (h' : s.line.state ≠ .connected)
    (hp : s.report.phase ≠ .dialling) (hp' : s.report.phase ≠ .sending) :
    (finish n s).line = s.line ∧ (finish n s).report = s.report
      ∧ (s.call.station ≠ .creditWait → (finish n s).call.cur = s.call.cur) := by
  obtain ⟨v, hv⟩ := calling_finish n hr hg
  obtain ⟨hl, hrep, hc⟩ := judgeSender_line (v := v) (by rwa [hv.found_line]) (by rwa [hv.found_line])
    (by rwa [hv.found_report]) (by rwa [hv.found_report])
  rw [hv.call, hv.line, hv.report, hl, hrep]
  refine ⟨hv.found_line, hv.found_report, fun hst => ?_⟩
  rw [hc (by rw [hv.found_call]; exact hst), hv.found_call]

/-- In conversation the call in progress, the line's state and its loop timer stand at a step's end. -/
theorem finish_conversing (n : Nat) (hr : s.sys.part = .running) (hn : noReport s)
    (hst : s.call.station = .talking ∨ s.call.station = .talkingIn) :
    (finish n s).call.cur = s.call.cur ∧ (finish n s).line.state = s.line.state
      ∧ (finish n s).line.loopTimer = s.line.loopTimer := by
  obtain ⟨v, hv⟩ := calling_finish n hr (.inl hn)
  have station : v.call.station = s.call.station := by rw [hv.found_call]
  have phase : v.report.phase = .noCall := by rw [hv.found_report]; exact hn.2
  obtain ⟨hc, hl, ht⟩ := judgeSender_conversing (v := v) (by rwa [station]) (by simp [phase]) (by simp [phase])
  rw [hv.call, hv.line, hc, hl, ht, hv.found_line, hv.found_call]
  exact ⟨rfl, rfl, rfl⟩

/-! ### SEIZE closed (R110) -/

/-- A seizure made for a call of the caller or an incoming call. -/
theorem closeSeize_rest (h : s.call.claim ≠ .report) :
    (closeSeize s).line = { s.line with
        state := .seizing, seize := true, waiting := false, loopTimer := some 500 }
      ∧ (closeSeize s).call = { s.call with cur := s.call.cur.map (fun c =>
          { c with seized := true, start := s.cal.time, clockInvalid := !s.cal.valid }) }
      ∧ (closeSeize s).report = s.report ∧ (closeSeize s).sys = s.sys
      ∧ steady (closeSeize s) = steady s := by
  unfold closeSeize
  dsimp only
  rw [if_neg h]
  exact ⟨rfl, rfl, rfl, rfl, rfl⟩

/-! ### The digit taken by the sender (R96, R112, R155) -/

theorem startDigit_sender (b : Bool) (x : Nat) (s : State) : (startDigit b x s).line.sender
    = some (if x = 12 then ⟨12, .pause, 0, 2000⟩
      else if b then ⟨x, .brk, if x = 0 then 10 else x, 60⟩ else ⟨x, .strobe, 0, 80⟩) := by
  unfold startDigit
  split
  · next h => rw [h]
  · split <;> rfl

theorem startDigit_report (b : Bool) (x : Nat) (s : State) : (startDigit b x s).report = s.report :=
  (startDigit_busy b x s).2.2.1
theorem startDigit_state (b : Bool) (x : Nat) (s : State) :
    (startDigit b x s).line.state = s.line.state := (startDigit_busy b x s).2.2.2

/-- The next digit of a report number is sent (R155). -/
theorem offerReport_digit {x : Nat} {q : List Nat} (hs : v.line.sender = none)
    (hp : v.report.phase = .dialling) (hq : dropStars (pulseMode v) v.report.toDial = x :: q) :
    offerReport v = startDigit (pulseMode v) x { v with report := { v.report with toDial := q } } := by
  have idle : idleSender v = true := by simp [idleSender, hs]
  unfold offerReport
  rw [if_pos idle, hp]
  dsimp only
  rw [hq]

/-- Dial tone found: the line SENDING (R110). -/
def toneFound (s : State) : State :=
  setLine .sending (updLine (fun l => { l with
    toneLimit := none, tonePeriod := none,
    answerP := if s.pins.rev then some 100 else none }) s)

theorem toneBody_caller (h : s.call.claim ≠ .report) : toneBody s = toneFound s := if_neg h

theorem toneBody_report (h : s.call.claim = .report) :
    toneBody s = { toneFound s with report := { s.report with phase := .dialling } } := if_pos h

/-- The clearing guard over (R115, R159). -/
def guardOver (s : State) : State :=
  let s1 := setLine .released (updLine (fun l => { l with guard := none }) s)
  if s1.report.phase = .clearing then { s1 with report := { s1.report with phase := .noCall } } else s1

theorem guardOver_rest (hd : s.report.due = false)
    (hp : s.report.phase = .noCall ∨ s.report.phase = .clearing) :
    (guardOver s).line = { s.line with guard := none, state := .released }
      ∧ (guardOver s).call = s.call ∧ (guardOver s).sys = s.sys ∧ noReport (guardOver s)
      ∧ (guardOver s).cal = s.cal
      ∧ steady (guardOver s) = steady { s with line := { s.line with guard := none } } := by
  unfold guardOver
  dsimp only
  split
  · exact ⟨rfl, rfl, rfl, ⟨hd, rfl⟩, rfl, rfl⟩
  · next h => exact ⟨rfl, rfl, rfl, ⟨hd, hp.resolve_right h⟩, rfl, rfl⟩

end

/-- Settles O55. -/
theorem lineIsSeizedAndReleased : Obligations.LineIsSeizedAndReleased := by
  intro s p hr hp
  refine ⟨fun hst hloop => ⟨fun hcl => ?_, fun c hcl hn hstat hcur => ?_⟩,
    fun hst hd htone hs hpulse => ⟨fun c hcl hn hstat hcur hcomp => ⟨fun hq hi => ?_, fun x q hq hx hdec => ?_⟩,
      fun x q hcl hstat hq hx => ?_⟩, fun hst hd hdue hph => ⟨fun hw => ?_, fun hw hcl => ?_⟩⟩
  · have exec_eq : exec .loopPresent s = .next (stepWith loopBody s) := condStep hr ⟨hst, hloop⟩
    have notIncoming : s.call.claim ≠ .incoming := by obtain ⟨h, -⟩ | h := hcl <;> simp [h]
    have body : loopBody s = loopOutgoing (updLine (fun l => { l with loopTimer := none }) s) :=
      if_neg notIncoming
    have dialTone : seconds (param (·.dialToneS) s) = some (p.dialToneS * 1000) := by
      simp [param, hp, seconds]
    have left : (loopBody s).line = { s.line with
          state := .awaitTone, loopTimer := none, toneLimit := some (p.dialToneS * 1000),
          tonePeriod := if s.pins.dialtone then some 300 else none }
        ∧ (loopBody s).call = s.call ∧ (loopBody s).sys = s.sys
        ∧ (s.call.claim ≠ .report → (loopBody s).report = s.report)
        ∧ (s.call.claim = .report → (loopBody s).report.phase = .awaitTone)
        ∧ steady (loopBody s) = steady { s with line := { s.line with
          toneLimit := some (p.dialToneS * 1000),
          tonePeriod := if s.pins.dialtone then some 300 else none } } := by
      rw [body, ← dialTone]
      unfold loopOutgoing
      dsimp only
      split
      · next h => exact ⟨rfl, rfl, rfl, fun h' => absurd h h', fun _ => rfl, rfl⟩
      · next h => exact ⟨rfl, rfl, rfl, fun _ => rfl, fun h' => absurd h' h, rfl⟩
    obtain ⟨line, call, sys, report, phase, steady_⟩ := left
    have quiet : noGrant (loopBody s) ∧ (loopBody s).report.phase ≠ .dialling
        ∧ (loopBody s).report.phase ≠ .sending := by
      obtain ⟨h, hn⟩ | h := hcl
      · have same := report (by simp [h])
        rw [same]
        exact ⟨.inl (by rw [noReport, same]; exact hn), by simp [hn.2], by simp [hn.2]⟩
      · rw [phase h]
        exact ⟨.inr (.inr (.inl (by rw [call, h]; simp))), by simp, by simp⟩
    obtain ⟨fline, freport, -⟩ := finish_quietLine (waiting s) (by rw [sys]; exact hr) quiet.1
      (by rw [line]; simp) (by rw [line]; simp) quiet.2.1 quiet.2.2
    refine leadsWith_stepWith exec_eq steady_ ?_
    rw [stepWith, fline, line, freport]
    exact ⟨rfl, rfl, rfl, phase⟩
  · have exec_eq : exec .loopPresent s = .next (stepWith loopBody s) := condStep hr ⟨hst, hloop⟩
    have body : ∃ d, loopBody s = raise .call 9 d (updCall (fun c => { c with
        answered := true, talk := 0, band := BitVec.ofNat 3 s.cal.band })
        (setLine .connected (updLine (fun l => { l with loopTimer := none, revRef := s.pins.rev }) s))) :=
      ⟨_, if_pos hcl⟩
    obtain ⟨d, body⟩ := body
    have raised := raise_unposted .call 9 d (updCall (fun c => { c with
        answered := true, talk := 0, band := BitVec.ofNat 3 s.cal.band })
        (setLine .connected (updLine (fun l => { l with loopTimer := none, revRef := s.pins.rev }) s)))
    rw [← body] at raised
    have call := call_of_unposted raised
    have line := line_of_unposted raised
    have report := report_of_unposted raised
    have sys := sys_of_unposted raised
    obtain ⟨fcur, fstate, ftimer⟩ := finish_conversing (s := loopBody s) (waiting s) (by rw [sys]; exact hr)
      (by rw [noReport, report]; exact hn) (by rw [call]; exact .inr hstat)
    refine leadsWith_stepWith exec_eq ((steady_of_unposted raised).trans rfl) ?_
    rw [stepWith, fcur, fstate, ftimer, call, line]
    exact ⟨rfl, rfl, congrArg (Option.map _) hcur⟩
  · have exec_eq : exec .dialToneFound s = .next (stepWith toneBody s) := condStep hr ⟨hst, hd, htone⟩
    have body := toneBody_caller (s := s) (by simp [hcl])
    obtain ⟨v, hv⟩ := calling_finish (s := toneFound s) (waiting s) hr (.inl hn)
    have call := hv.found_call
    have line := hv.found_line
    have waits := judgeSender_waits (v := v) (c := c) (by rw [call]; exact hstat) (by rw [line]; rfl)
      (by rw [line]; exact hs) (by rw [call]; exact hq) (by rw [call]; exact hcur) hcomp
      (by rw [call]; exact hi) (by rw [hv.found_report]; exact hn.2)
    refine leadsWith_stepWith exec_eq (by rw [body]; rfl) ?_
    rw [stepWith, body, hv.line, hv.call, waits]
    have time : seconds (param (·.interDigitS) v) = some (p.interDigitS * 1000) := by
      have prof : v.gate.profile = some p := hv.found_profile.trans hp
      simp [param, prof, seconds]
    refine ⟨?_, ?_, time, ?_⟩
    · exact (congrArg Line.state line).trans rfl
    · exact (congrArg Line.sender line).trans hs
    · exact (congrArg Line.answerP line).trans rfl
  · have exec_eq : exec .dialToneFound s = .next (stepWith toneBody s) := condStep hr ⟨hst, hd, htone⟩
    have body := toneBody_caller (s := s) (by simp [hcl])
    obtain ⟨v, hv⟩ := calling_finish (s := toneFound s) (waiting s) hr (.inl hn)
    have call := hv.found_call
    have line := hv.found_line
    have dials := judgeSender_dials (v := v) (c := c) (by rw [call]; exact hstat) (by rw [line]; rfl)
      (by rw [line]; exact hs) (by rw [call]; exact hq) (by rw [call]; exact hcur) (.inl hdec)
    have tones : pulseMode v = false := by
      have prof : v.gate.profile = some p := hv.found_profile.trans hp
      simp [pulseMode, prof, hpulse]
    refine leadsWith_stepWith exec_eq (by rw [body]; rfl) ?_
    rw [stepWith, body, hv.line, hv.call, dials, tones]
    have state := startDigit_state false x { v with call := { v.call with dialQueue := q } }
    have sender := startDigit_sender false x { v with call := { v.call with dialQueue := q } }
    have queue := congrArg CallCtl.dialQueue
      (startDigit_call false x { v with call := { v.call with dialQueue := q } })
    rw [if_neg hx, if_neg (by simp)] at sender
    exact ⟨state.trans (congrArg Line.state line), sender, queue⟩
  · have exec_eq : exec .dialToneFound s = .next (stepWith toneBody s) := condStep hr ⟨hst, hd, htone⟩
    have body := toneBody_report hcl
    obtain ⟨v, hv⟩ := calling_finish (s := toneBody s) (waiting s) (by rw [body]; exact hr)
      (.inr (.inr (.inl (by rw [body]; show s.call.claim ≠ _; simp [hcl]))))
    have call := hv.found_call
    have line := hv.found_line
    have report := hv.found_report
    have prof := hv.found_profile
    rw [body] at call line report prof
    have tones : pulseMode v = false := by
      have prof : v.gate.profile = some p := prof.trans hp
      simp [pulseMode, prof, hpulse]
    have digits : dropStars (pulseMode (withoutInterDigit v)) (withoutInterDigit v).report.toDial = x :: q := by
      have : pulseMode (withoutInterDigit v) = false := tones
      rw [this]
      show v.report.toDial = _
      rw [report]
      exact hq
    have sends := offerReport_digit (v := withoutInterDigit v) (by show v.line.sender = none; rw [line]; exact hs)
      (by show v.report.phase = _; rw [report]) digits
    have judged := judgeSender_reporting (v := v) (by rw [call]; exact hstat)
    refine leadsWith_stepWith exec_eq (by rw [body]; rfl) ?_
    have tones' : pulseMode (withoutInterDigit v) = false := tones
    rw [tones'] at sends
    rw [stepWith, hv.line, hv.report, judged, sends, startDigit_state, startDigit_report, startDigit_sender,
      if_neg hx, if_neg (by simp)]
    refine ⟨?_, ?_, rfl, rfl⟩
    · show v.line.state = _
      rw [line]
      rfl
    · show v.report.phase = _
      rw [report]
  · have exec_eq : exec .clearingGuardEnd s = .next (stepWith guardBody s) := condStep hr ⟨hst, hd⟩
    obtain ⟨line, call, sys, quiet, -, steady_⟩ := guardOver_rest hdue hph
    have body : guardBody s = guardOver s := if_neg (by
      show ¬ (guardOver s).line.waiting = true
      rw [line]
      simp [hw])
    obtain ⟨fline, freport, -⟩ := finish_quietLine (s := guardOver s) (waiting s) (by rw [sys]; exact hr)
      (.inl quiet) (by rw [line]; simp) (by rw [line]; simp) (by simp [quiet.2]) (by simp [quiet.2])
    refine leadsWith_stepWith exec_eq (by rw [body, steady_]) ?_
    rw [stepWith, body, fline, freport, line]
    exact ⟨rfl, quiet.2, rfl⟩
  · have exec_eq : exec .clearingGuardEnd s = .next (stepWith guardBody s) := condStep hr ⟨hst, hd⟩
    obtain ⟨line, call, sys, quiet, cal, steady_⟩ := guardOver_rest hdue hph
    have body : guardBody s = closeSeize (guardOver s) := if_pos (by
      show (guardOver s).line.waiting = true
      rw [line]
      exact hw)
    obtain ⟨cline, ccall, creport, csys, csteady⟩ := closeSeize_rest (s := guardOver s) (by rwa [call])
    have cquiet : noReport (closeSeize (guardOver s)) := by rw [noReport, creport]; exact quiet
    obtain ⟨fline, -, fcur⟩ := finish_quietLine (s := closeSeize (guardOver s)) (waiting s)
      (by rw [csys, sys]; exact hr) (.inl cquiet) (by rw [cline]; simp) (by rw [cline]; simp)
      (by simp [cquiet.2]) (by simp [cquiet.2])
    refine leadsWith_stepWith exec_eq (by rw [body, csteady, steady_]) ?_
    rw [stepWith, body, fline, cline]
    refine ⟨rfl, rfl, rfl, rfl, fun c hc hstat => ?_⟩
    rw [fcur (by rw [ccall, call]; exact hstat), ccall, call, cal]
    exact congrArg (Option.map _) hc

end Sys2Proof.Proofs

/-! The digit sender (R96, R100, R112, R155, R158). -/
namespace Sys2Proof.Proofs
open Sys2Proof.Machine Sys2Proof.Safety Sys2Proof.Laws

section
variable {s t u v : State} {p : Profile}

/-! ### The sender at the end of a step -/

theorem askSeize_sender (s : State) : (askSeize s).line.sender = s.line.sender := by
  unfold askSeize closeSeize
  split
  · dsimp only
    split <;> rfl
  · rfl

theorem judgeReport_sender (s : State) : (judgeReport s).line.sender = s.line.sender := by
  have grant : ∀ w : State, (grantReport w).line.sender = w.line.sender := by
    intro w
    unfold grantReport
    split
    · rfl
    · dsimp only
      rw [askSeize_sender]
      rfl
  unfold judgeReport
  dsimp only
  split
  · rfl
  · split
    · rw [grant]
    · rfl

theorem judgeGate_line (v : State) : (judgeGate v).line = v.line
    ∧ (judgeGate v).call.dialQueue = v.call.dialQueue ∧ (judgeGate v).report = v.report := by
  unfold judgeGate
  split
  · exact ⟨rfl, rfl, rfl⟩
  · split <;> exact ⟨rfl, rfl, rfl⟩

theorem judgeRingback_sender (v : State) : (judgeRingback v).line.sender = v.line.sender
    ∧ (judgeRingback v).report = v.report := by
  unfold judgeRingback
  split
  · split <;> exact ⟨rfl, rfl⟩
  · exact ⟨rfl, rfl⟩

theorem judgeInterDigit_line (v : State) : (judgeInterDigit v).line = v.line
    ∧ (judgeInterDigit v).report = v.report := by
  unfold judgeInterDigit
  split
  · split <;> exact ⟨rfl, rfl⟩
  · exact ⟨rfl, rfl⟩

/-- A digit being sent goes on. -/
theorem judgeSender_busy (h : v.line.sender ≠ none) : (judgeSender v).line.sender = v.line.sender := by
  have gl := (judgeGate_line v).1
  have busy : offerDigit (judgeGate v) = judgeGate v := offerDigit_busy (by rwa [gl])
  rw [judgeSender, busy, behind_digit (by rwa [gl])]
  exact congrArg Line.sender gl

theorem finish_busy (n : Nat) (hr : s.sys.part = .running) (h : s.line.sender ≠ none) :
    (finish n s).line.sender = s.line.sender := by
  have line : (atReport s).line = s.line := by
    have := line_of_unjudged (atReport_unjudged s)
    exact this
  have kept : (judgeReport (atReport s)).line.sender = s.line.sender := by rw [judgeReport_sender, line]
  rw [finish_line, settle_eq hr, judgeSender_busy (by rwa [kept]), kept]

/-- With nothing to dial and no report to send no digit begins. -/
theorem judgeSender_nothing (hq : v.call.dialQueue = []) (hp : v.report.phase = .noCall) :
    (judgeSender v).line.sender = v.line.sender := by
  obtain ⟨gl, gq, gr⟩ := judgeGate_line v
  have phase : (judgeInterDigit (judgeRingback (judgeGate v))).report.phase = .noCall := by
    rw [(judgeInterDigit_line _).2, (judgeRingback_sender _).2, gr, hp]
  rw [judgeSender, offerDigit_nothing (gq.trans hq), offerReport_still (by simp [phase]) (by simp [phase]),
    (judgeInterDigit_line _).1, (judgeRingback_sender _).1, gl]

/-! ### The report's digits and symbols (R155, R158) -/

/-- After the last digit of a report number the engine awaits the centre (R155). -/
theorem offerReport_dialled (hs : v.line.sender = none) (hp : v.report.phase = .dialling)
    (hq : dropStars (pulseMode v) v.report.toDial = []) :
    offerReport v = { connectOut v with report := { v.report with
      phase := .awaitCentre, toDial := [], answerTimer := seconds (param (·.answerS) v) } } := by
  have idle : idleSender v = true := by simp [idleSender, hs]
  unfold offerReport
  rw [if_pos idle, hp]
  dsimp only
  rw [hq]
  rfl

theorem offerReport_symbol {x : Nat} {q : List Nat} (hs : v.line.sender = none)
    (hp : v.report.phase = .sending) (hq : v.report.symbols = x :: q) :
    offerReport v = startDigit false x { v with report := { v.report with symbols := q } } := by
  have idle : idleSender v = true := by simp [idleSender, hs]
  unfold offerReport
  rw [if_pos idle, hp]
  dsimp only
  rw [hq]

theorem offerReport_sent (hs : v.line.sender = none) (hp : v.report.phase = .sending)
    (hq : v.report.symbols = []) :
    offerReport v = { v with report := { v.report with phase := .awaitAck, ackTimer := some 3000 } } := by
  have idle : idleSender v = true := by simp [idleSender, hs]
  unfold offerReport
  rw [if_pos idle, hp]
  dsimp only
  rw [hq]

/-- The state with the sender idle, as the end of a digit's signalling leaves it. -/
def senderIdle (s : State) : State := { s with line := { s.line with sender := none } }

/-- The end of a digit's signalling in a report call: only the report's own digits and symbols follow. -/
theorem idle_reporting (n : Nat) (hr : s.sys.part = .running) (hst : s.call.station = .reporting) :
    ∃ v, (finish n (senderIdle s)).line = (offerReport v).line
      ∧ (finish n (senderIdle s)).report = (offerReport v).report ∧ v.line = { s.line with sender := none }
      ∧ v.report = s.report ∧ v.gate.profile = s.gate.profile := by
  obtain ⟨v, hv⟩ := calling_finish (s := senderIdle s) n hr (.inr (.inl (by
    show s.call.station ≠ _ ∧ s.call.station ≠ _
    simp [hst])))
  have station : v.call.station = .reporting := by rw [hv.found_call]; exact hst
  refine ⟨withoutInterDigit v, ?_, ?_, hv.found_line, hv.found_report, hv.found_profile⟩
  · rw [hv.line, judgeSender_reporting station]
  · rw [hv.report, judgeSender_reporting station]

theorem pulseMode_eq (h : s.gate.profile = some p) : pulseMode s = p.pulse := by simp [pulseMode, h]

end

/-- Settles O51. -/
theorem digitsAreSignalled : Obligations.DigitsAreSignalled := by
  intro s d hr hs hd
  have phaseEnd : lastPhase d.phase = false →
      exec .digitSenderPhaseEnd s = .next (stepWith (nextPhase · d) s) := by
    intro h
    show execDigitSenderPhaseEnd s = _
    unfold execDigitSenderPhaseEnd
    rw [hs]
    exact dueStep hr (by simp [h, hd])
  have signalEnd : lastPhase d.phase = true →
      exec .digitSignalEnd s = .next (stepWith senderIdle s) := by
    intro h
    show execDigitSignalEnd s = _
    unfold execDigitSignalEnd
    rw [hs]
    exact dueStep hr (by simp [h, hd])
  have phase : ∀ x : Sending, lastPhase d.phase = false → steady (nextPhase s d) = steady s →
      (nextPhase s d).sys = s.sys → (nextPhase s d).line.sender = some x →
      leadsWith .digitSenderPhaseEnd s s (fun t => t.line.sender = some x) := by
    intro x hl hsteady hsys hx
    refine leadsWith_stepWith (phaseEnd hl) hsteady ?_
    rw [stepWith, finish_busy _ (by rw [hsys]; exact hr) (by rw [hx]; simp), hx]
  have ends : d.phase = .gap ∨ d.phase = .interDigit ∨ d.phase = .pause → lastPhase d.phase = true := by
    rintro (h | h | h) <;> rw [h] <;> rfl
  refine ⟨fun h => ?_, fun h => ?_, fun h => ?_, fun h hn => ⟨fun hq => ?_, fun p c x q hp hq hc hst hl hdec => ?_,
    fun x q hq hc hst hl => ?_⟩, fun h hst => ⟨fun hph p ds hp hds => ⟨fun x q hx => ?_, fun hnil => ?_⟩,
      fun hph => ⟨fun x q hx hne => ?_, fun hnil => ?_⟩⟩⟩
  · have eq : nextPhase s d
        = { s with line := { s.line with sender := some { d with phase := .gap, timer := 80 } } } := by
      simp only [nextPhase, h]
    exact phase _ (by rw [h]; rfl) (by rw [eq]; rfl) (by rw [eq]) (by rw [eq])
  · have eq : nextPhase s d = { s with line := { s.line with
        sender := some { d with phase := .make, left := d.left - 1, timer := 40 },
        loss := if pastSeizing s.line && !s.pins.loop then some 400 else none } } := by
      simp only [nextPhase, h]
    exact phase _ (by rw [h]; rfl) (by rw [eq]; rfl) (by rw [eq]) (by rw [eq])
  · by_cases hleft : d.left = 0
    · have eq : nextPhase s d
          = { s with line := { s.line with sender := some { d with phase := .interDigit, timer := 700 } } } := by
        simp only [nextPhase, h, if_pos hleft]
      rw [if_pos hleft]
      exact phase _ (by rw [h]; rfl) (by rw [eq]; rfl) (by rw [eq]) (by rw [eq])
    · have eq : nextPhase s d = { s with line := { s.line with
          sender := some { d with phase := .brk, timer := 60 }, loss := none } } := by
        simp only [nextPhase, h, if_neg hleft]
      rw [if_neg hleft]
      exact phase _ (by rw [h]; rfl) (by rw [eq]; rfl) (by rw [eq]) (by rw [eq])
  · obtain ⟨v, hv⟩ := calling_finish (s := senderIdle s) (waiting s) hr (.inl hn)
    refine leadsWith_stepWith (signalEnd (ends h)) rfl ?_
    rw [stepWith, hv.line, judgeSender_nothing (by rw [hv.found_call]; exact hq)
      (by rw [hv.found_report]; exact hn.2), hv.found_line]
    rfl
  · obtain ⟨v, hv⟩ := calling_finish (s := senderIdle s) (waiting s) hr (.inl hn)
    have call := hv.found_call
    have line := hv.found_line
    have dials := judgeSender_dials (v := v) (c := c) (by rw [call]; exact hst) (by rw [line]; exact hl)
      (by rw [line]; rfl) (by rw [call]; exact hq) (by rw [call]; exact hc) hdec
    have mode : pulseMode v = p.pulse := pulseMode_eq (hv.found_profile.trans hp)
    refine leadsWith_stepWith (signalEnd (ends h)) rfl ?_
    rw [stepWith, hv.line, hv.call, dials, mode]
    exact ⟨congrArg CallCtl.dialQueue (startDigit_call p.pulse x { v with call := { v.call with dialQueue := q } }),
      startDigit_sender p.pulse x { v with call := { v.call with dialQueue := q } }⟩
  · obtain ⟨v, hv⟩ := calling_finish (s := senderIdle s) (waiting s) hr (.inl hn)
    have call := hv.found_call
    have line := hv.found_line
    have tones := judgeSender_tones (v := v) (x := x) (q := q) (by rw [call]; exact hst)
      (by rw [line]; exact hl) (by rw [line]; rfl) (by rw [call]; exact hq) (by rw [call]; exact hc)
    refine leadsWith_stepWith (signalEnd (ends h)) rfl ?_
    rw [stepWith, hv.line, hv.call, tones]
    exact ⟨congrArg CallCtl.dialQueue (startDigit_call false x { v with call := { v.call with dialQueue := q } }),
      startDigit_sender false x { v with call := { v.call with dialQueue := q } }⟩
  · obtain ⟨v, fl, fr, line, report, prof⟩ := idle_reporting (waiting s) hr hst
    have mode : pulseMode v = p.pulse := pulseMode_eq (prof.trans hp)
    have sends := offerReport_digit (v := v) (x := x) (q := q) (by rw [line]) (by rw [report]; exact hph) (by
      rw [mode, report]
      exact hds.symm.trans hx)
    refine leadsWith_stepWith (signalEnd (ends h)) rfl ?_
    rw [stepWith, fl, fr, sends, startDigit_report, startDigit_sender, mode, report]
    exact ⟨rfl, hph, rfl⟩
  · obtain ⟨v, fl, fr, line, report, prof⟩ := idle_reporting (waiting s) hr hst
    have mode : pulseMode v = p.pulse := pulseMode_eq (prof.trans hp)
    have sends := offerReport_dialled (v := v) (by rw [line]) (by rw [report]; exact hph) (by
      rw [mode, report]
      exact hds.symm.trans hnil)
    refine leadsWith_stepWith (signalEnd (ends h)) rfl ?_
    have time : seconds (param (·.answerS) v) = some (p.answerS * 1000) := by
      simp [param, prof.trans hp, seconds]
    rw [stepWith, fl, fr, sends]
    exact ⟨rfl, rfl, (congrArg Line.sender line).trans rfl, time⟩
  · obtain ⟨v, fl, fr, line, report, prof⟩ := idle_reporting (waiting s) hr hst
    have sends := offerReport_symbol (v := v) (x := x) (q := q) (by rw [line]) (by rw [report]; exact hph)
      (by rw [report]; exact hx)
    refine leadsWith_stepWith (signalEnd (ends h)) rfl ?_
    rw [stepWith, fl, fr, sends, startDigit_report, startDigit_sender, if_neg hne, if_neg (by simp), report]
    exact ⟨rfl, hph, rfl⟩
  · obtain ⟨v, fl, fr, line, report, prof⟩ := idle_reporting (waiting s) hr hst
    have sends := offerReport_sent (v := v) (by rw [line]) (by rw [report]; exact hph)
      (by rw [report]; exact hnil)
    refine leadsWith_stepWith (signalEnd (ends h)) rfl ?_
    rw [stepWith, fl, fr, sends]
    exact ⟨rfl, rfl, (congrArg Line.sender line).trans rfl⟩

end Sys2Proof.Proofs

/-! An incoming call answered (R90, R105). -/
namespace Sys2Proof.Proofs
open Sys2Proof.Machine Sys2Proof.Safety Sys2Proof.Laws

section
variable {s t u v : State} {p : Profile}

/-! ### The line claim through the calling side's judgments -/

theorem judgeSender_claim (v : State) : (judgeSender v).call.claim = v.call.claim := by
  have gate : ∀ w : State, (judgeGate w).call.claim = w.call.claim := by
    intro w
    unfold judgeGate
    split
    · rfl
    · split <;> rfl
  have offered : ∀ w : State, (offerDigit w).call.claim = w.call.claim := by
    intro w
    unfold offerDigit
    split
    · split
      · rw [startDigit_call]
      · split
        · rw [startDigit_call]
        · rfl
    · rfl
  have ringback : ∀ w : State, (judgeRingback w).call.claim = w.call.claim := by
    intro w
    unfold judgeRingback
    split
    · split <;> rfl
    · rfl
  have inter : ∀ w : State, (judgeInterDigit w).call.claim = w.call.claim := by
    intro w
    unfold judgeInterDigit
    split
    · split <;> rfl
    · rfl
  have report : ∀ w : State, (offerReport w).call.claim = w.call.claim := by
    intro w
    unfold offerReport
    split
    · split
      · split
        · rw [startDigit_call]
        · rfl
      · split
        · rw [startDigit_call]
        · rfl
      all_goals rfl
    · rfl
  rw [judgeSender, report, inter, ringback, offered, gate]

theorem finish_claim (n : Nat) (hr : s.sys.part = .running) (h : noGrant s) :
    (finish n s).call.claim = s.call.claim := by
  obtain ⟨v, hv⟩ := calling_finish n hr h
  rw [hv.call, judgeSender_claim, hv.found_call]

theorem hook_of_steady (h : steady t = steady s) : t.call.hook = s.call.hook :=
  show (steady t).call.hook = (steady s).call.hook from congrArg (·.call.hook) h

/-! ### The incoming call taken (R105) -/

/-- The call in progress and the line of an incoming call as it is taken. -/
theorem takeIncoming_rest (s : State) : (takeIncoming s).call.station = .talkingIn
    ∧ (takeIncoming s).call.claim = .incoming ∧ (takeIncoming s).call.hook = s.call.hook
    ∧ (∃ c, (takeIncoming s).call.cur = some c ∧ c.kind = .incoming ∧ c.zone = none ∧ c.number = []
        ∧ c.answered = false)
    ∧ (s.line.state = .released → (takeIncoming s).line.state = .seizing
        ∧ (takeIncoming s).line.seize = true)
    ∧ (s.line.state ≠ .released → (takeIncoming s).line = { s.line with waiting := true })
    ∧ (takeIncoming s).sys = s.sys ∧ (takeIncoming s).report = s.report
    ∧ (takeIncoming s).gate = s.gate
    ∧ steady (takeIncoming s) = steady { s with call := { s.call with ringTimer := none } } := by
  unfold takeIncoming askSeize
  dsimp only
  by_cases hl : s.line.state = .released
  · rw [if_pos (by exact hl)]
    unfold closeSeize
    dsimp only
    rw [if_neg (by simp [setCall, touchLive])]
    exact ⟨rfl, rfl, rfl, ⟨_, rfl, rfl, rfl, rfl, rfl⟩, fun _ => ⟨rfl, rfl⟩, fun h => absurd hl h, rfl, rfl,
      rfl, rfl⟩
  · rw [if_neg (by exact hl)]
    exact ⟨rfl, rfl, rfl, ⟨_, rfl, rfl, rfl, rfl, rfl⟩, fun h => absurd h hl, fun _ => rfl, rfl, rfl, rfl, rfl⟩

/-- A step that leaves the state as the incoming call taken has it, whatever was posted. -/
theorem takenIn_finish (n : Nat) (hr : s.sys.part = .running) (hn : noReport s) (hh : s.call.hook = true)
    (ucall : u.call = (takeIncoming s).call) (uline : u.line = (takeIncoming s).line)
    (usys : u.sys = (takeIncoming s).sys) (ureport : u.report = (takeIncoming s).report) :
    takenIn s (finish n u) := by
  obtain ⟨station, claim, hook, cur, released, clearing, sys, report, -, -⟩ := takeIncoming_rest s
  generalize takeIncoming s = w at *
  have run : u.sys.part = .running := by rw [usys, sys]; exact hr
  have quiet : noReport u := by rw [noReport, ureport, report]; exact hn
  obtain ⟨fcur, -, -⟩ := finish_conversing n run quiet (.inr (by rw [ucall, station]))
  have fstation := finish_station n run (by simp [ucall, station]) (by simp [ucall, station])
    (by simp [ucall, station]) (by simp [ucall, station])
  have fclaim := finish_claim n run (.inl quiet)
  have fhook := hook_of_steady (finish_steady n u)
  have fline := fun h h' => (finish_quietLine n run (.inl quiet) h h' (by simp [quiet.2])
    (by simp [quiet.2])).1
  refine ⟨by rw [fstation, ucall, station], by rw [fclaim, ucall, claim], by rw [fhook, ucall, hook, hh],
    ?_, fun hl => ?_, fun hl => ?_⟩
  · rw [fcur, ucall]
    exact cur
  · obtain ⟨hstate, hseize⟩ := released hl
    rw [fline (by rw [uline, hstate]; simp) (by rw [uline, hstate]; simp), uline]
    exact ⟨hstate, hseize⟩
  · have hline := clearing (by simp [hl])
    rw [fline (by rw [uline, hline]; simp [hl]) (by rw [uline, hline]; simp [hl]), uline, hline]
    exact ⟨hl, rfl⟩

end

/-- Settles O31. -/
theorem incomingCallIsAnswered : Obligations.IncomingCallIsAnswered := by
  intro s hr hn hst
  refine ⟨fun n d h hp hroom => ⟨fun hh => ?_, fun hh => ?_⟩, fun hd hpin hh => ?_⟩
  · have body : answerOrder n d s = answer n .done 0 (takeIncoming s) := if_pos hh
    obtain ⟨-, -, -, -, -, -, -, -, gate, steady_⟩ := takeIncoming_rest s
    refine leadsWith_owner rfl h (by simp [firstUnmet, hst]) body fun k => ?_
    obtain ⟨hs, ha⟩ := finish_answer gate hp hroom k n .done 0
    refine ⟨hs.trans ?_, ?_, ha⟩
    · have := congrArg answering steady_
      exact this
    · have hu := answer_unposted n .done 0 (takeIncoming s)
      have call := call_of_unposted hu
      have line := line_of_unposted hu
      have sys := sys_of_unposted hu
      have report := report_of_unposted hu
      exact takenIn_finish k hr hn hh call line sys report
  · have body : answerOrder n d s = answer n .notNow (notNowDetail 1 s) s := if_neg (by simp [hh])
    have detail : notNowDetail 1 s = 1 + 256 * 6 := by rw [notNowDetail, hst]; rfl
    rw [detail] at body
    exact leadsWith_owner rfl h (by simp [firstUnmet, hst]) body fun k =>
      finish_answer rfl hp hroom k n .notNow (1 + 256 * 6)
  · have exec_eq : exec .offHook s = .next (stepWith offHookBody s) := dueStep hr (by simp [hd, hpin, hh])
    have body : offHookBody s = takeIncoming (updCallCtl (fun c => { c with hook := true, hookTimer := none }) s) := by
      simp only [offHookBody, hst]
    obtain ⟨-, -, -, -, -, -, -, -, gate, steady_⟩ :=
      takeIncoming_rest (updCallCtl (fun c => { c with hook := true, hookTimer := none }) s)
    refine leadsWith_stepWith exec_eq (by rw [body, steady_]; rfl) ?_
    have taken := takenIn_finish (s := updCallCtl (fun c => { c with hook := true, hookTimer := none }) s)
      (waiting s) hr hn rfl rfl rfl rfl rfl
    rw [stepWith, body]
    exact taken

end Sys2Proof.Proofs

/-! RETURN COINS and NEXT CALL (R102, R103, R126, R128 to R132). -/
namespace Sys2Proof.Proofs
open Sys2Proof.Machine Sys2Proof.Safety Sys2Proof.Laws

section
variable {s t u v : State} {p : Profile}

/-! ### How many posts a step gives -/

/-- `t` has at most `k` more posts than `s`, in places of the queue where there is room for them. -/
def postsUpTo (k : Nat) (s t : State) : Prop :=
  grows s t ∧ (s.gate.waiters = [] → s.gate.queue.length + k ≤ 16 →
    t.gate.waiters = [] ∧ t.gate.queue.length ≤ s.gate.queue.length + k)

theorem postsUpTo_same (h : t.gate = s.gate) : postsUpTo 0 s t :=
  ⟨grows_same (by rw [h]), fun hw _ => by rw [h]; exact ⟨hw, Nat.le_refl _⟩⟩

theorem postsUpTo_trans {i j k : Nat} (h : postsUpTo i s t) (h' : postsUpTo j t u)
    (hk : i + j ≤ k := by decide) : postsUpTo k s u := by
  refine ⟨grows_trans h.1 h'.1, fun hw hq => ?_⟩
  obtain ⟨tw, tq⟩ := h.2 hw (by omega)
  obtain ⟨uw, uq⟩ := h'.2 tw (by omega)
  exact ⟨uw, by omega⟩

theorem postsUpTo_still {k : Nat} (h : t.gate = s.gate) : postsUpTo k s t :=
  postsUpTo_trans (postsUpTo_same h) (postsUpTo_same rfl) (Nat.zero_le _)

theorem offer_postsUpTo {k : Nat} (q : Producer) (es : List PostEntry) (hg : t.gate = s.gate)
    (hk : es.length ≤ k) : postsUpTo k s (offer q es t) := by
  refine ⟨grows_from (offer_grows _ _ _) (by rw [hg]), fun hw hq => ?_⟩
  rw [offer_room _ _ _ (by rwa [hg]) (by rw [hg]; omega), hg]
  exact ⟨hw, by rw [List.length_append]; omega⟩

theorem placeRecord_postsUpTo (c : CallRecord) (s : State) : postsUpTo 2 s (placeRecord c s) := by
  unfold placeRecord
  split
  · exact postsUpTo_still rfl
  · exact offer_postsUpTo .record _ rfl (by simp)

theorem dropRecord_postsUpTo (s : State) : postsUpTo 1 s (dropRecord s) := by
  unfold dropRecord
  dsimp only
  split
  · exact postsUpTo_still rfl
  · split
    · exact offer_postsUpTo .record _ rfl (by simp)
    · exact postsUpTo_still rfl

theorem placePending_postsUpTo (s : State) : postsUpTo 2 s (placePending s) := by
  unfold placePending
  split
  · exact postsUpTo_still rfl
  · next c _ =>
    split
    · exact postsUpTo_trans (postsUpTo_same rfl)
        (placeRecord_postsUpTo c { s with ring := { s.ring with slot := none } })
    · exact postsUpTo_still rfl

/-- A record handed over gives at most its own two posts and those of the record pending before it. -/
theorem handRecord_postsUpTo (c : CallRecord) (s : State) : postsUpTo 4 s (handRecord c s).1 := by
  have first := placePending_postsUpTo s
  unfold handRecord
  dsimp only
  generalize placePending s = v at first
  generalize hw : updTally (countKind c.kind)
      { v with ring := { v.ring with seq := (v.ring.seq + 1) % 65536 } } = w
  have counted : postsUpTo 2 s w := postsUpTo_trans first (postsUpTo_same (by rw [← hw]; rfl))
  have dropped := postsUpTo_trans (k := 3) counted (dropRecord_postsUpTo w)
  split
  · split
    · exact postsUpTo_trans counted (placeRecord_postsUpTo _ w)
    · exact postsUpTo_trans counted (postsUpTo_still (k := 2) rfl)
  · split
    · exact postsUpTo_trans dropped (postsUpTo_still (k := 1) rfl)
    · exact postsUpTo_trans dropped (postsUpTo_still (k := 1) rfl)

/-- The end of a call gives at most the posts of the records it places. -/
theorem endCall_postsUpTo {c : CallInfo} (o : CallOutcome) (x : Station) (h : s.call.cur = some c) :
    postsUpTo 4 s (endCall o x s) := by
  rw [endCall_released o x h]
  have released : postsUpTo 0 s (callReleased c s) := postsUpTo_same rfl
  split
  · have handed := postsUpTo_trans (k := 4) released (handRecord_postsUpTo
      (callRecord o c s.meter.units s.meter.charge (credit s.meter.purse)) (callReleased c s))
    generalize handRecord (callRecord o c s.meter.units s.meter.charge (credit s.meter.purse))
      (callReleased c s) = r at handed
    exact postsUpTo_trans handed (postsUpTo_same (raise_gate _ _ _ _))
  · exact postsUpTo_still rfl

/-- The order is answered behind the posts of a call it has ended. -/
theorem answered_postsUpTo (hp : s.gate.profile ≠ none) (hs : roomy s) (h : postsUpTo 4 s u)
    (hu : u.gate.profile = s.gate.profile) (k : Nat) (n : Fin 16) :
    answered n 1 0 s (finish k (answer n .done 0 u)) := by
  obtain ⟨p, hprof⟩ := Option.ne_none_iff_exists'.mp hp
  obtain ⟨hw, hq⟩ := hs
  obtain ⟨uw, uq⟩ := h.2 hw (by omega)
  exact (finish_answer_behind hprof h.1 (hu.trans hprof) uw (by omega) k n .done 0).2

/-! ### The settlement at the end of the step -/

theorem beginSettlement_rest (s : State) : unposted (beginSettlement s) = unposted { s with
    meter := (beginSettlement s).meter, coin := (beginSettlement s).coin } := by
  unfold beginSettlement
  split <;> rfl
theorem beginSettlement_steady (s : State) : steady (beginSettlement s) = steady s := by
  unfold beginSettlement
  split <;> rfl
theorem beginSettlement_opened (h : s.meter.purse.state = .opened) :
    beginSettlement s = setPurse { s.meter.purse with state := .settling } s := if_pos h
theorem beginSettlement_closed (s : State) : (beginSettlement s).meter.purse.state ≠ .opened := by
  unfold beginSettlement
  split
  · exact fun h => nomatch h
  · next h => exact h
theorem beginSettlement_metering (s : State) :
    metering (beginSettlement s).meter = metering s.meter := by
  unfold beginSettlement
  split <;> rfl
theorem beginSettlement_escrow (s : State) : (beginSettlement s).coin.escrow = s.coin.escrow := by
  unfold beginSettlement
  split <;> rfl

/-- A purse settling beside a clear lane with a coin at its head starts that coin on its way back
(R78, R129). -/
theorem judgeMoney_startsBack {e : EscrowEntry} {l : List EscrowEntry} (hs : s.coin.started = true)
    (hl : s.coin.lane = .clear) (he : s.coin.escrow = e :: l) (hc : e.cls ≠ 0)
    (hp : s.meter.purse.state = .settling) (hk : s.meter.purse.c ≤ s.meter.purse.k) :
    judgeMoney s = startAction .toReturn .toReturn (setDemand .idle (setDemand .giveBack s)) := by
  have hook : settleOnHook s = s := by simp [settleOnHook, beginSettlement, hp]
  have want : settleDemand s = .giveBack := if_neg fun h => absurd h.1 (Nat.not_lt.mpr hk)
  have cause : holdCauseOf .giveBack s = .nothing := by simp [holdCauseOf, hl]
  have demand : judgeDemand s = setDemand .giveBack s := by
    unfold judgeDemand
    simp only [hp, requestInFlight, hl, inFlight, he, want, cause]
    simp [setHold, setDemand, hp]
  rw [judgeMoney, if_pos hs, hook, demand]
  simp [startLane, setDemand, hl, he, hc]

/-- A purse settling beside an empty clear lane closes (R131). -/
theorem judgeMoney_closes (hs : s.coin.started = true) (hl : s.coin.lane = .clear)
    (he : s.coin.escrow = []) (hp : s.meter.purse.state = .settling) : judgeMoney s = closePurse s := by
  have hook : settleOnHook s = s := by simp [settleOnHook, beginSettlement, hp]
  have demand : judgeDemand s = closePurse s := by
    unfold judgeDemand
    simp only [hp, requestInFlight, hl, inFlight, he]
    rfl
  rw [judgeMoney, if_pos hs, hook, demand]
  have escrow : (closePurse s).coin.escrow = [] := by
    unfold closePurse setDemand setPurse touchLive markLate
    dsimp only
    rw [coin_of_unposted (raise_unposted _ _ _ _)]
    exact he
  unfold startLane
  rw [escrow]
  split <;> rfl

theorem closePurse_rest (s : State) : (closePurse s).meter.purse = ⟨.absent, 0, 0, 0, 0, 0, .nothing⟩
    ∧ (closePurse s).coin.purseFig = .absent ∧ (closePurse s).coin.lane = s.coin.lane
    ∧ (closePurse s).tally.forfeited
      = min 9999999 (s.tally.forfeited + (s.meter.purse.k - s.meter.purse.c)) := by
  unfold closePurse setDemand setPurse touchLive markLate
  dsimp only
  refine ⟨rfl, rfl, ?_, ?_⟩
  · rw [coin_of_unposted (raise_unposted _ _ _ _)]
    rfl
  · rw [tally_of_unposted (raise_unposted _ _ _ _)]
    rfl

/-- The forfeited total at the end of a step is what the judgment of the purse leaves. -/
theorem finish_forfeits (n : Nat) (hr : s.sys.part = .running) :
    (finish n s).tally.forfeited = (judgeMoney s).tally.forfeited := by
  have off : (settle s).tally = (atReport s).tally :=
    congrArg (fun x => x.2.2.1) (settle_offLine hr)
  rw [finish_tally, off, atReport, judgeMode_tally, judgeActivationClock_forfeited]

/-- A step of which only the money is judged: its coin, its purse and the forfeited total. -/
theorem finish_settled (n : Nat) (hr : s.sys.part = .running) :
    (∃ r, (finish n s).coin = { (judgeMoney s).coin with reasons := r })
      ∧ (finish n s).meter = (judgeMoney s).meter
      ∧ (finish n s).tally.forfeited = (judgeMoney s).tally.forfeited := by
  obtain ⟨r, h⟩ := finish_coin n s
  refine ⟨⟨r, ?_⟩, by rw [finish_meter, settle_meter hr], finish_forfeits n hr⟩
  rw [h, settle_coin hr]

/-! ### A call ended by an order -/

/-- `t` is `s` but for the Record Unit, the counts, the money and the posts. -/
def recordsBut (s t : State) : Prop :=
  unposted t = unposted { s with ring := t.ring, tally := t.tally, meter := t.meter, coin := t.coin }

theorem recordsBut_settlement (h : recordsOnly s u)
    (h' : unposted v = unposted { u with meter := v.meter, coin := v.coin }) : recordsBut s v := by
  have ring := ring_of_unposted h'
  have tally := tally_of_unposted h'
  have := congrArg (fun x : State => unposted { x with meter := v.meter, coin := v.coin }) h
  rw [recordsBut, ring, tally, h']
  exact this

/-- What the end of a call leaves at the end of the step of the order that ended it. -/
structure OrderEnded (x : Station) (s w t : State) : Prop where
  over_ : callOver x s t
  closed : w.meter.purse.state ≠ .opened → t.meter.purse.state ≠ .opened
  opened : s.call.hook = true → w.meter.purse.state = .opened → t.meter.purse = w.meter.purse
  escrow : t.coin.escrow = s.coin.escrow
  mem : t.mem = s.mem

/-- An order that has ended a call is answered. -/
theorem callOver_answer {c : CallInfo} {x : Station} {w : State} (k : Nat) (n : Fin 16) (o : OrderOutcome)
    (detail : Nat) (hcur : s.call.cur = some c) (hr : s.sys.part = .running) (hn : noReport s)
    (hx : x = .idle ∨ x = .ready)
    (h : recordsBut { callReleased c s with call := endedCall x s.call } w)
    (hmeter : metering w.meter = metering (takeEnd c s).meter)
    (hpurse : c.settleDue = true → w.meter.purse.state ≠ .opened)
    (hseq : w.ring.seq = if c.seized then (s.ring.seq + 1) % 65536 else s.ring.seq)
    (hesc : w.coin.escrow = s.coin.escrow) :
    OrderEnded x s w (finish k (answer n o detail w)) := by
  have un := answer_unposted n o detail w
  have ucall := (call_of_unposted un).trans ((call_of_unposted h).trans rfl)
  have uline := (line_of_unposted un).trans ((line_of_unposted h).trans rfl)
  have usys := (sys_of_unposted un).trans ((sys_of_unposted h).trans rfl)
  have urep := (report_of_unposted un).trans ((report_of_unposted h).trans rfl)
  have umem := (mem_of_unposted un).trans ((mem_of_unposted h).trans rfl)
  have uring := (ring_of_unposted un).trans rfl
  have umeter := (meter_of_unposted un).trans rfl
  have ucoin := (coin_of_unposted un).trans rfl
  generalize answer n o detail w = u at *
  have run : u.sys.part = .running := (congrArg Sys.part usys).trans hr
  have quiet : noReport u := by rw [noReport, urep]; exact hn
  have fsteady := finish_steady k u
  have ended := callOver_finish k hcur run quiet hx ucall uline (by rw [umeter]; exact hmeter)
    (fun hd => by rw [umeter]; exact hpurse hd) (by rw [uring]; exact hseq)
  have fmeter : (finish k u).meter = (judgeMoney u).meter := by rw [finish_meter, settle_meter run]
  generalize finish k u = t at *
  refine ⟨ended, fun hc => ?_, fun hh ho => ?_, ?_, ?_⟩
  · rw [fmeter]
    exact (judgeMoney_meter u).2 (by rw [umeter]; exact hc)
  · rw [fmeter, judgeMoney_open (by rw [umeter]; exact ho) (by rw [ucall]; exact hh), umeter]
    rfl
  · rw [escrow_of_steady fsteady, ucoin]
    exact hesc
  · rw [mem_of_steady fsteady, umem]
    rfl

/-- Without an open purse RETURN COINS changes nothing (R132). -/
theorem leadsWith_returnUnchanged {n : Fin 16} {d : List Byte} (h : orderAt 3 n d s)
    (hp : s.gate.profile ≠ none) (hr : roomy s)
    (hx : s.call.station = .ready ∨ s.call.station = .dialling ∨ s.call.station = .creditWait
      ∨ s.call.station = .ringback) (ho : s.meter.purse.state ≠ .opened) :
    leadsWith .returnCoins s (answering s) (answered n 2 0 s) :=
  leadsWith_owner rfl h (by obtain h | h | h | h := hx <;> simp [firstUnmet, returnConds, h])
    (if_pos ho) fun k => finish_answer rfl hp hr k n .unchanged 0

/-- In READY RETURN COINS begins the settlement, whose first judgment is made at the step's end. -/
theorem leadsWith_returnSettles {n : Fin 16} {d : List Byte} {P : State → Prop} (h : orderAt 3 n d s)
    (hp : s.gate.profile ≠ none) (hr : roomy s) (hx : s.call.station = .ready)
    (ho : s.meter.purse.state = .opened)
    (hP : ∀ u t : State, u.meter = (beginSettlement s).meter → u.coin = (beginSettlement s).coin →
      u.tally = s.tally → u.gate.profile = s.gate.profile →
      (∃ r, t.coin = { (judgeMoney u).coin with reasons := r }) → t.meter = (judgeMoney u).meter →
      t.tally.forfeited = (judgeMoney u).tally.forfeited → answered n 1 0 s t → P t) :
    leadsWith .returnCoins s (answering s) P := by
  have body : returnOrder n d s = answer n .done 0 (beginSettlement s) := by
    unfold returnOrder
    rw [if_neg (by simp [ho]), if_pos hx]
  have gate : (beginSettlement s).gate = s.gate := by
    unfold beginSettlement
    split <;> rfl
  have tally : (beginSettlement s).tally = s.tally := by
    unfold beginSettlement
    split <;> rfl
  have sys : (beginSettlement s).sys = s.sys := by
    unfold beginSettlement
    split <;> rfl
  have hs := congrArg answering (beginSettlement_steady s)
  refine leadsWith_owner rfl h (by simp [firstUnmet, returnConds, hx]) body fun k => ?_
  obtain ⟨hst, ha⟩ := finish_answer gate hp hr k n .done 0
  have un := answer_unposted n .done 0 (beginSettlement s)
  have umeter := meter_of_unposted un
  have ucoin := coin_of_unposted un
  have utally := tally_of_unposted un
  have uprof := profile_of_unposted un
  have usys := sys_of_unposted un
  generalize answer n .done 0 (beginSettlement s) = u at *
  obtain ⟨fcoin, fmeter, fforf⟩ := finish_settled (s := u) k ((congrArg Sys.part (usys.trans sys)).trans h.1)
  exact ⟨hst.trans hs, hP u _ umeter ucoin (utally.trans tally)
    (uprof.trans (congrArg Gate.profile gate)) fcoin fmeter fforf ha⟩

end

/-- Settles O30. -/
theorem returnCoinsAndNextCallEndTheAttempt : Obligations.ReturnCoinsAndNextCallEndTheAttempt := by
  refine ⟨fun s n d h hp hr hn => ⟨fun hx ho => leadsWith_returnUnchanged h hp hr hx ho,
    fun hx ho hs hl => ⟨fun e l he hc hk => ?_, fun he => ?_⟩, fun hx ho hcur => ?_⟩,
    fun s n d h hp hr hn hcur hx => ?_⟩
  · refine leadsWith_returnSettles h hp hr hx ho
      fun u t umeter ucoin _ uprof ⟨r, fcoin⟩ fmeter _ ha => ?_
    rw [beginSettlement_opened ho] at umeter ucoin
    have back := judgeMoney_startsBack (s := u) (e := e) (l := l) (by rw [ucoin]; exact hs)
      (by rw [ucoin]; exact hl) (by rw [ucoin]; exact he) hc (by rw [umeter]; rfl)
      (by rw [umeter]; exact hk)
    rw [back] at fcoin fmeter
    have drop : param (·.dropMs) u = param (·.dropMs) s := by unfold param; rw [uprof]
    refine ⟨?_, ?_, ?_, ?_, ?_, ha⟩
    · rw [fmeter]
      exact congrArg Meter.purse umeter
    · rw [fcoin]; rfl
    · rw [fcoin]; rfl
    · rw [fcoin, ← drop]; rfl
    · rw [fcoin]
      exact congrArg Coin.purseFig ucoin
  · refine leadsWith_returnSettles h hp hr hx ho
      fun u t umeter ucoin utally _ ⟨r, fcoin⟩ fmeter fforf ha => ?_
    rw [beginSettlement_opened ho] at umeter ucoin
    have closes := judgeMoney_closes (s := u) (by rw [ucoin]; exact hs)
      (by rw [ucoin]; exact hl) (by rw [ucoin]; exact he) (by rw [umeter]; rfl)
    rw [closes] at fcoin fmeter fforf
    obtain ⟨cp, cf, cl, ct⟩ := closePurse_rest u
    refine ⟨by rw [fmeter, cp], by rw [fcoin]; exact cf, ?_, ?_, ha⟩
    · rw [fcoin]
      exact cl.trans ((congrArg Coin.lane ucoin).trans hl)
    · rw [fforf, ct, utally, umeter]
      rfl
  · have body : returnOrder n d s = answer n .done 0 (beginSettlement (endCall .abandoned .ready s)) := by
      unfold returnOrder
      rw [if_neg (by simp [ho]), if_neg (by obtain h | h | h := hx <;> simp [h])]
    have unmet : firstUnmet (returnConds s) = none := by
      obtain h | h | h := hx <;> simp [firstUnmet, returnConds, h]
    obtain ⟨c, hcur⟩ := Option.ne_none_iff_exists'.mp hcur
    have posts := endCall_postsUpTo .abandoned .ready hcur
    obtain ⟨only, seq, -⟩ := endCall_rest .abandoned .ready hcur
    generalize endCall .abandoned .ready s = v at *
    have settled := beginSettlement_rest v
    have closed := beginSettlement_closed v
    have vmeter : v.meter = (takeEnd c s).meter := (meter_of_unposted only).trans rfl
    have vcoin : v.coin = (takeEnd c s).coin := (coin_of_unposted only).trans rfl
    have begun := recordsBut_settlement only settled
    have metered := (beginSettlement_metering v).trans (congrArg metering vmeter)
    have held := (beginSettlement_escrow v).trans
      ((congrArg Coin.escrow vcoin).trans (takeEnd_metering c s).2.2.2.2.1)
    have ring := (congrArg CallRing.seq (ring_of_unposted settled)).trans seq
    have sgate : (beginSettlement v).gate = v.gate := by
      unfold beginSettlement
      split <;> rfl
    have prof := (congrArg Gate.profile sgate).trans ((profile_of_unposted only).trans rfl)
    generalize beginSettlement v = w at *
    have ended := callOver_answer (waiting (answer n .done 0 w)) n .done 0 hcur h.1 hn (.inr rfl) begun
      metered (fun _ => closed) ring held
    exact ⟨_, by rw [← body, ← carryOut_owner h unmet]; rfl, ended.over_,
      answered_postsUpTo hp hr (postsUpTo_trans posts (postsUpTo_same sgate)) prof _ n,
      ended.closed closed, ended.escrow, ended.mem⟩
  · have body : nextOrder n d s = answer n .done 0 (endCall .nextCall .ready s) := rfl
    have unmet : firstUnmet (nextConds s) = none := by
      obtain h | h | h | h := hx <;> simp [firstUnmet, nextConds, h]
    obtain ⟨c, hcur⟩ := Option.ne_none_iff_exists'.mp hcur
    have posts := endCall_postsUpTo .nextCall .ready hcur
    obtain ⟨only, seq, -⟩ := endCall_rest .nextCall .ready hcur
    generalize endCall .nextCall .ready s = v at *
    have vmeter : v.meter = (takeEnd c s).meter := (meter_of_unposted only).trans rfl
    have vcoin : v.coin = (takeEnd c s).coin := (coin_of_unposted only).trans rfl
    have held := (congrArg Coin.escrow vcoin).trans (takeEnd_metering c s).2.2.2.2.1
    have prof := (profile_of_unposted only).trans rfl
    have ended := callOver_answer (waiting (answer n .done 0 v)) n .done 0 hcur h.1 hn (.inr rfl)
      (recordsBut_settlement only rfl) (congrArg metering vmeter)
      (fun hd => by rw [vmeter]; exact takeEnd_closed hd) seq held
    refine ⟨_, by rw [← body, ← carryOut_owner h unmet]; rfl, ended.over_,
      answered_postsUpTo hp hr posts prof _ n, fun hh ho hd => ?_, ended.escrow, ended.mem⟩
    have kept : v.meter.purse = s.meter.purse := by
      rw [hcur] at hd
      rw [vmeter, takeEnd_purse c s hd]
    rw [ended.opened hh (by rw [kept]; exact ho), kept]

end Sys2Proof.Proofs

/-! A number decided (R65, R97 to R100). -/
namespace Sys2Proof.Proofs
open Sys2Proof.Machine Sys2Proof.Safety Sys2Proof.Laws

section
variable {s t u v : State} {p : Profile}

/-! ### The decision taken (R98, R99) -/

/-- A state with the call in progress set. -/
def withCur (c : CallInfo) (s : State) : State := { s with call := { s.call with cur := some c } }

/-- A call with its decision recorded (R98). -/
def decidedTo (kind : CallKind) (zone : Option Nat) (maxLen : Nat) (c : CallInfo) : CallInfo :=
  { c with kind := kind, zone := zone, decided := true, decisive := c.number.length, maxLen := maxLen }

theorem updCall_cur {c : CallInfo} (f : CallInfo → CallInfo) (h : v.call.cur = some c) :
    updCall f v = touchLive (withCur (f c) v) := by
  unfold updCall withCur
  rw [h]
  rfl

theorem touchLive_unposted (v : State) : unposted (touchLive v) = unposted v := rfl

/-- A number just decided is cut at its zone's maximum length only by being complete (R97). -/
theorem limitNumber_decided {c : CallInfo} (h : v.call.cur = some c) (hd : c.decided = true)
    (hw : c.decisive = c.number.length) : unposted (limitNumber v) = unposted (withCur { c with
      complete := c.complete || decide (c.maxLen ≤ c.number.length) } v) := by
  have limits : (c.decided && decide (c.maxLen ≤ c.number.length))
      = decide (c.maxLen ≤ c.number.length) := by rw [hd, Bool.true_and]
  unfold limitNumber
  rw [h]
  dsimp only
  rw [limits]
  by_cases hm : c.maxLen ≤ c.number.length
  · have keep : max c.maxLen c.decisive = c.number.length := by omega
    have cut : updCall (fun c' => { c' with
        number := c'.number.take (max c.maxLen c.decisive), complete := true }) v
        = touchLive (withCur { c with complete := true } v) := by
      rw [updCall_cur _ h, keep, List.take_length]
    have all : ∀ q : List Nat, q.take (q.length - (c.number.length - max c.maxLen c.decisive)) = q := by
      intro q
      rw [keep, Nat.sub_self, Nat.sub_zero, List.take_length]
    rw [if_pos (by simpa using hm), cut, all, decide_eq_true hm, Bool.or_true]
    rfl
  · rw [if_neg (by simpa using hm), decide_eq_false hm, Bool.or_false]
    rw [withCur, ← h]

theorem recordDecision_cur {c : CallInfo} (k : CallKind) (zone : Option Nat) (m : Nat)
    (h : v.call.cur = some c) : recordDecision k zone m v = touchLive (withCur (decidedTo k zone m c) v) :=
  updCall_cur _ h

/-- A decision that refuses the call ends it from a state with the decision recorded (R98). -/
theorem refuseCall_ends {c : CallInfo} (why : RefuseReason) (k : CallKind) (zone : Option Nat) (m : Nat)
    (h : v.call.cur = some c) :
    ∃ w, unposted w = unposted (withCur (decidedTo k zone m c) v) ∧ w.gate = v.gate
      ∧ refuseCall why (recordDecision k zone m v) = endCall .refused .ready w := by
  have rec_ := recordDecision_cur k zone m h
  refine ⟨raiseRefused why zone c.number.length (recordDecision k zone m v), ?_, ?_, ?_⟩
  · rw [raiseRefused, raise_unposted, rec_]
    rfl
  · rw [raiseRefused, raise_gate, rec_]
    rfl
  · rw [rec_]
    rfl

/-- With no active tariff the call is refused (R98). -/
theorem takeDecision_noTariff {c : CallInfo} (h : v.call.cur = some c) :
    ∃ k zone m w, unposted w = unposted (withCur (decidedTo k zone m c) v) ∧ w.gate = v.gate
      ∧ takeDecision .noTariff v = endCall .refused .ready w :=
  ⟨_, _, _, refuseCall_ends .barred .paid none 0 h⟩

/-- A zone that is barred, not allowed by the mode, or met by a purse being settled refuses the call
(R98). -/
theorem takeDecision_refused {c : CallInfo} {n : Nat} {z : Zone} (h : v.call.cur = some c)
    (hz : zoneAt v n = some z)
    (hr : z.kind = .barred ∨ v.meter.purse.state = .settling ∨ v.meter.purse.state = .held
      ∨ v.call.mode = .closed ∨ (v.call.mode = .freeOnly ∧ z.kind ≠ .free)) :
    ∃ k zone m w, unposted w = unposted (withCur (decidedTo k zone m c) v) ∧ w.gate = v.gate
      ∧ takeDecision (.zone n) v = endCall .refused .ready w := by
  have purse : ∀ k, purseSettling (recordDecision k (some n) z.maxLen v) = purseSettling v := by
    intro k
    rw [recordDecision_cur _ _ _ h]
    rfl
  have mode : ∀ k, (recordDecision k (some n) z.maxLen v).call.mode = v.call.mode := by
    intro k
    rw [recordDecision_cur _ _ _ h]
    rfl
  unfold takeDecision
  dsimp only
  rw [hz]
  dsimp only
  by_cases hb : z.kind = .barred
  · rw [if_pos hb]
    exact ⟨_, _, _, refuseCall_ends _ _ _ _ h⟩
  · rw [if_neg hb]
    by_cases hs : purseSettling v = true
    · rw [purse, if_pos hs]
      exact ⟨_, _, _, refuseCall_ends _ _ _ _ h⟩
    · rw [purse, if_neg hs, mode]
      have closed : modeAllows v.call.mode z.kind = false := by
        obtain hr | hr | hr | hr | ⟨hr, hf⟩ := hr
        · exact absurd hr hb
        · exact absurd (by simp [purseSettling, hr]) hs
        · exact absurd (by simp [purseSettling, hr]) hs
        · rw [hr]; rfl
        · rw [hr]
          cases hk : z.kind with
          | free => exact absurd hk hf
          | _ => rfl
      rw [if_pos (by simp [closed])]
      exact ⟨_, _, _, refuseCall_ends _ _ _ _ h⟩

/-- What a decision that neither bars nor refuses comes to (R98). -/
theorem takeDecision_allowed {c : CallInfo} {n : Nat} {z : Zone} (h : v.call.cur = some c)
    (hz : zoneAt v n = some z) (hb : z.kind ≠ .barred) (hs : v.meter.purse.state ≠ .settling)
    (hh : v.meter.purse.state ≠ .held) (hm : modeAllows v.call.mode z.kind = true) :
    takeDecision (.zone n) v = if z.kind = .free then
        limitNumber (updCall (fun c => { c with gatePassed := true })
          (recordDecision .free (some n) z.maxLen v))
      else limitNumber (creditGate z (recordDecision .paid (some n) z.maxLen v)) := by
  have purse : ∀ k, purseSettling (recordDecision k (some n) z.maxLen v) = false := by
    intro k
    rw [recordDecision_cur _ _ _ h]
    simp [purseSettling, withCur, touchLive, hs, hh]
  have mode : ∀ k, (recordDecision k (some n) z.maxLen v).call.mode = v.call.mode := by
    intro k
    rw [recordDecision_cur _ _ _ h]
    rfl
  unfold takeDecision
  dsimp only
  rw [hz]
  dsimp only
  rw [if_neg hb, purse, mode, hm, if_neg (by simp), if_neg (by simp)]
  split <;> rfl

theorem withCur_unposted {w : State} {c c' : CallInfo} (h : unposted w = unposted (withCur c v)) :
    unposted (withCur c' w) = unposted (withCur c' v) := by
  have := congrArg (fun x : State => unposted (withCur c' x)) h
  exact this

theorem limitNumber_withCur {w : State} {c : CallInfo} (h : unposted w = unposted (withCur c v))
    (hd : c.decided = true) (hw : c.decisive = c.number.length) :
    unposted (limitNumber w) = unposted (withCur { c with
      complete := c.complete || decide (c.maxLen ≤ c.number.length) } v) := by
  have call := call_of_unposted h
  have cur : w.call.cur = some c := by rw [call]; rfl
  exact (limitNumber_decided cur hd hw).trans (withCur_unposted h)

theorem steady_withCur (c : CallInfo) (v : State) : steady (withCur c v) = steady v := rfl

/-- A purse with the required credit passes the gate (R99). -/
theorem creditGate_passes {c : CallInfo} {z : Zone} (h : v.call.cur = some c)
    (hc : requiredCredit z v ≤ credit v.meter.purse) : creditGate z v
      = touchLive (withCur { c with required := requiredCredit z v, gatePassed := true } v) := by
  unfold creditGate
  generalize requiredCredit z v = r at hc
  dsimp only
  rw [if_pos hc, updCall_cur _ h]
  rfl

/-- A state with the call in progress in CREDIT WAIT. -/
def waitingCredit (c : CallInfo) (t : Timer) (s : State) : State :=
  { s with call := { s.call with station := .creditWait, creditTimer := t, cur := some c } }

theorem steady_waitingCredit (c : CallInfo) (t : Timer) (v : State) :
    steady (waitingCredit c t v) = steady v := rfl

/-- A purse short of the required credit leaves the call in CREDIT WAIT (R99). -/
theorem creditGate_needs {c : CallInfo} {z : Zone} (h : v.call.cur = some c)
    (hc : credit v.meter.purse < requiredCredit z v) : unposted (creditGate z v)
      = unposted (waitingCredit { c with required := requiredCredit z v }
          (seconds (param (·.creditHoldS) v)) v) := by
  unfold creditGate
  generalize requiredCredit z v = r at hc
  dsimp only
  rw [if_neg (Nat.not_le.mpr hc), raise_unposted, updCall_cur _ h]
  rfl

/-- A free zone, or a paid one whose required credit the purse has, passes the gate (R98, R99). -/
theorem takeDecision_passes {c : CallInfo} {n : Nat} {z : Zone} (h : v.call.cur = some c)
    (hz : zoneAt v n = some z) (hs : v.meter.purse.state ≠ .settling)
    (hh : v.meter.purse.state ≠ .held)
    (hp : z.kind = .free ∧ v.call.mode ≠ .closed
      ∨ (z.kind = .timed ∨ z.kind = .pulsed) ∧ v.call.mode = .full
        ∧ requiredCredit z v ≤ credit v.meter.purse) :
    ∃ r, unposted (takeDecision (.zone n) v) = unposted (withCur
      { decidedTo (if z.kind = .free then .free else .paid) (some n) z.maxLen c with
        gatePassed := true, required := r,
        complete := c.complete || decide (z.maxLen ≤ c.number.length) } v) := by
  obtain ⟨hf, hm⟩ | ⟨hk, hm, hc⟩ := hp
  · have allows : modeAllows v.call.mode z.kind = true := by
      rw [hf]
      cases hx : v.call.mode with
      | closed => exact absurd hx hm
      | _ => rfl
    rw [takeDecision_allowed h hz (by simp [hf]) hs hh allows, if_pos hf, if_pos hf,
      recordDecision_cur _ _ _ h]
    refine ⟨c.required, ?_⟩
    rw [updCall_cur (c := decidedTo .free (some n) z.maxLen c) _ (by rfl)]
    exact limitNumber_withCur
      (c := { decidedTo .free (some n) z.maxLen c with gatePassed := true }) rfl rfl rfl
  · have notFree : z.kind ≠ .free := by obtain h | h := hk <;> simp [h]
    have notBarred : z.kind ≠ .barred := by obtain h | h := hk <;> simp [h]
    have allows : modeAllows v.call.mode z.kind = true := by
      rw [hm]; obtain h | h := hk <;> rw [h] <;> rfl
    rw [takeDecision_allowed h hz notBarred hs hh allows, if_neg notFree, if_neg notFree,
      recordDecision_cur _ _ _ h]
    refine ⟨requiredCredit z v, ?_⟩
    have gate := creditGate_passes (v := touchLive (withCur (decidedTo .paid (some n) z.maxLen c) v))
      (z := z) rfl hc
    rw [gate]
    exact limitNumber_withCur (c := { decidedTo .paid (some n) z.maxLen c with
      gatePassed := true, required := requiredCredit z v }) rfl rfl rfl

/-- A paid zone beyond the credit waits for credit (R99). -/
theorem takeDecision_needs {c : CallInfo} {n : Nat} {z : Zone} (h : v.call.cur = some c)
    (hz : zoneAt v n = some z) (hs : v.meter.purse.state ≠ .settling)
    (hh : v.meter.purse.state ≠ .held) (hk : z.kind = .timed ∨ z.kind = .pulsed)
    (hm : v.call.mode = .full) (hc : credit v.meter.purse < requiredCredit z v) :
    unposted (takeDecision (.zone n) v) = unposted (waitingCredit
      { decidedTo .paid (some n) z.maxLen c with
        required := requiredCredit z v,
        complete := c.complete || decide (z.maxLen ≤ c.number.length) }
      (seconds (param (·.creditHoldS) v)) v) := by
  have notFree : z.kind ≠ .free := by obtain h | h := hk <;> simp [h]
  have notBarred : z.kind ≠ .barred := by obtain h | h := hk <;> simp [h]
  have allows : modeAllows v.call.mode z.kind = true := by
    rw [hm]; obtain h | h := hk <;> rw [h] <;> rfl
  rw [takeDecision_allowed h hz notBarred hs hh allows, if_neg notFree, recordDecision_cur _ _ _ h]
  have gate := creditGate_needs (v := touchLive (withCur (decidedTo .paid (some n) z.maxLen c) v))
    (z := z) rfl hc
  generalize creditGate z (touchLive (withCur (decidedTo .paid (some n) z.maxLen c) v)) = g at gate
  have cur := (call_of_unposted gate).trans rfl
  have limited := limitNumber_decided (congrArg CallCtl.cur cur) rfl rfl
  have recorded := congrArg (fun x : State => unposted (withCur { decidedTo .paid (some n) z.maxLen c with
    required := requiredCredit z v, complete := c.complete || decide (z.maxLen ≤ c.number.length) } x)) gate
  exact limited.trans recorded

/-- A state of which only the call in progress has changed since `s`. -/
theorem callOnly_withCur {c : CallInfo} (hv : unposted v = unposted { s with call := v.call })
    (h : unposted u = unposted (withCur c v)) : unposted u = unposted { s with call := u.call } := by
  have call := call_of_unposted h
  have := congrArg (fun x : State => unposted (withCur c x)) hv
  rw [call, h]
  exact this

theorem callOnly_waiting {c : CallInfo} {r : Timer} (hv : unposted v = unposted { s with call := v.call })
    (h : unposted u = unposted (waitingCredit c r v)) :
    unposted u = unposted { s with call := u.call } := by
  have call := call_of_unposted h
  have := congrArg (fun x : State => unposted (waitingCredit c r x)) hv
  rw [call, h]
  exact this

/-! ### A refused call at the end of its step -/

/-- A call's end seen from a state whose call in progress is one that may have been decided since. -/
theorem callOver_like {x : Station} {c c' : CallInfo} (h : callOver x u t) (hu : u.call.cur = some c')
    (hs : s.call.cur = some c) (hd : c'.settleDue = c.settleDue) (hz : c'.seized = c.seized)
    (hline : s.line.state ≠ .released → s.line.state ≠ .clearing →
      u.line.state ≠ .released ∧ u.line.state ≠ .clearing)
    (hprof : u.gate.profile = s.gate.profile)
    (hseq : u.ring.seq = s.ring.seq) : callOver x s t := by
  have guard : param (·.guardS) u = param (·.guardS) s := by unfold param; rw [hprof]
  unfold callOver at h ⊢
  rw [guard, hseq] at h
  obtain ⟨h1, h2, h3, h4, h5, h6, h7, h8, h9, h10, h11, h12, h13, h14⟩ := h
  refine ⟨h1, h2, h3, h4, h5, h6, h7, h8, h9, h10, h11, fun hdue => h12 ?_,
    fun h1 h2 => h13 (hline h1 h2).1 (hline h1 h2).2, fun c1 hc1 => ?_⟩
  · rw [hs] at hdue
    rw [hu]
    exact hd.trans hdue
  · have same : c1 = c := by rw [hs] at hc1; exact (Option.some.inj hc1).symm
    rw [same, ← hz]
    exact h14 c' hu

/-- A decision that ends the call in progress, at the end of its step. -/
theorem callOver_refused {c : CallInfo} {k : CallKind} {zone : Option Nat} {m n : Nat} {w : State}
    (hr : s.sys.part = .running) (hn : noReport s) (hcur : s.call.cur = some c) (c' : CallInfo)
    (hd : c'.settleDue = c.settleDue) (hz : c'.seized = c.seized)
    (hv : unposted v = unposted { s with call := v.call })
    (hw : unposted w = unposted (withCur (decidedTo k zone m c') v)) :
    callOver .ready s (finish n (endCall .refused .ready w)) := by
  have call := (call_of_unposted hw).trans rfl
  have wcur : w.call.cur = some (decidedTo k zone m c') := congrArg CallCtl.cur call
  have sys : w.sys = s.sys := by
    have before : v.sys = s.sys := (sys_of_unposted hv).trans rfl
    rw [sys_of_unposted hw]
    exact before
  have report : w.report = s.report := by
    have before : v.report = s.report := (report_of_unposted hv).trans rfl
    rw [report_of_unposted hw]
    exact before
  have line : w.line = s.line := by
    have before : v.line = s.line := (line_of_unposted hv).trans rfl
    rw [line_of_unposted hw]
    exact before
  have prof : w.gate.profile = s.gate.profile := by
    have before : v.gate.profile = s.gate.profile := (profile_of_unposted hv).trans rfl
    rw [profile_of_unposted hw]
    exact before
  have ring : w.ring = s.ring := by
    have before : v.ring = s.ring := (ring_of_unposted hv).trans rfl
    rw [ring_of_unposted hw]
    exact before
  have ended := callEnded_endCall (s := w) (x := .ready) n .refused (by rw [wcur]; simp)
    ((congrArg Sys.part sys).trans hr) (by rw [noReport, report]; exact hn) (.inr rfl)
  exact callOver_like ended.ended wcur hcur hd hz (fun h1 h2 => by rw [line]; exact ⟨h1, h2⟩) prof
    (congrArg CallRing.seq ring)

/-! ### The purse's credit through the money's judgments -/

/-- The money's judgments leave a purse its figures or close it. -/
theorem judgeMoney_figures (s : State) : (judgeMoney s).meter.purse = Purse.none
    ∨ ((judgeMoney s).meter.purse.d = s.meter.purse.d ∧ (judgeMoney s).meter.purse.c = s.meter.purse.c) := by
  have hook : (settleOnHook s).meter.purse.d = s.meter.purse.d
      ∧ (settleOnHook s).meter.purse.c = s.meter.purse.c := by
    unfold settleOnHook beginSettlement
    split
    · split <;> exact ⟨rfl, rfl⟩
    · exact ⟨rfl, rfl⟩
  have held : ∀ (c : HoldCause) (v : State), (setHold c v).meter.purse.d = v.meter.purse.d
      ∧ (setHold c v).meter.purse.c = v.meter.purse.c := by
    intro c v
    unfold setHold
    dsimp only
    split
    · split <;> exact ⟨rfl, rfl⟩
    · split
      · split <;> exact ⟨rfl, rfl⟩
      · rw [(raise_beside _ _ _ _).2.2]
        exact ⟨rfl, rfl⟩
  have demand : ∀ v : State, (judgeDemand v).meter.purse = Purse.none
      ∨ ((judgeDemand v).meter.purse.d = v.meter.purse.d
        ∧ (judgeDemand v).meter.purse.c = v.meter.purse.c) := by
    intro v
    have settles : ∀ t : State, t = (if requestInFlight v.coin = true then v
        else if (v.coin.escrow.isEmpty && !inFlight v.coin.lane) = true then closePurse v
        else setHold (holdCauseOf (settleDemand v) v) (setDemand (settleDemand v) v)) →
        t.meter.purse = Purse.none
          ∨ (t.meter.purse.d = v.meter.purse.d ∧ t.meter.purse.c = v.meter.purse.c) := by
      rintro t rfl
      split
      · exact .inr ⟨rfl, rfl⟩
      · split
        · exact .inl (closePurse_rest v).1
        · exact .inr (held _ (setDemand (settleDemand v) v))
    unfold judgeDemand
    split
    · exact .inr ⟨rfl, rfl⟩
    · split <;> exact .inr ⟨rfl, rfl⟩
    · exact settles _ rfl
    · exact settles _ rfl
  unfold judgeMoney
  split
  · rw [(startLane_meter _).2]
    obtain h | ⟨h, h'⟩ := demand (settleOnHook s)
    · exact .inl h
    · exact .inr ⟨h.trans hook.1, h'.trans hook.2⟩
  · exact .inr ⟨rfl, rfl⟩

theorem judgeMoney_short {r : Nat} (h : credit s.meter.purse < r) :
    credit (judgeMoney s).meter.purse < r := by
  obtain h' | ⟨hd, hc⟩ := judgeMoney_figures s
  · rw [h']
    exact Nat.lt_of_le_of_lt (Nat.zero_le _) h
  · rwa [credit, hd, hc]

/-! ### RINGBACK and CREDIT WAIT at the end of a step -/

/-- The whole number sent and its gate passed, the station becomes RINGBACK (R100). -/
theorem judgeSender_ringback {c : CallInfo} (hst : v.call.station = .dialling)
    (hl : v.line.state = .sending) (hs : v.line.sender = none) (hq : v.call.dialQueue = [])
    (hc : v.call.cur = some c) (hn : c.complete = true) (hg : c.gatePassed = true)
    (hp : v.report.phase = .noCall) : judgeSender v = withoutInterDigit (enterRingback v) := by
  have ringback : judgeRingback v = enterRingback v := by
    unfold judgeRingback
    rw [hc]
    exact if_pos (by simp [numberSent, hst, hl, idleSender, hs, hq, hn, hg])
  have rung : (enterRingback v).call.station = .ringback := rfl
  have phase : (enterRingback v).report.phase = .noCall := by
    rw [← hp]
    unfold enterRingback connectOut setLine
    dsimp only
    split <;> rfl
  rw [judgeSender, judgeGate_still (by simp [hst]), offerDigit_nothing hq, ringback,
    judgeInterDigit_still (by simp [rung])]
  exact offerReport_still (by show (enterRingback v).report.phase ≠ _; simp [phase])
    (by show (enterRingback v).report.phase ≠ _; simp [phase])

/-- Short of the required credit a call stays in CREDIT WAIT (R99). -/
theorem judgeSender_short {c : CallInfo} (hst : v.call.station = .creditWait)
    (hc : v.call.cur = some c) (hs : credit v.meter.purse < c.required)
    (hp : v.report.phase = .noCall) : judgeSender v = withoutInterDigit v := by
  have gate : judgeGate v = v := by
    unfold judgeGate
    rw [hc]
    exact if_neg fun h => absurd h.2 (Nat.not_le.mpr hs)
  rw [judgeSender, gate, offerDigit_still (by simp [hst]) (by simp [hst]) (by simp [hst]),
    judgeRingback_still (by simp [hst]), judgeInterDigit_still (by simp [hst])]
  exact offerReport_still (s := withoutInterDigit v) (by show v.report.phase ≠ _; simp [hp])
    (by show v.report.phase ≠ _; simp [hp])

/-- RINGBACK at the end of a step. -/
theorem finish_ringback {c : CallInfo} (n : Nat) (hr : u.sys.part = .running) (hn : noReport u)
    (hst : u.call.station = .dialling) (hl : u.line.state = .sending) (hs : u.line.sender = none)
    (hq : u.call.dialQueue = []) (hc : u.call.cur = some c) (hf : c.complete = true)
    (hg : c.gatePassed = true) :
    (finish n u).call.station = .ringback ∧ (finish n u).line.state = .connected
      ∧ (finish n u).call.answerTimer = seconds (param (·.answerS) u)
      ∧ (finish n u).call.interDigit = none
      ∧ (finish n u).call.cur = some { c with wait := 0 } := by
  obtain ⟨v, hv⟩ := calling_finish n hr (.inl hn)
  have cur : v.call.cur = some c := by rw [hv.found_call, ← hc]
  have ringback := judgeSender_ringback (v := v) (by rw [hv.found_call, ← hst]) (by rw [hv.found_line, hl])
    (by rw [hv.found_line, hs]) (by rw [hv.found_call, ← hq]) cur hf hg (by rw [hv.found_report, hn.2])
  have answer : param (·.answerS) v = param (·.answerS) u := by unfold param; rw [hv.found_profile]
  have fcall := hv.call
  have fline := hv.line
  rw [ringback] at fcall fline
  generalize finish n u = t at fcall fline
  have rung : (enterRingback v).line.state = .connected := by
    unfold enterRingback connectOut setLine
    dsimp only
    split <;> rfl
  refine ⟨by rw [fcall]; rfl, by rw [fline]; exact rung, ?_, by rw [fcall]; rfl, ?_⟩
  · rw [fcall, ← answer]
    rfl
  · rw [fcall]
    have mapped : (withoutInterDigit (enterRingback v)).call.cur
        = v.call.cur.map (fun c => { c with wait := 0 }) := by
      unfold enterRingback connectOut setLine
      dsimp only
      split <;> rfl
    rw [mapped, cur]
    rfl

/-- CREDIT WAIT at the end of a step. -/
theorem finish_creditWait {c : CallInfo} (n : Nat) (hr : u.sys.part = .running) (hn : noReport u)
    (hst : u.call.station = .creditWait) (hc : u.call.cur = some c)
    (hs : credit u.meter.purse < c.required) :
    (finish n u).call.station = .creditWait ∧ (finish n u).call.creditTimer = u.call.creditTimer
      ∧ (finish n u).call.cur = some c := by
  obtain ⟨v, hv⟩ := calling_finish n hr (.inl hn)
  have cur : v.call.cur = some c := by rw [hv.found_call, ← hc]
  have short := judgeSender_short (v := v) (by rw [hv.found_call, ← hst]) cur
    (by rw [hv.found_meter]; exact judgeMoney_short hs) (by rw [hv.found_report, hn.2])
  have fcall := hv.call
  rw [short] at fcall
  generalize finish n u = t at fcall
  refine ⟨?_, ?_, ?_⟩
  · rw [fcall, ← hst]
    exact (congrArg CallCtl.station hv.found_call).trans rfl
  · rw [fcall]
    exact (congrArg CallCtl.creditTimer hv.found_call).trans rfl
  · rw [fcall]
    exact cur

/-! ### INTER DIGIT EXPIRY (R65, R97) -/

/-- The state in which an undecided number made complete is analysed. -/
def numberComplete (c : CallInfo) (s : State) : State :=
  touchLive (withCur { c with complete := true }
    (updCallCtl (fun c => { c with interDigit := none }) s))

theorem numberComplete_rest (c : CallInfo) (s : State) : unposted (numberComplete c s)
    = unposted { s with call := (numberComplete c s).call } := rfl

theorem steady_numberComplete (c : CallInfo) (s : State) : steady (numberComplete c s) = steady s := rfl

theorem interDigit_body {c : CallInfo} (hcur : s.call.cur = some c) (hf : c.complete = false)
    (hd : c.decided = false) :
    completeNumber (updCallCtl (fun c => { c with interDigit := none }) s)
      = takeDecision (analyseComplete (activeTables s) c.number) (numberComplete c s) := by
  have cur : (updCallCtl (fun c => { c with interDigit := none }) s).call.cur = some c := hcur
  unfold completeNumber
  rw [cur]
  dsimp only
  rw [if_neg (by simp [hf]), if_neg (by simp [hd]), updCall_cur _ cur]
  rfl

/-- The credit a zone requires, by the active tables (R99, R119, R120). -/
theorem requiredCredit_active {bank : Bank} {tab : Tables} (h : s.tariff.active = some (bank, tab))
    (z : Zone) : requiredCredit z s = z.s + unitCharge z.u
      (if z.kind = .timed then tab.mults.getD s.cal.band 100 else 100) tab.q := by
  simp only [requiredCredit, bandMult, roundingStep, h]

end

/-- Settles O50. -/
theorem interDigitExpiryDecides : Obligations.InterDigitExpiryDecides := by
  intro s p c hr hp hn hdue hst hcur hf hd
  have exec_eq : exec .interDigitExpiry s = .next (stepWith (fun s =>
      completeNumber (updCallCtl (fun c => { c with interDigit := none }) s)) s) := dueStep hr hdue
  have body := interDigit_body hcur hf hd
  have cur : (numberComplete c s).call.cur = some { c with complete := true } := rfl
  have refused : ∀ k zone m w,
      unposted w = unposted (withCur (decidedTo k zone m { c with complete := true }) (numberComplete c s)) →
      takeDecision (analyseComplete (activeTables s) c.number) (numberComplete c s)
        = endCall .refused .ready w →
      ∃ t, exec .interDigitExpiry s = .next t ∧ callOver .ready s t := by
    intro k zone m w hw he
    refine ⟨_, exec_eq, ?_⟩
    rw [stepWith, body, he]
    exact callOver_refused (v := numberComplete c s) hr hn hcur { c with complete := true } rfl rfl
      (numberComplete_rest c s) hw
  have found : ∀ bank tab n z, s.tariff.active = some (bank, tab) →
      n = longestZone tab (analysed c.number) → tab.zones[n]? = some z →
      analyseComplete (activeTables s) c.number = .zone n ∧ zoneAt (numberComplete c s) n = some z
        ∧ requiredCredit z (numberComplete c s) = requiredCredit z s := by
    intro bank tab n z ha hzone hz
    have at_ : zoneAt s n = some z := by rw [zoneAt, ha]; exact hz
    exact ⟨by rw [activeTables, ha, hzone]; rfl, at_, rfl⟩
  refine ⟨fun ha => ?_, fun bank tab n z need ha hzone hz hneed => ⟨fun hno => ?_, fun h1 h2 =>
    ⟨fun hyes hl hs hq => ?_, fun hk hm hlow => ?_⟩⟩⟩
  · obtain ⟨k, zone, m, w, hw, -, he⟩ := takeDecision_noTariff cur
    refine refused k zone m w hw ?_
    have none_ : activeTables s = none := by rw [activeTables, ha]; rfl
    rw [none_]
    exact he
  · obtain ⟨zone_, at_, -⟩ := found bank tab n z ha hzone hz
    obtain ⟨k, zone, m, w, hw, -, he⟩ := takeDecision_refused cur at_ hno
    refine refused k zone m w hw ?_
    rw [zone_]
    exact he
  · obtain ⟨zone_, at_, need_⟩ := found bank tab n z ha hzone hz
    rw [requiredCredit_active ha, ← hneed] at need_
    obtain ⟨r, hu⟩ := takeDecision_passes cur at_ h1 h2 (by rw [need_]; exact hyes)
    rw [← zone_, ← body] at hu
    refine leadsWith_stepWith exec_eq
      ((steady_of_unposted hu).trans ((steady_withCur _ _).trans (steady_numberComplete c s))) ?_
    rw [stepWith]
    generalize completeNumber (updCallCtl (fun c => { c with interDigit := none }) s) = u at hu
    have ucall := call_of_unposted hu
    replace hu := callOnly_withCur (numberComplete_rest c s) hu
    have uline : u.line = s.line := (line_of_unposted hu).trans rfl
    have usys : u.sys = s.sys := (sys_of_unposted hu).trans rfl
    have ureport : u.report = s.report := (report_of_unposted hu).trans rfl
    have uprof : u.gate.profile = s.gate.profile := (profile_of_unposted hu).trans rfl
    have answer : param (·.answerS) u = p.answerS := by unfold param; rw [uprof, hp]
    obtain ⟨f1, f2, f3, f4, f5⟩ := finish_ringback (waiting s) ((congrArg Sys.part usys).trans hr)
      (by rw [noReport, ureport]; exact hn) ((congrArg CallCtl.station ucall).trans hst)
      (by rw [uline, hl]) (by rw [uline, hs]) ((congrArg CallCtl.dialQueue ucall).trans hq)
      (congrArg CallCtl.cur ucall) rfl rfl
    rw [answer] at f3
    exact ⟨f1, f2, f3, f4, _, f5, rfl, rfl, rfl, rfl, rfl, rfl, rfl⟩
  · obtain ⟨zone_, at_, need_⟩ := found bank tab n z ha hzone hz
    rw [requiredCredit_active ha, ← hneed] at need_
    have hu := takeDecision_needs cur at_ h1 h2 hk hm (by rw [need_]; exact hlow)
    rw [← zone_, ← body, need_] at hu
    refine leadsWith_stepWith exec_eq
      ((steady_of_unposted hu).trans ((steady_waitingCredit _ _ _).trans (steady_numberComplete c s))) ?_
    rw [stepWith]
    generalize completeNumber (updCallCtl (fun c => { c with interDigit := none }) s) = u at hu
    have ucall := call_of_unposted hu
    replace hu := callOnly_waiting (numberComplete_rest c s) hu
    have usys : u.sys = s.sys := (sys_of_unposted hu).trans rfl
    have ureport : u.report = s.report := (report_of_unposted hu).trans rfl
    have umeter : u.meter = s.meter := (meter_of_unposted hu).trans rfl
    have hold : param (·.creditHoldS) s = p.creditHoldS := by unfold param; rw [hp]
    obtain ⟨f1, f2, f3⟩ := finish_creditWait (waiting s) ((congrArg Sys.part usys).trans hr)
      (by rw [noReport, ureport]; exact hn) (congrArg CallCtl.station ucall)
      (congrArg CallCtl.cur ucall) (by rw [umeter]; exact hlow)
    have timer : u.call.creditTimer = seconds (param (·.creditHoldS) s) :=
      (congrArg CallCtl.creditTimer ucall).trans rfl
    rw [timer, hold] at f2
    exact ⟨f1, f2, _, f3, rfl, rfl, rfl, rfl, rfl, rfl, rfl⟩

end Sys2Proof.Proofs

/-! An answer taken and units charged (R101, R119 to R125). -/
namespace Sys2Proof.Proofs
open Sys2Proof.Machine Sys2Proof.Safety Sys2Proof.Laws

section
variable {s t u v : State} {p : Profile}

/-! ### A count that the end of a call leaves -/

/-- The charge total is not among the counts that a record's end writes. -/
theorem countKind_chargeTotal (k : CallKind) (t : Tally) : (countKind k t).chargeTotal = t.chargeTotal := by
  unfold countKind
  split <;> rfl

theorem dropRecord_chargeTotal (s : State) : (dropRecord s).tally.chargeTotal = s.tally.chargeTotal := by
  unfold dropRecord
  dsimp only
  split
  · rfl
  · split
    · rw [offer_tally]
      rfl
    · rfl

theorem handRecord_chargeTotal (c : CallRecord) (s : State) :
    (handRecord c s).1.tally.chargeTotal = s.tally.chargeTotal := by
  have pending := (placePending_only s).2.2
  unfold handRecord
  dsimp only
  generalize placePending s = v at pending
  generalize hw : updTally (countKind c.kind)
    { v with ring := { v.ring with seq := (v.ring.seq + 1) % 65536 } } = w
  have counted : w.tally.chargeTotal = s.tally.chargeTotal := by
    rw [← pending, ← hw]
    exact countKind_chargeTotal _ _
  split
  · split
    · exact (congrArg Tally.chargeTotal (placeRecord_only _ w).2.2).trans counted
    · exact counted
  · split
    · exact (dropRecord_chargeTotal w).trans counted
    · exact (dropRecord_chargeTotal w).trans counted

theorem endCall_chargeTotal (o : CallOutcome) (x : Station) (s : State) :
    (endCall o x s).tally.chargeTotal = s.tally.chargeTotal := by
  cases h : s.call.cur with
  | none => rw [endCall, h]
  | some c =>
    rw [endCall_released o x h]
    split
    · have handed := handRecord_chargeTotal
        (callRecord o c s.meter.units s.meter.charge (credit s.meter.purse)) (callReleased c s)
      generalize handRecord (callRecord o c s.meter.units s.meter.charge (credit s.meter.purse))
        (callReleased c s) = r at handed
      rw [setStation_tally, tally_of_unposted (raise_unposted _ _ _ _)]
      exact handed
    · rfl

theorem chargeTotal_of_steady (h : steady t = steady s) : t.tally.chargeTotal = s.tally.chargeTotal :=
  show (steady t).tally.chargeTotal = (steady s).tally.chargeTotal from congrArg (·.tally.chargeTotal) h

/-- A step that ends the call in progress, from a state in which the call may have gone on since `s`. -/
theorem callOver_ended {c c' : CallInfo} {w : State} (n : Nat) (o : CallOutcome)
    (hr : w.sys.part = .running) (hn : noReport w) (hw : w.call.cur = some c') (hs : s.call.cur = some c)
    (hd : c'.settleDue = c.settleDue) (hz : c'.seized = c.seized)
    (hline : s.line.state ≠ .released → s.line.state ≠ .clearing →
      w.line.state ≠ .released ∧ w.line.state ≠ .clearing)
    (hprof : w.gate.profile = s.gate.profile) (hseq : w.ring.seq = s.ring.seq) :
    callOver .ready s (finish n (endCall o .ready w))
      ∧ (finish n (endCall o .ready w)).tally.chargeTotal = w.tally.chargeTotal := by
  have ended := callEnded_endCall (s := w) (x := .ready) n o (by rw [hw]; simp) hr hn (.inr rfl)
  refine ⟨callOver_like ended.ended hw hs hd hz hline hprof hseq, ?_⟩
  rw [chargeTotal_of_steady (finish_steady n _), endCall_chargeTotal]

/-! ### A charge (R121, R124, R125) -/

/-- A metered call with the low-credit warning given where it is due (R125). -/
def warned (low : Bool) (m : Meter) : Meter :=
  { m with
    warnLeft := if low then 6 else m.warnLeft, warnTimer := if low then some 200 else m.warnTimer }

theorem judgeWarn_warned {m : Metered} {e : Nat} (he : nextCharge m s = e) :
    unposted (judgeWarn m s) = unposted { s with
      meter := warned (decide (credit s.meter.purse < e)) s.meter } := by
  unfold judgeWarn
  rw [he]
  dsimp only
  by_cases h : credit s.meter.purse < e
  · rw [if_pos h, raise_unposted, decide_eq_true h]
    rfl
  · rw [if_neg h, decide_eq_false h]
    rfl

/-- A state with an amount charged to the purse, to the call and to the charge total (R121, R124). -/
def chargedBy (amount : Nat) (s : State) : State :=
  { s with
    meter := { s.meter with
      purse := { s.meter.purse with c := s.meter.purse.c + amount }, charge := s.meter.charge + amount },
    coin := { s.coin with deposited := s.meter.purse.d, purseFig := s.meter.purse.state },
    tally := { s.tally with chargeTotal := min 9999999 (s.tally.chargeTotal + amount) } }

theorem chargeCall_chargedBy (amount : Nat) (s : State) :
    unposted (chargeCall amount s) = unposted (chargedBy amount s) := rfl

/-- A unit counted (R121, R124). -/
def unitCounted (m : Metered) (mt : Meter) : Meter :=
  { mt with units := mt.units + 1, nextUnit := if m.timed then mt.nextUnit + m.l else mt.nextUnit }

theorem nextCharge_of_cal {m : Metered} (hc : t.cal = s.cal) (ht : t.tariff = s.tariff) :
    nextCharge m t = nextCharge m s := by
  simp only [nextCharge, bandMult, hc, ht]

/-- A unit that the credit covers is charged and counted (R124). -/
theorem unitTest_charged {m : Metered} {e : Nat} (he : e = nextCharge m s) (hu : s.meter.units ≠ 65535)
    (hc : e ≤ credit s.meter.purse) : unposted (unitTest m s) = unposted { chargedBy e s with
      meter := warned (decide (s.meter.purse.d - (s.meter.purse.c + e) < e))
        (unitCounted m (chargedBy e s).meter) } := by
  have test : unitTest m s = judgeWarn m { chargeCall e s with meter := { (chargeCall e s).meter with
      units := (chargeCall e s).meter.units + 1,
      nextUnit := if m.timed then (chargeCall e s).meter.nextUnit + m.l
        else (chargeCall e s).meter.nextUnit } } := by
    unfold unitTest
    rw [← he]
    dsimp only
    rw [if_neg (show ¬ s.meter.units = unitTop from hu), if_pos hc]
  rw [test]
  refine (judgeWarn_warned (e := e) ?_).trans rfl
  exact (nextCharge_of_cal rfl rfl).trans he.symm

/-- A unit beyond the credit, or past the unit count's top, ends the call (R124). -/
theorem unitTest_ends {m : Metered} {e : Nat} (he : e = nextCharge m s)
    (h : s.meter.units = 65535 ∨ credit s.meter.purse < e) :
    ∃ o, unitTest m s = endCall o .ready s := by
  unfold unitTest
  rw [← he]
  dsimp only
  by_cases hu : s.meter.units = unitTop
  · exact ⟨_, if_pos hu⟩
  · have short : credit s.meter.purse < e := h.resolve_left hu
    exact ⟨_, by rw [if_neg hu, if_neg (Nat.not_le.mpr short)]⟩

/-- An OPEN purse stands through the money's judgments while a call is metered (R117). -/
theorem judgeMoney_metered (ho : s.meter.purse.state = .opened) (hm : s.meter.metered ≠ none) :
    (judgeMoney s).meter.purse = s.meter.purse := by
  have hook : settleOnHook s = s := by
    refine if_neg ?_
    simp [hm]
  have demand : (judgeDemand s).meter.purse = s.meter.purse := by
    unfold judgeDemand
    simp only [ho]
    split <;> rfl
  unfold judgeMoney
  split
  · rw [(startLane_meter _).2, hook, demand]
  · rfl

/-- The purse at the end of a step that leaves a call metered. -/
theorem finish_metered (n : Nat) (hr : s.sys.part = .running) (ho : s.meter.purse.state = .opened)
    (hm : s.meter.metered ≠ none) : (finish n s).meter.purse = s.meter.purse := by
  rw [finish_meter, settle_meter hr, judgeMoney_metered ho hm]

/-! ### The unit start and the METER pulse (R114, R122, R123) -/

/-- A unit tested from a state whose line alone may differ, at the end of its step (R124). -/
theorem leadsWith_unit {c : Instr} {m : Metered} {l : Line} {f : State → State} {e : Nat}
    (hr : s.sys.part = .running) (hm : s.meter.metered = some m) (hst : s.call.station = .talking)
    (hc : exec c s = .next (stepWith f s)) (hf : f s = unitTest m { s with line := l })
    (he : e = unitCharge m.u (if m.timed then bandMult s s.cal.band else 100) m.q)
    (hu : s.meter.units ≠ 65535) (hcr : e ≤ s.meter.purse.d - s.meter.purse.c) (low : Bool)
    (hlow : low = decide (s.meter.purse.d - (s.meter.purse.c + e) < e)) :
    leadsWith c s
      { s with
        line := l,
        tally := { s.tally with chargeTotal := min 9999999 (s.tally.chargeTotal + e) },
        meter := { s.meter with
          units := s.meter.units + 1, charge := s.meter.charge + e,
          nextUnit := if m.timed then s.meter.nextUnit + m.l else s.meter.nextUnit,
          warnLeft := if low then 6 else s.meter.warnLeft,
          warnTimer := if low then some 200 else s.meter.warnTimer } }
      (fun t => t.call.station = .talking ∧ (s.meter.purse.state = .opened →
        t.meter.purse = { s.meter.purse with c := s.meter.purse.c + e })) := by
  have hu' := unitTest_charged (s := { s with line := l }) (m := m) he hu hcr
  rw [← hf, ← hlow] at hu'
  refine leadsWith_stepWith hc ((steady_of_unposted hu').trans rfl) ?_
  rw [stepWith]
  generalize f s = u at hu'
  have usys : u.sys = s.sys := (sys_of_unposted hu').trans rfl
  have ucall : u.call = s.call := (call_of_unposted hu').trans rfl
  have umeter := meter_of_unposted hu'
  have upurse : u.meter.purse = { s.meter.purse with c := s.meter.purse.c + e } :=
    congrArg Meter.purse umeter
  have umetered : u.meter.metered = s.meter.metered :=
    (congrArg Meter.metered umeter).trans rfl
  have run := (congrArg Sys.part usys).trans hr
  have station := finish_station (waiting s) run (by simp [ucall, hst]) (by simp [ucall, hst])
    (by simp [ucall, hst]) (by simp [ucall, hst])
  refine ⟨by rw [station, ucall, hst], fun ho => ?_⟩
  rw [finish_metered _ run (by rw [upurse]; exact ho) (by rw [umetered, hm]; simp), upurse]

/-- A unit that ends the call, at the end of its step (R124). -/
theorem callOver_unit {c : Instr} {m : Metered} {l : Line} {f : State → State} {e : Nat}
    (hr : s.sys.part = .running) (hc : exec c s = .next (stepWith f s))
    (hf : f s = unitTest m { s with line := l }) (hl : l.state = s.line.state)
    (he : e = unitCharge m.u (if m.timed then bandMult s s.cal.band else 100) m.q)
    (hend : s.meter.units = 65535 ∨ s.meter.purse.d - s.meter.purse.c < e) (hcur : s.call.cur ≠ none)
    (hn : noReport s) : ∃ t, exec c s = .next t ∧ callOver .ready s t
      ∧ t.tally.chargeTotal = s.tally.chargeTotal := by
  obtain ⟨a, hcur⟩ := Option.ne_none_iff_exists'.mp hcur
  obtain ⟨o, ends⟩ := unitTest_ends (s := { s with line := l }) (m := m) he hend
  refine ⟨_, hc, ?_⟩
  rw [stepWith, hf, ends]
  exact callOver_ended (w := { s with line := l }) _ o hr hn hcur hcur rfl rfl
    (fun h1 h2 => by show l.state ≠ _ ∧ l.state ≠ _; rw [hl]; exact ⟨h1, h2⟩) rfl rfl

end

/-- Settles O53. -/
theorem unitsAreCharged : Obligations.UnitsAreCharged := by
  refine ⟨fun s m c l hr hm hst hc e he => ?_, fun s ph hr => ⟨fun happ hno => ?_, fun k hk hlt => ?_⟩⟩
  · obtain ⟨f, hexec, hf, hl⟩ : ∃ f : State → State, exec c s = .next (stepWith f s)
        ∧ f s = unitTest m { s with line := l } ∧ l.state = s.line.state := by
      obtain ⟨rfl, htimed, rfl, hdue⟩ | ⟨ph, rfl, htimed, rfl, happ⟩ := hc
      · refine ⟨unitTest m, ?_, rfl, rfl⟩
        have due : (m.timed && unitDue s && s.call.station == .talking) = true := by
          obtain hdue | ⟨h1, h2⟩ := hdue
          · simp [htimed, unitDue, hdue, hst]
          · simp [htimed, unitDue, h1, h2, hst]
        have step : execUnitStart s = .next (stepWith (unitTest m) s) := by
          unfold execUnitStart
          rw [hm]
          exact dueStep hr due
        exact step
      · refine ⟨pulseBody ph, runningStep hr, ?_, rfl⟩
        have apart : pulseApart s.line ph = true := by
          unfold pulseApart
          split
          · rfl
          · next k hk => exact decide_eq_true (happ k hk)
        have pulsed : pulsedNow (updLine (fun l => { l with meterTicks := some 0, meterPhase := ph }) s)
            = some m := by
          unfold pulsedNow updLine
          dsimp only
          rw [hm]
          simp [htimed, hst]
        unfold pulseBody
        dsimp only
        rw [if_pos apart, pulsed]
        rfl
    exact ⟨fun hu hcr low hlow => leadsWith_unit hr hm hst hexec hf he hu hcr low hlow,
      fun hend hcur hn => callOver_unit hr hexec hf hl he hend hcur hn⟩
  · have apart : pulseApart s.line ph = true := by
      unfold pulseApart
      split
      · rfl
      · next k hk => exact decide_eq_true (happ k hk)
    have none_ : pulsedNow (updLine (fun l => { l with meterTicks := some 0, meterPhase := ph }) s)
        = none := by
      unfold pulsedNow updLine
      dsimp only
      split
      · next m hm =>
        refine if_neg ?_
        obtain h | h | ⟨m', h, ht⟩ := hno
        · rw [h] at hm; cases hm
        · simp [h]
        · rw [h] at hm
          cases hm
          simp [ht]
      · rfl
    refine leads_stepWith (runningStep hr) ?_
    unfold pulseBody
    dsimp only
    rw [if_pos apart, none_]
    rfl
  · refine leads_stepWith (f := pulseBody ph) (runningStep hr) ?_
    have close : pulseApart s.line ph = false := by
      unfold pulseApart
      rw [hk]
      exact decide_eq_false (by omega)
    rw [pulseBody, if_neg (by simp [close])]

end Sys2Proof.Proofs

/-! An answer taken (R101, R121, R156). -/
namespace Sys2Proof.Proofs
open Sys2Proof.Machine Sys2Proof.Safety Sys2Proof.Laws

section
variable {s t u v w : State} {p : Profile} {c a : CallInfo}

/-! ### The answer (R101) -/

/-- A state with the call in progress answered, before it is metered. -/
def talkingWith (a : CallInfo) (v : State) : State :=
  { v with
    call := { v.call with station := .talking, answerTimer := none, cur := some a },
    line := { v.line with answerP := none } }

/-- The call in progress as an answer leaves it. -/
def answeredAs (s : State) (c : CallInfo) : CallInfo :=
  { c with answered := true, talk := 0, band := BitVec.ofNat 3 s.cal.band }

/-- The first steps of an answer. -/
theorem answerCall_taken (h : v.call.cur = some c) :
    ∃ w, unposted w = unposted (talkingWith (answeredAs v c) v)
      ∧ (c.kind = .free ∨ c.kind = .emergency → answerCall v = w)
      ∧ (∀ n z, c.kind = .paid → c.zone = some n → zoneAt v n = some z →
          z.kind = .timed ∨ z.kind = .pulsed → answerCall v = meterAnswer z w) := by
  have upd : updCall (fun c => { c with answered := true, talk := 0, band := BitVec.ofNat 3 v.cal.band })
      { v with call := { v.call with answerTimer := none }, line := { v.line with answerP := none } }
      = touchLive (withCur (answeredAs v c)
        { v with call := { v.call with answerTimer := none }, line := { v.line with answerP := none } }) :=
    updCall_cur _ h
  generalize hw : raise .call 9 [b8 (callKindCode c.kind), zoneByte c.zone, b8 v.cal.band]
    (setStation .talking (updCall (fun c => { c with
      answered := true, talk := 0, band := BitVec.ofNat 3 v.cal.band })
      { v with
        call := { v.call with answerTimer := none },
        line := { v.line with answerP := none } })) = w
  refine ⟨w, ?_, fun hk => ?_, fun n z hk hz hat hkind => ?_⟩
  · rw [← hw, raise_unposted, upd]
    rfl
  · unfold answerCall
    rw [h]
    dsimp only
    rw [hw]
    obtain hk | hk := hk <;> rw [hk]
  · unfold answerCall
    rw [h]
    dsimp only
    rw [hw, hk, hz]
    dsimp only [Option.bind_some]
    rw [hat]
    exact if_pos hkind

/-- The metering of a call as it begins, its start fee charged (R121, R125). -/
def feeMeter (m : Metered) (k : Nat) (low : Bool) (mt : Meter) : Meter :=
  { mt with
    metered := some m, units := 0, charge := m.s, t := 0, nextUnit := k,
    warnLeft := if low then 6 else mt.warnLeft, warnTimer := if low then some 200 else mt.warnTimer }

/-- A state with a call metered and its start fee charged. -/
def feeCharged (m : Metered) (k : Nat) (low : Bool) (s : State) : State :=
  { s with
    meter := { feeMeter m k low s.meter with
      purse := { s.meter.purse with c := s.meter.purse.c + m.s } },
    coin := { s.coin with deposited := s.meter.purse.d, purseFig := s.meter.purse.state },
    tally := { s.tally with chargeTotal := min 9999999 (s.tally.chargeTotal + m.s) } }

theorem steady_feeCharged (m : Metered) (k : Nat) (low : Bool) (s : State) :
    steady (feeCharged m k low s) = { steady s with
      meter := feeMeter m k low (steady s).meter,
      tally := { (steady s).tally with
        chargeTotal := min 9999999 ((steady s).tally.chargeTotal + m.s) } } := rfl

theorem steady_fee_of {m : Metered} {k : Nat} {low : Bool} (h : steady w = steady s) :
    steady (feeCharged m k low w) = steady (feeCharged m k low s) := by
  rw [steady_feeCharged, steady_feeCharged, h]

/-- A state with a unit charged and counted. -/
def unitCharged (m : Metered) (e : Nat) (low : Bool) (s : State) : State :=
  { chargedBy e s with meter := warned low (unitCounted m (chargedBy e s).meter) }

theorem steady_unitCharged (m : Metered) (e : Nat) (low : Bool) (s : State) :
    steady (unitCharged m e low s) = { steady s with
      meter := warned low (unitCounted m { (steady s).meter with charge := (steady s).meter.charge + e }),
      tally := { (steady s).tally with
        chargeTotal := min 9999999 ((steady s).tally.chargeTotal + e) } } := rfl

/-- The start fee and the first unit of a call without a free period, charged together. -/
theorem steady_feeUnit {m : Metered} {e : Nat} {low : Bool} (hm : m.timed = true) :
    steady (unitCharged m e low (feeCharged m 0 false s)) = steady { s with
      tally := { s.tally with chargeTotal := min 9999999 (s.tally.chargeTotal + m.s + e) },
      meter := { s.meter with
        metered := some m, units := 1, charge := m.s + e, t := 0, nextUnit := m.l,
        warnLeft := if low then 6 else s.meter.warnLeft,
        warnTimer := if low then some 200 else s.meter.warnTimer } } := by
  have total : min 9999999 (min 9999999 (s.tally.chargeTotal + m.s) + e)
      = min 9999999 (s.tally.chargeTotal + m.s + e) := by omega
  have next : (if m.timed then 0 + m.l else 0) = m.l := by rw [if_pos hm, Nat.zero_add]
  have eq := congr (congrArg (fun ct nu => steady { s with
      tally := { s.tally with chargeTotal := ct },
      meter := { s.meter with
        metered := some m, units := 1, charge := m.s + e, t := 0, nextUnit := nu,
        warnLeft := if low then 6 else s.meter.warnLeft,
        warnTimer := if low then some 200 else s.meter.warnTimer } }) total) next
  exact eq

/-- A state that a change of the money alone has reached. -/
theorem moneyOnly_of {x y : State} (hx : unposted x = unposted y)
    (hy : unposted y = unposted { w with meter := y.meter, coin := y.coin, tally := y.tally }) :
    unposted x = unposted { w with meter := x.meter, coin := x.coin, tally := x.tally } := by
  rw [meter_of_unposted hx, coin_of_unposted hx, tally_of_unposted hx, hx, hy]

/-- A credit under the start fee ends the call (R121). -/
theorem meterAnswer_short {z : Zone} (h : credit w.meter.purse < z.s) :
    meterAnswer z w = endCall .notConnected .ready w := if_pos h

/-- The start fee charged (R121, R125). -/
theorem meterAnswer_fee {z : Zone} {m : Metered} {e : Nat}
    (hm : m = ⟨z.kind == .timed, z.s, z.u, z.l, z.f, roundingStep w⟩) (he : nextCharge m w = e)
    (h : z.s ≤ credit w.meter.purse) :
    ∃ x, unposted x = unposted (feeCharged m (if z.kind = .timed then z.f else 0)
        (decide (w.meter.purse.d - (w.meter.purse.c + z.s) < e)) w)
      ∧ (z.kind ≠ .timed ∨ 0 < z.f → meterAnswer z w = x)
      ∧ (z.kind = .timed → z.f = 0 → meterAnswer z w = unitTest m x) := by
  have first : (if m.timed then z.f else 0) = if z.kind = .timed then z.f else 0 := by
    rw [hm]
    by_cases hk : z.kind = .timed <;> simp [hk]
  generalize hv : chargeCall z.s { w with meter := { w.meter with
    metered := some m, units := 0, charge := 0, t := 0, nextUnit := if m.timed then z.f else 0 } } = v
  have next : nextCharge m v = e := by
    rw [← hv]
    exact (nextCharge_of_cal (s := w) rfl rfl).trans he
  have warn := judgeWarn_warned next
  have answer : meterAnswer z w = if m.timed && z.f == 0 then unitTest m (judgeWarn m v)
      else judgeWarn m v := by
    rw [← hv, hm]
    exact if_neg (Nat.not_lt.mpr h)
  have timed : m.timed = (z.kind == ZoneKind.timed) := by rw [hm]
  refine ⟨judgeWarn m v, warn.trans ?_, fun hf => ?_, fun ht hf => ?_⟩
  · subst hm
    rw [← hv, first]
    generalize (if z.kind = .timed then z.f else 0) = k
    generalize roundingStep w = q
    have charged := congrArg (fun i => unposted
      { feeCharged ⟨z.kind == .timed, z.s, z.u, z.l, z.f, q⟩ k
          (decide (w.meter.purse.d - (w.meter.purse.c + z.s) < e)) w with
        meter := { (feeCharged ⟨z.kind == .timed, z.s, z.u, z.l, z.f, q⟩ k
          (decide (w.meter.purse.d - (w.meter.purse.c + z.s) < e)) w).meter with charge := i } })
      (Nat.zero_add z.s)
    exact charged
  · rw [answer]
    refine if_neg ?_
    rw [timed]
    obtain hf | hf := hf
    · simp [hf]
    · simp [Nat.pos_iff_ne_zero.mp hf]
  · rw [answer]
    exact if_pos (by rw [timed, ht, hf]; rfl)

/-! ### The answer at the end of its step -/

/-- In conversation the digit sender changes the Dial Queue and the inter-digit timer alone. -/
theorem judgeSender_call (h : v.call.station ≠ .creditWait) (h1 : v.call.station ≠ .dialling) :
    ∃ q, (judgeSender v).call = { v.call with dialQueue := q, interDigit := none } := by
  have offered : ∃ q, (offerDigit v).call = { v.call with dialQueue := q } := by
    unfold offerDigit
    split
    · split
      · exact ⟨_, startDigit_call _ _ _⟩
      · split
        · exact ⟨_, startDigit_call _ _ _⟩
        · exact ⟨_, rfl⟩
    · exact ⟨_, rfl⟩
  have report : ∀ x : State, (offerReport x).call = x.call := by
    intro x
    unfold offerReport
    split
    · split
      · split
        · rw [startDigit_call]
        · rfl
      · split
        · rw [startDigit_call]
        · rfl
      all_goals rfl
    · rfl
  obtain ⟨q, hq⟩ := offered
  have station : (offerDigit v).call.station ≠ .dialling := by rw [hq]; exact h1
  refine ⟨q, ?_⟩
  rw [judgeSender, judgeGate_still h, report, judgeRingback_still station, judgeInterDigit_still station,
    withoutInterDigit, hq]

/-- A call in conversation at the end of a step. -/
theorem finish_talking (n : Nat) (hr : u.sys.part = .running) (hn : noReport u)
    (hst : u.call.station = .talking) : (finish n u).call.station = .talking
      ∧ (finish n u).call.answerTimer = u.call.answerTimer ∧ (finish n u).call.cur = u.call.cur
      ∧ (finish n u).line.state = u.line.state := by
  obtain ⟨v, hv⟩ := calling_finish n hr (.inl hn)
  have station : v.call.station = .talking := by rw [hv.found_call, ← hst]
  obtain ⟨q, hq⟩ := judgeSender_call (v := v) (by simp [station]) (by simp [station])
  have line := (finish_conversing n hr hn (.inl hst)).2.1
  have fcall := hv.call
  rw [hq] at fcall
  generalize finish n u = t at fcall line
  have timer := congrArg CallCtl.answerTimer hv.found_call
  have cur := congrArg CallCtl.cur hv.found_call
  exact ⟨by rw [fcall]; exact station, by rw [fcall]; exact timer, by rw [fcall]; exact cur, line⟩

/-! ### An answer in RINGBACK, and one that comes early (R101) -/

/-- The state in which an answer is taken: in RINGBACK as it is, in DIALLING with the number complete and
the station passed through RINGBACK. -/
def answerable (s : State) : State :=
  if s.call.station = .ringback then updLine (fun l => { l with answerP := none }) s
  else enterRingback (updCall (fun c => { c with complete := true })
    (updLine (fun l => { l with answerP := none }) s))

theorem enterRingback_steady (v : State) : steady (enterRingback v) = steady v := by
  unfold enterRingback connectOut setLine
  rfl

theorem enterRingback_rest (v : State) : unposted (enterRingback v) = unposted { v with
    call := (enterRingback v).call, line := (enterRingback v).line, tamper := (enterRingback v).tamper } := by
  unfold enterRingback connectOut setLine
  rfl

/-- What an answer's state has of the state before: the same but for the call, the line and a timer of the
Tamper Monitor that stands only while the line is RELEASED. -/
theorem answerable_rest (s : State) :
    unposted (answerable s) = unposted { s with
      call := (answerable s).call, line := (answerable s).line, tamper := (answerable s).tamper } := by
  unfold answerable
  split
  · rfl
  · exact (enterRingback_rest _).trans rfl

theorem answerable_steady (s : State) : steady (answerable s) = steady s := by
  unfold answerable
  split
  · rfl
  · exact (enterRingback_steady _).trans rfl

/-! ### What the answer's later steps find -/

/-- `x` holds the answered call `a`, from a state `s` with the call `c` in progress. -/
structure Taken (s : State) (a : CallInfo) (x : State) : Prop where
  run : x.sys.part = .running
  quiet : noReport x
  station : x.call.station = .talking
  timer : x.call.answerTimer = none
  cur : x.call.cur = some a
  connected : s.call.station = .dialling → x.line.state = .connected
  seized : s.line.state ≠ .released → s.line.state ≠ .clearing →
    x.line.state ≠ .released ∧ x.line.state ≠ .clearing
  profile : x.gate.profile = s.gate.profile
  ring : x.ring.seq = s.ring.seq

/-- The money's changes leave the answered call. -/
theorem Taken.money {x : State} (h : Taken s a w)
    (hx : unposted x = unposted { w with meter := x.meter, coin := x.coin, tally := x.tally }) :
    Taken s a x := by
  have sys : x.sys = w.sys := (sys_of_unposted hx).trans rfl
  have report : x.report = w.report := (report_of_unposted hx).trans rfl
  have call : x.call = w.call := (call_of_unposted hx).trans rfl
  have line : x.line = w.line := (line_of_unposted hx).trans rfl
  have profile : x.gate.profile = w.gate.profile := (profile_of_unposted hx).trans rfl
  have ring : x.ring = w.ring := (ring_of_unposted hx).trans rfl
  exact ⟨by rw [sys]; exact h.run, by rw [noReport, report]; exact h.quiet, by rw [call]; exact h.station,
    by rw [call]; exact h.timer, by rw [call]; exact h.cur, by rw [line]; exact h.connected,
    by rw [line]; exact h.seized, profile.trans h.profile, by rw [ring]; exact h.ring⟩

/-- The call that an answer finds: the one in progress, complete and with no wait where it comes early. -/
def foundCall (s : State) (c : CallInfo) : CallInfo :=
  if s.call.station = .ringback then c else { c with complete := true, wait := 0 }

theorem answerable_call (hcur : s.call.cur = some c) :
    (answerable s).call.cur = some (foundCall s c)
      ∧ (answerable s).line.state = if s.call.station = .ringback then s.line.state else .connected := by
  unfold answerable foundCall
  by_cases h : s.call.station = .ringback
  · rw [if_pos h, if_pos h, if_pos h]
    exact ⟨hcur, rfl⟩
  · rw [if_neg h, if_neg h, if_neg h, updCall_cur _ (show (updLine _ s).call.cur = some c from hcur)]
    unfold enterRingback connectOut setLine
    exact ⟨rfl, rfl⟩

theorem taken_talking (hr : s.sys.part = .running) (hn : noReport s) (hcur : s.call.cur = some c)
    (hw : unposted w = unposted (talkingWith a (answerable s))) : Taken s a w := by
  obtain ⟨-, hline⟩ := answerable_call hcur
  have rest := answerable_rest s
  generalize answerable s = v at hw hline rest
  have vsys : v.sys = s.sys := (sys_of_unposted rest).trans rfl
  have vreport : v.report = s.report := (report_of_unposted rest).trans rfl
  have vprofile : v.gate.profile = s.gate.profile := (profile_of_unposted rest).trans rfl
  have vring : v.ring = s.ring := (ring_of_unposted rest).trans rfl
  have sys : w.sys = v.sys := (sys_of_unposted hw).trans rfl
  have report : w.report = v.report := (report_of_unposted hw).trans rfl
  have call := call_of_unposted hw
  have line : w.line.state = v.line.state := (congrArg Line.state (line_of_unposted hw)).trans rfl
  have profile : w.gate.profile = v.gate.profile := (profile_of_unposted hw).trans rfl
  have ring : w.ring = v.ring := (ring_of_unposted hw).trans rfl
  refine ⟨by rw [sys, vsys]; exact hr, by rw [noReport, report, vreport]; exact hn,
    congrArg CallCtl.station call, congrArg CallCtl.answerTimer call, congrArg CallCtl.cur call,
    fun h => ?_, fun h1 h2 => ?_, profile.trans vprofile, by rw [ring, vring]⟩
  · rw [line, hline, if_neg (by simp [h])]
  · rw [line, hline]
    split
    · exact ⟨h1, h2⟩
    · simp

/-- An answered call that goes on, at the end of its step. -/
theorem finish_taken {x : State} (n : Nat) (h : Taken s a x) : (finish n x).call.station = .talking
    ∧ (finish n x).call.answerTimer = none ∧ (finish n x).call.cur = some a
    ∧ (s.call.station = .dialling → (finish n x).line.state = .connected) := by
  obtain ⟨f1, f2, f3, f4⟩ := finish_talking n h.run h.quiet h.station
  exact ⟨f1, f2.trans h.timer, f3.trans h.cur, fun hd => f4.trans (h.connected hd)⟩

/-- An answered call that is ended at once, at the end of its step. -/
theorem callOver_taken {x : State} (n : Nat) (o : CallOutcome) (h : Taken s a x)
    (hcur : s.call.cur = some c) (hd : a.settleDue = c.settleDue) (hz : a.seized = c.seized) :
    callOver .ready s (finish n (endCall o .ready x))
      ∧ (finish n (endCall o .ready x)).tally.chargeTotal = x.tally.chargeTotal :=
  callOver_ended n o h.run h.quiet h.cur hcur hd hz h.seized h.profile h.ring

/-- What an answer takes of the state before it. -/
theorem answer_taken (hr : s.sys.part = .running) (hdue : timerDue s.line.answerP = true)
    (hrev : s.pins.rev = true) (hcur : s.call.cur = some c)
    (ha : (s.call.station = .ringback
          ∧ a = { c with answered := true, talk := 0, band := BitVec.ofNat 3 s.cal.band })
        ∨ (s.call.station = .dialling ∧ c.gatePassed = true ∧ s.call.dialQueue = []
          ∧ s.line.sender = none
          ∧ a = { c with
              complete := true, wait := 0, answered := true, talk := 0,
              band := BitVec.ofNat 3 s.cal.band })) (hn : noReport s) :
    ∃ w, exec .answerDetected s = .next (stepWith answerBody s) ∧ Taken s a w
      ∧ steady w = steady s ∧ w.meter = s.meter ∧ w.tally = s.tally ∧ w.cal = s.cal
      ∧ w.tariff = s.tariff ∧ a.settleDue = c.settleDue ∧ a.seized = c.seized
      ∧ (c.kind = .free ∨ c.kind = .emergency → answerBody s = w)
      ∧ (∀ n z, c.kind = .paid → c.zone = some n → zoneAt s n = some z →
          z.kind = .timed ∨ z.kind = .pulsed → answerBody s = meterAnswer z w) := by
  obtain ⟨hv, -⟩ := answerable_call hcur
  have rest := answerable_rest s
  have st := answerable_steady s
  have vcal : (answerable s).cal = s.cal := (cal_of_unposted rest).trans rfl
  have vmeter : (answerable s).meter = s.meter := (meter_of_unposted rest).trans rfl
  have vtally : (answerable s).tally = s.tally := (tally_of_unposted rest).trans rfl
  have vtariff : (answerable s).tariff = s.tariff := (tariff_of_unposted rest).trans rfl
  have body : answerBody s = answerCall (answerable s) := by
    obtain ⟨h, -⟩ | ⟨h, hg, hq, hs, -⟩ := ha
    · simp only [answerBody, h, answerable, if_true]
    · have early : earlyAnswer s = true := by
        unfold earlyAnswer
        rw [hcur]
        simp [hg, hq, idleSender, hs]
      simp only [answerBody, h, early, if_true, answerable, answerEarly]
      rfl
  have found : answeredAs (answerable s) (foundCall s c) = a := by
    unfold answeredAs foundCall
    rw [vcal]
    obtain ⟨h, rfl⟩ | ⟨h, -, -, -, rfl⟩ := ha
    · rw [if_pos h]
    · rw [if_neg (by simp [h])]
  have kind : (foundCall s c).kind = c.kind ∧ (foundCall s c).zone = c.zone := by
    unfold foundCall
    split <;> exact ⟨rfl, rfl⟩
  have due : a.settleDue = c.settleDue ∧ a.seized = c.seized := by
    obtain ⟨-, rfl⟩ | ⟨-, -, -, -, rfl⟩ := ha <;> exact ⟨rfl, rfl⟩
  obtain ⟨w, hw, free, paid⟩ := answerCall_taken hv
  rw [found] at hw
  have taken := taken_talking hr hn hcur hw
  have zone : ∀ n, zoneAt (answerable s) n = zoneAt s n := fun n => by rw [zoneAt, vtariff, zoneAt]
  generalize answerable s = v at *
  have wmeter : w.meter = v.meter := (meter_of_unposted hw).trans rfl
  have wtally : w.tally = v.tally := (tally_of_unposted hw).trans rfl
  have wcal : w.cal = v.cal := (cal_of_unposted hw).trans rfl
  have wtariff : w.tariff = v.tariff := (tariff_of_unposted hw).trans rfl
  refine ⟨w, dueStep hr (by simp [hdue, hrev]), taken, ((steady_of_unposted hw).trans rfl).trans st,
    wmeter.trans vmeter, wtally.trans vtally, wcal.trans vcal, wtariff.trans vtariff, due.1, due.2,
    fun h => body.trans (free (by rwa [kind.1])), fun n z hk hz hat hkind => body.trans
      (paid n z (by rwa [kind.1]) (by rwa [kind.2]) (by rwa [zone]) hkind)⟩

/-- The charge of a unit of an answered zone, by the active tables (R119, R121). -/
theorem nextCharge_zone {bank : Bank} {tab : Tables} (ha : w.tariff.active = some (bank, tab)) (z : Zone) :
    roundingStep w = tab.q
      ∧ nextCharge ⟨z.kind == .timed, z.s, z.u, z.l, z.f, tab.q⟩ w = unitCharge z.u
        (if z.kind = .timed then tab.mults.getD w.cal.band 100 else 100) tab.q := by
  simp only [roundingStep, nextCharge, bandMult, ha, beq_iff_eq, true_and]

/-! ### Where an answer is ignored, and the report call (R101, R156) -/

/-- The digit sender takes no station to TALKING. -/
theorem judgeSender_notTalking (h : v.call.station ≠ .talking) :
    (judgeSender v).call.station ≠ .talking := by
  have gate : (judgeGate v).call.station ≠ .talking := by
    unfold judgeGate
    split
    · exact h
    · split
      · exact fun h => nomatch h
      · exact h
  have offered : ∀ x : State, (offerDigit x).call.station = x.call.station := by
    intro x
    unfold offerDigit
    split
    · split
      · rw [startDigit_call]
      · split
        · rw [startDigit_call]
        · rfl
    · rfl
  have ringback : ∀ x : State, x.call.station ≠ .talking → (judgeRingback x).call.station ≠ .talking := by
    intro x hx
    unfold judgeRingback
    split
    · split
      · exact fun h => nomatch h
      · exact hx
    · exact hx
  have inter : ∀ x : State, (judgeInterDigit x).call.station = x.call.station := by
    intro x
    unfold judgeInterDigit
    split
    · split <;> rfl
    · rfl
  have report : ∀ x : State, (offerReport x).call.station = x.call.station := by
    intro x
    unfold offerReport
    split
    · split
      · split
        · rw [startDigit_call]
        · rfl
      · split
        · rw [startDigit_call]
        · rfl
      all_goals rfl
    · rfl
  rw [judgeSender, report, inter]
  exact ringback _ (by rw [offered]; exact gate)

/-- The report call's answer at the end of its step (R156). -/
theorem finish_awaitCentre (n : Nat) (hr : u.sys.part = .running) (hst : u.call.station = .reporting)
    (hp : u.report.phase = .awaitCentre) : (finish n u).report = u.report := by
  obtain ⟨v, hv⟩ := calling_finish n hr (.inr (.inl ⟨by simp [hst], by simp [hst]⟩))
  have station : v.call.station = .reporting := by rw [hv.found_call, ← hst]
  have still : judgeSender v = withoutInterDigit v := by
    rw [judgeSender_reporting station]
    exact offerReport_still (s := withoutInterDigit v)
      (by show v.report.phase ≠ _; rw [hv.found_report, hp]; simp)
      (by show v.report.phase ≠ _; rw [hv.found_report, hp]; simp)
  rw [hv.report, still, ← hv.found_report]
  rfl

end

/-- Settles O52. -/
theorem answersAreTaken : Obligations.AnswersAreTaken := by
  intro s c hr hdue hrev hcur
  have exec_eq : exec .answerDetected s = .next (stepWith answerBody s) :=
    dueStep hr (by simp [hdue, hrev])
  refine ⟨fun a ha hn => ?_, fun hno => ?_, fun hst hp hans => ?_⟩
  · obtain ⟨w, -, taken, wsteady, wmeter, wtally, wcal, wtariff, due, seized, free, paid⟩ :=
      answer_taken hr hdue hrev hcur ha hn
    refine ⟨fun hk => ?_, fun bank tab n z htab hk hz hzone hkind => ?_⟩
    · refine leadsWith_stepWith exec_eq (by rw [free hk, wsteady]) ?_
      rw [stepWith, free hk]
      obtain ⟨f1, f2, f3, f4⟩ := finish_taken (waiting s) taken
      exact ⟨f1, f2, f3, f4⟩
    · have body := paid n z hk hz (by rw [zoneAt, htab]; exact hzone) hkind
      obtain ⟨step_q, charge⟩ := nextCharge_zone (w := w) (by rw [wtariff]; exact htab) z
      have fee := meterAnswer_fee (w := w) (m := ⟨z.kind == .timed, z.s, z.u, z.l, z.f, tab.q⟩)
        (by rw [step_q]) charge
      rw [wcal, wmeter] at fee
      refine ⟨fun hlow => ?_, fun hcr hf low hlow => ?_, fun hcr hf hk e he => ?_⟩
      · refine ⟨_, exec_eq, ?_⟩
        rw [stepWith, body, meterAnswer_short (by rw [wmeter]; exact hlow), ← wtally]
        exact callOver_taken _ _ taken hcur due seized
      · obtain ⟨x, hx, goes, -⟩ := fee hcr
        rw [← hlow] at hx
        have notFree : z.kind ≠ .timed ∨ 0 < z.f := by
          obtain hf | hf := hf
          · exact .inr hf
          · exact .inl (by simp [hf])
        have body' := body.trans (goes notFree)
        have umeter := meter_of_unposted hx
        have upurse : x.meter.purse = { s.meter.purse with c := s.meter.purse.c + z.s } := by
          rw [umeter, ← wmeter]
          rfl
        have umetered : x.meter.metered ≠ none := by
          rw [umeter]
          exact fun h => nomatch h
        have xtaken := taken.money (moneyOnly_of hx rfl)
        refine leadsWith_stepWith exec_eq ?_ ?_
        · rw [body', steady_of_unposted hx, steady_fee_of wsteady]
          rfl
        · rw [stepWith, body']
          obtain ⟨f1, -, f3, f4⟩ := finish_taken (waiting s) xtaken
          exact ⟨f1, f3, f4, fun ho => (finish_metered _ xtaken.run (by rw [upurse]; exact ho)
            umetered).trans upurse⟩
      · obtain ⟨x, hx, -, unit⟩ := fee hcr
        have charge' : e = unitCharge z.u
            (if z.kind = .timed then tab.mults.getD s.cal.band 100 else 100) tab.q := by rw [he, if_pos hk]
        have m_eq : (⟨z.kind == .timed, z.s, z.u, z.l, z.f, tab.q⟩ : Metered)
            = ⟨true, z.s, z.u, z.l, 0, tab.q⟩ := by rw [hk, hf]; rfl
        have body' := body.trans (unit hk hf)
        rw [← charge', m_eq, if_pos hk, hf] at hx
        rw [m_eq] at body' charge
        have ucal : x.cal = w.cal := (cal_of_unposted hx).trans rfl
        have utariff : x.tariff = w.tariff := (tariff_of_unposted hx).trans rfl
        have umeter := meter_of_unposted hx
        have next : e = nextCharge ⟨true, z.s, z.u, z.l, 0, tab.q⟩ x := by
          rw [nextCharge_of_cal ucal utariff, charge, wcal, charge']
        have upurse : x.meter.purse = { s.meter.purse with c := s.meter.purse.c + z.s } := by
          rw [umeter, ← wmeter]
          rfl
        have total : x.tally.chargeTotal = min 9999999 (s.tally.chargeTotal + z.s) := by
          rw [tally_of_unposted hx, ← wtally]
          rfl
        have units : x.meter.units = 0 := by rw [umeter]; rfl
        have xtaken := taken.money (moneyOnly_of hx rfl)
        refine ⟨fun hcov low hlow => ?_, fun hshort => ?_⟩
        · rw [decide_eq_false (Nat.not_lt.mpr hcov)] at hx
          have charged : unposted (unitTest ⟨true, z.s, z.u, z.l, 0, tab.q⟩ x)
              = unposted (unitCharged ⟨true, z.s, z.u, z.l, 0, tab.q⟩ e low x) := by
            have := unitTest_charged (s := x) next (by rw [units]; simp) (by rw [upurse]; exact hcov)
            rw [upurse, ← hlow] at this
            exact this
          rw [← body'] at charged
          have tmeter := meter_of_unposted charged
          have tpurse : (answerBody s).meter.purse
              = { s.meter.purse with c := s.meter.purse.c + z.s + e } := by
            rw [tmeter]
            unfold unitCharged chargedBy warned unitCounted
            dsimp only
            rw [upurse]
          have tmetered : (answerBody s).meter.metered ≠ none := by
            rw [tmeter]
            show x.meter.metered ≠ none
            rw [umeter]
            exact fun h => nomatch h
          have ttaken := xtaken.money (moneyOnly_of charged rfl)
          refine leadsWith_stepWith exec_eq ?_ ?_
          · rw [steady_of_unposted charged, steady_unitCharged, steady_of_unposted hx,
              steady_fee_of wsteady, ← steady_unitCharged]
            exact steady_feeUnit rfl
          · rw [stepWith]
            generalize answerBody s = u at tpurse tmetered ttaken
            obtain ⟨f1, -, f3, -⟩ := finish_taken (waiting s) ttaken
            exact ⟨f1, f3, fun ho => (finish_metered _ ttaken.run (by rw [tpurse]; exact ho)
              tmetered).trans tpurse⟩
        · obtain ⟨o, ends⟩ := unitTest_ends next (.inr (by rw [upurse]; exact hshort))
          refine ⟨_, exec_eq, ?_⟩
          rw [stepWith, body', ends, ← total]
          exact callOver_taken _ _ xtaken hcur due seized
  · have ignored : answerBody s = updLine (fun l => { l with answerP := none }) s := by
      unfold answerBody
      dsimp only
      obtain h | ⟨h, hx⟩ := hno
      · rw [h]
      · have late : earlyAnswer s = false := by
          unfold earlyAnswer
          rw [hcur]
          obtain hx | hx | hx := hx
          · simp [hx]
          · simp [hx]
          · simp [idleSender, Option.isSome_iff_ne_none.mpr hx]
        rw [h]
        exact if_neg (by simp [late])
    have away : s.call.station ≠ .idle ∧ s.call.station ≠ .ready ∧ s.call.station ≠ .talking := by
      obtain h | ⟨h, -⟩ := hno <;> simp [h]
    refine leadsWith_stepWith (f := answerBody) exec_eq (by rw [ignored]; rfl) ?_
    rw [stepWith, ignored]
    obtain ⟨v, hv⟩ := calling_finish (s := updLine (fun l => { l with answerP := none }) s) (waiting s) hr
      (.inr (.inl ⟨away.1, away.2.1⟩))
    have station : v.call.station = s.call.station := (congrArg CallCtl.station hv.found_call).trans rfl
    rw [hv.call]
    exact judgeSender_notTalking (by rw [station]; exact away.2.2)
  · have body : answerBody s = answerReport (updLine (fun l => { l with answerP := none }) s) := by
      unfold answerBody
      dsimp only
      rw [hst]
      exact if_pos ⟨hp, hans⟩
    refine leadsWith_stepWith exec_eq (by rw [body]; rfl) ?_
    rw [stepWith, body]
    have report := finish_awaitCentre (u := answerReport (updLine (fun l => { l with answerP := none }) s))
      (waiting s) hr hst hp
    rw [report]
    exact ⟨rfl, rfl, rfl, rfl, hp, rfl⟩

end Sys2Proof.Proofs

/-! Attempts that fall due, and the frames of a report (R108, R152 to R158). -/
namespace Sys2Proof.Proofs
open Sys2Proof.Machine Sys2Proof.Safety Sys2Proof.Laws

section
variable {s t u v : State} {p : Profile}

/-! ### What the digit sender leaves of the claim and the report -/

theorem judgeSender_reportClaim (v : State) : (judgeSender v).call.reportClaim = v.call.reportClaim := by
  have gate : ∀ w : State, (judgeGate w).call.reportClaim = w.call.reportClaim := by
    intro w
    unfold judgeGate
    split
    · rfl
    · split <;> rfl
  have offered : ∀ w : State, (offerDigit w).call.reportClaim = w.call.reportClaim := by
    intro w
    unfold offerDigit
    split
    · split
      · rw [startDigit_call]
      · split
        · rw [startDigit_call]
        · rfl
    · rfl
  have ringback : ∀ w : State, (judgeRingback w).call.reportClaim = w.call.reportClaim := by
    intro w
    unfold judgeRingback
    split
    · split <;> rfl
    · rfl
  have inter : ∀ w : State, (judgeInterDigit w).call.reportClaim = w.call.reportClaim := by
    intro w
    unfold judgeInterDigit
    split
    · split <;> rfl
    · rfl
  have report : ∀ w : State, (offerReport w).call.reportClaim = w.call.reportClaim := by
    intro w
    unfold offerReport
    split
    · split
      · split
        · rw [startDigit_call]
        · rfl
      · split
        · rw [startDigit_call]
        · rfl
      all_goals rfl
    · rfl
  rw [judgeSender, report, inter, ringback, offered, gate]

/-- With no report digit or symbol to send the Report Engine stands. -/
theorem judgeSender_report (hp : v.report.phase ≠ .dialling) (hp' : v.report.phase ≠ .sending) :
    (judgeSender v).report = v.report := by
  have gate : (judgeGate v).report = v.report := by
    unfold judgeGate
    split
    · rfl
    · split <;> rfl
  have offered : ∀ w : State, (offerDigit w).report = w.report := by
    intro w
    unfold offerDigit
    split
    · split
      · rw [(startDigit_busy _ _ _).2.2.1]
      · split
        · rw [(startDigit_busy _ _ _).2.2.1]
        · rfl
    · rfl
  have before : (judgeInterDigit (judgeRingback (offerDigit (judgeGate v)))).report = v.report := by
    rw [(judgeInterDigit_line _).2, (judgeRingback_sender _).2, offered, gate]
  rw [judgeSender, offerReport_still (by rw [before]; exact hp) (by rw [before]; exact hp'), before]

/-! ### The claim raised and granted (R108, R153, R154) -/

theorem calTime_of_steady (h : steady t = steady s) : t.cal.time = s.cal.time :=
  show (steady t).cal.time = (steady s).cal.time from congrArg (·.cal.time) h

theorem atReport_steady (s : State) : steady (atReport s) = steady s := by
  rw [atReport, judgeMode_steady, judgeActivationClock_steady, judgeMoney_steady]

/-- The claim that an attempt due raises (R153). -/
theorem claimWanted_due {e : ReportEntry} {q : List ReportEntry} (hd : s.report.due = true)
    (hp : s.report.phase = .noCall) (hc : canReport s = true) (hq : s.report.queue = e :: q) :
    claimWanted s = some e.severity := by
  unfold claimWanted
  rw [if_pos (by simp [hd, hp, hc]), hq]
  rfl

/-- A claim granted: what the Report Engine, the call and the line are (R108, R110, R154). -/
theorem grantReport_granted (hp : s.gate.profile = some p) :
    (grantReport s).call.claim = .report ∧ (grantReport s).call.station = .reporting
      ∧ (grantReport s).call.reportClaim = none ∧ (grantReport s).report.phase = .seize
      ∧ (grantReport s).report.due = false
      ∧ (grantReport s).report.dialled = attemptNumber p s.report.attempt
      ∧ (grantReport s).report.toDial = attemptNumber p s.report.attempt
      ∧ (s.line.state = .released → (grantReport s).report.start = s.cal.time
        ∧ (grantReport s).line.state = .seizing ∧ (grantReport s).line.seize = true
        ∧ (grantReport s).line.loopTimer = some 500)
      ∧ (s.line.state ≠ .released → (grantReport s).report.seized = false
        ∧ (grantReport s).line = { s.line with waiting := true }) := by
  unfold grantReport
  rw [hp]
  dsimp only
  unfold askSeize
  by_cases hl : s.line.state = .released
  · rw [if_pos (by exact hl)]
    unfold closeSeize
    dsimp only
    rw [if_pos rfl]
    exact ⟨rfl, rfl, rfl, rfl, rfl, rfl, rfl, fun _ => ⟨rfl, rfl, rfl, rfl⟩, fun h => absurd hl h⟩
  · rw [if_neg (by exact hl)]
    exact ⟨rfl, rfl, rfl, rfl, rfl, rfl, rfl, fun h => absurd h hl, fun _ => ⟨rfl, rfl⟩⟩

/-- An attempt due as the report claim is judged. -/
theorem atReport_due {e : ReportEntry} {q : List ReportEntry} (hprof : s.gate.profile = some p)
    (hd : s.report.due = true) (hph : s.report.phase = .noCall) (hnum : p.primary ≠ [])
    (hq : s.report.queue = e :: q) : claimWanted (atReport s) = some e.severity := by
  have hu := atReport_unjudged s
  have report := report_of_unjudged hu
  have profile := profile_of_unjudged hu
  have can : canReport (atReport s) = true := by
    unfold canReport
    rw [profile, hprof]
    simpa using hnum
  exact claimWanted_due (by rw [report]; exact hd) (by rw [report]; exact hph) can
    (by rw [report]; exact hq)

/-- A claim granted at the end of a step. -/
theorem finish_granted {e : ReportEntry} {q : List ReportEntry} (n : Nat) (hr : s.sys.part = .running)
    (hprof : s.gate.profile = some p) (hd : s.report.due = true) (hph : s.report.phase = .noCall)
    (hnum : p.primary ≠ []) (hq : s.report.queue = e :: q) (hcl : s.call.claim = .free)
    (hst : s.call.station = .idle
      ∨ (e.severity = 3 ∧ s.call.station = .ready ∧ s.meter.purse.state = .absent)) :
    ∃ w, (finish n s).call = (withoutInterDigit (grantReport w)).call
      ∧ (finish n s).line = (grantReport w).line ∧ (finish n s).report = (grantReport w).report
      ∧ w.gate.profile = s.gate.profile ∧ w.report = s.report ∧ w.line = s.line
      ∧ w.cal.time = s.cal.time := by
  have hu := atReport_unjudged s
  have wanted := atReport_due hprof hd hph hnum hq
  have claim : (atReport s).call.claim = .free := by rw [atReport_call, ← hcl]
  have station := atReport_station s
  have profile := profile_of_unjudged hu
  have report := report_of_unjudged hu
  have line := line_of_unjudged hu
  have cal := calTime_of_steady (atReport_steady s)
  have meter := atReport_meter s
  have settled : settle s = judgeSender (judgeReport (atReport s)) := settle_eq hr
  generalize atReport s = A at *
  have grants : mayGrant e.severity A = true := by
    unfold mayGrant
    rw [claim, station]
    obtain h | ⟨h3, hready, habs⟩ := hst
    · rw [h]; rfl
    · have none_ : (judgeMoney s).meter.purse.state = .absent := by
        obtain h | ⟨h, h'⟩ := judgeMoney_figures s
        · rw [h]; rfl
        · have still : judgeDemand (settleOnHook s) = setDemand .idle s := by
            have hook : settleOnHook s = s := by simp [settleOnHook, beginSettlement, habs]
            rw [hook]
            unfold judgeDemand
            simp only [habs]
          unfold judgeMoney
          split
          · rw [(startLane_meter _).2, still]
            exact habs
          · exact habs
      have closed : purseOpen A = false := by
        have purse : A.meter.purse.state = .absent := by rw [meter]; exact none_
        simp [purseOpen, purse]
      rw [closed, hready, h3]
      rfl
  have judged : judgeReport A = grantReport (withClaim (some e.severity) A) := by
    have same : mayGrant e.severity (withClaim (some e.severity) A) = mayGrant e.severity A := rfl
    unfold judgeReport
    dsimp only
    rw [wanted]
    exact if_pos (same.trans grants)
  generalize hB : withClaim (some e.severity) A = B at judged
  have bprof : B.gate.profile = s.gate.profile := by rw [← hB]; exact profile
  have breport : B.report = s.report := by rw [← hB]; exact report
  have bline : B.line = s.line := by rw [← hB]; exact line
  have bcal : B.cal.time = s.cal.time := by rw [← hB]; exact cal
  obtain ⟨-, gst, -, gph, -⟩ := grantReport_granted (bprof.trans hprof)
  have sender : judgeSender (grantReport B) = withoutInterDigit (grantReport B) := by
    rw [judgeSender_reporting gst]
    exact offerReport_still (s := withoutInterDigit (grantReport B))
      (by show (grantReport B).report.phase ≠ _; rw [gph]; simp)
      (by show (grantReport B).report.phase ≠ _; rw [gph]; simp)
  rw [judged, sender] at settled
  exact ⟨B, by rw [finish_call, settled], by rw [finish_line, settled]; rfl,
    by rw [finish_report, settled]; rfl, bprof, breport, bline, bcal⟩

/-- A claim that stands at the end of a step. -/
theorem finish_claimStands {e : ReportEntry} {q : List ReportEntry} (n : Nat) (hr : s.sys.part = .running)
    (hprof : s.gate.profile = some p) (hd : s.report.due = true) (hph : s.report.phase = .noCall)
    (hnum : p.primary ≠ []) (hq : s.report.queue = e :: q)
    (hno : s.call.claim ≠ .free ∨ (s.call.station ≠ .idle ∧ s.call.station ≠ .ready)
      ∨ (s.call.station = .ready ∧ (e.severity ≠ 3
        ∨ (s.meter.purse.state = .opened ∧ s.call.hook = true)
        ∨ (s.meter.purse.state ≠ .absent ∧ s.coin.escrow ≠ [])))) :
    (finish n s).report = s.report ∧ (finish n s).call.reportClaim = some e.severity
      ∧ (finish n s).call.claim = s.call.claim := by
  have hu := atReport_unjudged s
  have wanted := atReport_due hprof hd hph hnum hq
  have call := atReport_call s
  have report := report_of_unjudged hu
  have meter := atReport_meter s
  have settled : settle s = judgeSender (judgeReport (atReport s)) := settle_eq hr
  generalize atReport s = A at *
  have claim : A.call.claim = s.call.claim := by rw [call]
  have station : A.call.station = s.call.station := by rw [call]
  have refuses : mayGrant e.severity A = false := by
    unfold mayGrant
    rw [claim, station]
    obtain h | ⟨h, h'⟩ | ⟨hready, h⟩ := hno
    · simp [h]
    · simp [h, h']
    · rw [hready]
      obtain h | ⟨ho, hh⟩ | ⟨ha, he⟩ := h
      · simp [h]
      · have opened : purseOpen A = true := by
          rw [purseOpen, meter, judgeMoney_open ho hh, ho]
          rfl
        simp [opened]
      · have kept := (judgeMoney_goesOn s ha he).2.1
        have opened : purseOpen A = true := by
          obtain ⟨-, -, -, -, -, hs, -⟩ := kept
          rw [purseOpen, meter]
          simpa using hs
        simp [opened]
  have judged := judgeReport_ungranted (s := A) (fun sev hs => by
    rw [wanted] at hs
    rwa [← Option.some.inj hs])
  rw [wanted] at judged
  have phase : (withClaim (some e.severity) A).report.phase = .noCall := by
    show A.report.phase = _
    rw [report, hph]
  have stands := judgeSender_report (v := withClaim (some e.severity) A) (by simp [phase]) (by simp [phase])
  have raised := judgeSender_reportClaim (withClaim (some e.severity) A)
  have kept := judgeSender_claim (withClaim (some e.severity) A)
  rw [judged] at settled
  refine ⟨?_, ?_, ?_⟩
  · rw [finish_report, settled, stands]
    exact report
  · rw [finish_call, settled, raised]
    rfl
  · rw [finish_call, settled, kept]
    exact claim

/-- NEW ROUND DUE: the queue and the channels it leaves (R152). -/
theorem newRound_rest (s : State) : (newRoundBody s).report.round = .inRound
    ∧ (newRoundBody s).report.attempt = 1 ∧ (newRoundBody s).report.nextDue = none
    ∧ (newRoundBody s).report.queue = s.report.queue.map unfailed
    ∧ (∀ ch, getChan ch (newRoundBody s)
        = if s.report.queue.any (fun f => f.failed && f.code == channelCode ch)
          then { getChan ch s with status := .queued } else getChan ch s)
    ∧ (newRoundBody s).coin = s.coin ∧ (newRoundBody s).mem = s.mem := by
  obtain ⟨h, -, hc⟩ := requeueFailed_rest s
  have queue := congrArg Report.queue (report_of_unposted h)
  have coin : (requeueFailed s).coin = s.coin := (coin_of_unposted h).trans rfl
  have mem : (requeueFailed s).mem = s.mem := (mem_of_unposted h).trans rfl
  exact ⟨rfl, rfl, rfl, queue, hc, coin, mem⟩

theorem queueOf_steady (h : steady t = steady s) : t.report.queue = s.report.queue
    ∧ t.report.round = s.report.round ∧ t.report.attempt = s.report.attempt
    ∧ t.report.nextDue = s.report.nextDue := by
  have report : (steady t).report = (steady s).report := congrArg State.report h
  have queue := congrArg Report.queue report
  have round := congrArg Report.round report
  have attempt := congrArg Report.attempt report
  have due := congrArg Report.nextDue report
  exact ⟨queue, round, attempt, due⟩

/-- The state in which an attempt that has fallen due is judged. -/
def attemptRaised (due : Bool) (s : State) : State :=
  { s with report := { s.report with due := due, nextDue := none } }

theorem attemptDue_step (hr : s.sys.part = .running) (hdue : timerDue s.report.nextDue = true)
    (hround : s.report.round = .inRound) : exec .attemptDue s = .next (stepWith (fun s =>
      updReport (fun r => { r with due := canReport s, nextDue := none }) s) s) :=
  dueStep hr (by simp [hdue, hround])

theorem attemptDue_body (s : State) : updReport (fun r => { r with due := canReport s, nextDue := none }) s
    = attemptRaised (canReport s) s := rfl

end

/-- Settles O58. -/
theorem attemptsFallDue : Obligations.AttemptsFallDue := by
  intro s p hr hp hdue hph
  refine ⟨fun hround => ⟨fun hnum => ?_, fun e q hnum hq => ⟨fun hcl hst => ?_, fun hno => ?_⟩⟩,
    fun hround => ?_⟩
  · have exec_eq := attemptDue_step hr hdue hround
    have can : canReport s = false := by simp [canReport, hp, hnum]
    refine leadsWith_stepWith exec_eq (by rw [attemptDue_body, can]; rfl) ?_
    rw [stepWith, attemptDue_body, can]
    have quiet : noReport (attemptRaised false s) := ⟨rfl, hph⟩
    have claim := finish_claim (s := attemptRaised false s) (waiting s) hr (.inl quiet)
    obtain ⟨v, hv⟩ := calling_finish (s := attemptRaised false s) (waiting s) hr (.inl quiet)
    have report := judgeSender_report (v := v) (by rw [hv.found_report, quiet.2]; simp)
      (by rw [hv.found_report, quiet.2]; simp)
    rw [hv.report, report, hv.found_report, claim]
    exact ⟨rfl, rfl, hph⟩
  · have can : canReport s = true := by simpa [canReport, hp] using hnum
    refine leadsWith_stepWith (attemptDue_step hr hdue hround) (by rw [attemptDue_body, can]; rfl) ?_
    rw [stepWith, attemptDue_body, can]
    obtain ⟨w, fcall, fline, freport, wprof, wreport, wline, wcal⟩ := finish_granted
      (s := attemptRaised true s) (waiting s) hr hp rfl hph hnum hq hcl hst
    generalize finish (waiting s) (attemptRaised true s) = t at *
    obtain ⟨g1, g2, g3, g4, g5, g6, g7, g8, g9⟩ := grantReport_granted (wprof.trans hp)
    have number : attemptNumber p w.report.attempt = if s.report.attempt ≤ 2 ∨ p.secondary = [] then
        p.primary else p.secondary := by rw [wreport]; rfl
    refine ⟨by rw [fcall]; exact g1, by rw [fcall]; exact g2, by rw [fcall]; exact g3,
      by rw [freport, g4], by rw [freport, g5], by rw [freport, g6, number],
      by rw [freport, g7, g6], fun hl => ?_, fun hl => ?_⟩
    · obtain ⟨h1, h2, h3, h4⟩ := g8 (by rw [wline]; exact hl)
      exact ⟨by rw [freport, h1, wcal]; rfl, by rw [fline, h2], by rw [fline, h3], by rw [fline, h4]⟩
    · obtain ⟨h1, h2⟩ := g9 (by rw [wline]; show s.line.state ≠ _; simp [hl])
      rw [freport, fline, h1, h2, wline]
      exact ⟨rfl, hl, rfl, rfl⟩
  · have can : canReport s = true := by simpa [canReport, hp] using hnum
    refine leadsWith_stepWith (attemptDue_step hr hdue hround) (by rw [attemptDue_body, can]; rfl) ?_
    rw [stepWith, attemptDue_body, can]
    obtain ⟨report, raised, claim⟩ := finish_claimStands (s := attemptRaised true s) (waiting s) hr hp rfl
      hph hnum hq hno
    rw [report, raised, claim]
    exact ⟨rfl, rfl, rfl, hph⟩
  · obtain ⟨round, attempt, due, queue, chans, coin, mem⟩ := newRound_rest s
    have exec_eq : exec .newRoundDue s = .next (stepWith newRoundBody s) :=
      dueStep hr (by simp [hdue, hround])
    have st := finish_steady (waiting s) (newRoundBody s)
    refine ⟨_, exec_eq, ?_⟩
    rw [stepWith]
    generalize newRoundBody s = u at *
    generalize finish (waiting s) u = t at st
    obtain ⟨tq, tr, ta, td⟩ := queueOf_steady st
    refine ⟨tr.trans round, ta.trans attempt, td.trans due, tq.trans queue, fun ch hch => ?_,
      fun ch hch => ?_, by rw [escrow_of_steady st, coin], by rw [mem_of_steady st, mem]⟩
    · obtain ⟨e, he, hf, hcode⟩ := hch
      rw [getChan_of_steady st, chans, if_pos]
      exact List.any_eq_true.mpr ⟨e, he, by simp [hf, hcode]⟩
    · rw [getChan_of_steady st, chans, if_neg]
      intro hany
      obtain ⟨e, he, h⟩ := List.any_eq_true.mp hany
      simp only [Bool.and_eq_true, beq_iff_eq] at h
      exact hch e he h.1 h.2

end Sys2Proof.Proofs

/-! The frames of a report (R156 to R158). -/
namespace Sys2Proof.Proofs
open Sys2Proof.Machine Sys2Proof.Safety Sys2Proof.Laws

section
variable {s t u v : State} {p : Profile}

/-- A frame by the figures of its entry's channel, as the snapshot takes them (R157). -/
theorem buildFrame_eq (hp : s.gate.profile = some p) (e : ReportEntry) :
    buildFrame s e = ⟨e.code, frameSymbols (frameDigits p.station s.tally.boxValue
      (((channelOf e.code).map (fun ch => (getChan ch s).trips)).getD 0)
      { e with time := ((channelOf e.code).map (fun ch => (getChan ch s).last)).getD e.time })⟩ := by
  unfold buildFrame
  rw [hp]
  cases channelOf e.code <;> rfl

/-- The digits of a frame, one by one (R157). -/
theorem frameDigits_eq (station : List Nat) (box trips : Nat) (e : ReportEntry) {n b : Nat}
    (hn : n = if e.code = 9 then 0 else min 999 trips)
    (hb : b = if e.code = 1 ∨ e.code = 8 then box else 0) :
    frameDigits station box trips e = station ++ [e.code, e.severity, n / 100 % 10, n / 10 % 10, n % 10,
      e.time.month / 10 % 10, e.time.month % 10, e.time.day / 10 % 10, e.time.day % 10,
      e.time.hour / 10 % 10, e.time.hour % 10, e.time.minute / 10 % 10, e.time.minute % 10,
      b / 1000000 % 10, b / 100000 % 10, b / 10000 % 10, b / 1000 % 10, b / 100 % 10, b / 10 % 10,
      b % 10] := by
  simp [frameDigits, decimal, ← hn, ← hb, Nat.div_div_eq_div_mul]

/-- The snapshot's first symbol is sent at the end of its step. -/
theorem finish_symbol {x : Nat} {q : List Nat} (n : Nat) (hr : u.sys.part = .running)
    (hst : u.call.station = .reporting) (hs : u.line.sender = none) (hp : u.report.phase = .sending)
    (hq : u.report.symbols = x :: q) (hx : x ≠ 12) :
    (finish n u).report = { u.report with symbols := q }
      ∧ (finish n u).line.sender = some ⟨x, .strobe, 0, 80⟩ := by
  obtain ⟨v, hv⟩ := calling_finish (s := u) n hr (.inr (.inl (by simp [hst])))
  have station : v.call.station = .reporting := by rw [hv.found_call]; exact hst
  have sends := offerReport_symbol (v := withoutInterDigit v) (x := x) (q := q)
    (by show v.line.sender = none; rw [hv.found_line, hs])
    (by show v.report.phase = _; rw [hv.found_report, hp])
    (by show v.report.symbols = _; rw [hv.found_report, hq])
  have freport := hv.report
  have fline := hv.line
  rw [judgeSender_reporting station, sends] at freport fline
  generalize finish n u = t at *
  refine ⟨?_, ?_⟩
  · rw [freport, (startDigit_busy _ _ _).2.2.1, ← hv.found_report]
    rfl
  · rw [fline, startDigit_sender, if_neg hx]
    rfl

end

/-- Settles O59. -/
theorem centreToneTakesTheSnapshot : Obligations.CentreToneTakesTheSnapshot := by
  refine ⟨fun s p hr hp hph htimer hs hq hst => ?_, fun station box trips e n b hn hb => ?_⟩
  · have frames : s.report.queue.map (buildFrame s) = s.report.queue.map (fun e =>
        ⟨e.code, frameSymbols (frameDigits p.station s.tally.boxValue
          (((channelOf e.code).map (fun ch => (getChan ch s).trips)).getD 0)
          { e with time := ((channelOf e.code).map (fun ch => (getChan ch s).last)).getD e.time })⟩) :=
      List.map_congr_left fun e _ => buildFrame_eq hp e
    have exec_eq : exec .centreTone s = .next (stepWith takeSnapshot s) := condStep hr ⟨hph, htimer⟩
    obtain ⟨e, l, hq⟩ := List.exists_cons_of_ne_nil hq
    have symbols : ∃ q, (takeSnapshot s).report.symbols = 10 :: q
        ∧ (takeSnapshot s).report.frames.head?.map (·.symbols) = some (10 :: q) := by
      unfold takeSnapshot
      dsimp only
      rw [hq]
      exact ⟨_, rfl, rfl⟩
    obtain ⟨q, hsym, hhead⟩ := symbols
    refine leadsWith_stepWith exec_eq ?_ ?_
    · unfold takeSnapshot
      dsimp only
      rw [frames]
      rfl
    · obtain ⟨freport, fsender⟩ := finish_symbol (u := takeSnapshot s) (waiting s) hr hst hs rfl hsym (by simp)
      rw [stepWith, freport, fsender]
      exact ⟨rfl, rfl, hhead⟩
  · have digits := frameDigits_eq station box trips e hn hb
    refine ⟨checkDigit (frameDigits station box trips e), ?_, Nat.mod_lt _ (by decide), rfl, fun hl => ?_⟩
    · unfold frameSymbols
      generalize checkDigit (frameDigits station box trips e) = c
      rw [digits]
      simp
    · simp [frameSymbols, digits, hl]

end Sys2Proof.Proofs

/-! The end of a report call (R158 to R162). -/
namespace Sys2Proof.Proofs
open Sys2Proof.Machine Sys2Proof.Safety Sys2Proof.Laws

section
variable {s t u v w : State} {p : Profile}

/-! ### The steps of the end (R115, R159 to R162) -/

/-- The Report Engine as the end of its call leaves it. -/
def endedEngine (r : Report) : Report :=
  { r with
    phase := .clearing, answerTimer := none, centreTimer := none, ackTimer := none, seized := false,
    toDial := [], frames := [], pos := 0, symbols := [], answered := false }

/-- The state that the end of a report call leaves, its record apart: the line let go, the claim free and
the station at rest. -/
def reportEnded (s : State) : State :=
  { s with
    call := { s.call with claim := .free, station := restStation s, cur := none },
    line := endedLine s, tamper := { s.tamper with lossTimer := none }, report := endedEngine s.report }

/-- `t` is `s` but for the Record Unit, the counts, the Report Engine, the channels and the posts. -/
def reportsOnly (s t : State) : Prop :=
  unposted t = unposted { s with
    ring := t.ring, tally := t.tally, report := t.report,
    tamper := { s.tamper with chans := t.tamper.chans } }

/-- The Report Engine is not among what `reportsOnly` speaks of. -/
theorem reportsOnly_refl_report (s : State) (r : Report) : reportsOnly s { s with report := r } := rfl

theorem reportsOnly_trans (h : reportsOnly s t) (h' : reportsOnly t u) : reportsOnly s u := by
  have := congrArg (fun x : State => unposted { x with
    ring := u.ring, tally := u.tally, report := u.report,
    tamper := { x.tamper with chans := u.tamper.chans } }) h
  exact h'.trans this

theorem reportsOnly_of_unposted (h : unposted t = unposted s) : reportsOnly s t := by
  rw [reportsOnly, ring_of_unposted h, tally_of_unposted h, report_of_unposted h, tamper_of_unposted h, h]

theorem reportsOnly_of_records (h : recordsOnly s t) : reportsOnly s t := by
  have report : t.report = s.report := (report_of_unposted h).trans rfl
  have tamper : t.tamper = s.tamper := (tamper_of_unposted h).trans rfl
  rw [reportsOnly, report, tamper]
  exact h

theorem reportsOnly_of_chans (h : chansOnly s t) : reportsOnly s t := by
  have report : t.report = s.report := (report_of_unposted h).trans rfl
  have ring : t.ring = s.ring := (ring_of_unposted h).trans rfl
  have tally : t.tally = s.tally := (tally_of_unposted h).trans rfl
  rw [reportsOnly, report, ring, tally]
  exact h

/-- The state in which the record of a report call is handed over (R162). -/
def reportFreed (s : State) : State :=
  { s with
    call := { s.call with claim := .free, station := restStation s, cur := none },
    line := endedLine s, tamper := { s.tamper with lossTimer := none },
    report := { s.report with
      phase := .clearing, answerTimer := none, centreTimer := none, ackTimer := none } }

theorem endReport_freed (o : CallOutcome) (hl : s.line.state ≠ .released)
    (hl' : s.line.state ≠ .clearing) : ∃ v, unposted v = unposted (reportFreed s) ∧ v.gate = s.gate
      ∧ endReport o s = { recordReport o v with report := { (recordReport o v).report with
          seized := false, toDial := [], frames := [], pos := 0, symbols := [], answered := false } } := by
  have line : endedLine s = { s.line with
      state := .clearing, seize := false, waiting := false, loopTimer := none, toneLimit := none,
      tonePeriod := none, loss := none, answerP := none, clearP := none, sender := none,
      guard := seconds (param (·.guardS) s) } := if_neg (by simp [hl, hl'])
  have released : releaseLine { s with line := { s.line with waiting := false } }
      = { s with line := endedLine s, tamper := { s.tamper with lossTimer := none } } := by
    rw [line]
    unfold releaseLine
    rw [if_neg (by simp [hl, hl'])]
    rfl
  have clearing : (endedLine s).state = .clearing := by rw [line]
  refine ⟨touchLive (reportFreed s), rfl, rfl, ?_⟩
  unfold endReport
  rw [released]
  dsimp only
  rw [if_pos clearing]
  rfl

/-- A report's record handed over, if SEIZE was closed (R162). -/
theorem recordReport_only (o : CallOutcome) (s : State) : recordsOnly s (recordReport o s)
    ∧ (recordReport o s).ring.seq = (if s.report.seized then (s.ring.seq + 1) % 65536 else s.ring.seq)
    ∧ postsUpTo 4 s (recordReport o s) := by
  unfold recordReport
  cases s.report.seized with
  | false => exact ⟨rfl, rfl, postsUpTo_still rfl⟩
  | true =>
    obtain ⟨h, hseq, -⟩ := handRecord_only (reportRecord o s) s
    have posts := handRecord_postsUpTo (reportRecord o s) s
    simp only [if_true]
    generalize handRecord (reportRecord o s) s = r at h hseq posts
    have raised := raise_unposted .report 10 (endedDetail r.2 .report o 0) r.1
    exact ⟨recordsOnly_trans h (recordsOnly_of_unposted raised),
      (congrArg CallRing.seq (ring_of_unposted raised)).trans hseq,
      postsUpTo_trans posts (postsUpTo_same (raise_gate _ _ _ _))⟩

/-- A report call ended from a line that is neither RELEASED nor CLEARING. -/
theorem endReport_rest (o : CallOutcome) (hl : s.line.state ≠ .released) (hl' : s.line.state ≠ .clearing) :
    recordsOnly (reportEnded s) (endReport o s)
      ∧ (endReport o s).ring.seq = (if s.report.seized then (s.ring.seq + 1) % 65536 else s.ring.seq)
      ∧ postsUpTo 4 s (endReport o s) := by
  obtain ⟨v, hv, hgate, ended⟩ := endReport_freed o hl hl'
  obtain ⟨only, seq, posts⟩ := recordReport_only o v
  have ring : v.ring = s.ring := (ring_of_unposted hv).trans rfl
  have seized : v.report.seized = s.report.seized := 
    (congrArg Report.seized (report_of_unposted hv)).trans rfl
  rw [ended]
  generalize recordReport o v = x at only seq posts
  have freed : unposted x = unposted { reportFreed s with ring := x.ring, tally := x.tally } := by
    have := congrArg (fun y : State => unposted { y with ring := x.ring, tally := x.tally }) hv
    exact only.trans this
  refine ⟨?_, by rw [← seized, ← ring]; exact seq,
    postsUpTo_trans (postsUpTo_same hgate) (postsUpTo_trans (k := 4) posts (postsUpTo_same rfl))⟩
  have := congrArg (fun y : State => unposted { y with report := { y.report with
    seized := false, toDial := [], frames := [], pos := 0, symbols := [], answered := false } }) freed
  exact this

/-! ### The end of a report call at the end of its step -/

/-- What the end of a report call from `s` leaves in `t`. -/
structure ReportOver (s t : State) : Prop where
  line : t.line.state = .clearing
  seize : t.line.seize = false
  claim : t.call.claim = .free
  cur : t.call.cur = none
  station : t.call.station = if s.call.hook then .ready else .idle
  escrow : t.coin.escrow = s.coin.escrow
  mem : t.mem = s.mem

/-- A state that the end of a report call has left, at the end of its step. -/
theorem reportOver_finish (n : Nat) (hr : s.sys.part = .running) (hl : s.line.state ≠ .released)
    (hl' : s.line.state ≠ .clearing) (h : reportsOnly (reportEnded s) u)
    (hp : u.report.phase = .clearing) : ReportOver s (finish n u) ∧ (finish n u).report = u.report
      ∧ (finish n u).ring = u.ring ∧ (finish n u).tamper.chans = u.tamper.chans := by
  have ucall : u.call = { s.call with claim := .free, station := restStation s, cur := none } :=
    (call_of_unposted h).trans rfl
  have uline : u.line = endedLine s := (line_of_unposted h).trans rfl
  have usys : u.sys = s.sys := (sys_of_unposted h).trans rfl
  have ucoin : u.coin = s.coin := (coin_of_unposted h).trans rfl
  have umem : u.mem = s.mem := (mem_of_unposted h).trans rfl
  have st := finish_steady n u
  obtain ⟨v, hv⟩ := calling_finish n ((congrArg Sys.part usys).trans hr)
    (.inr (.inr (.inr (by rw [hp]; simp))))
  have station : v.call.station = restStation s := by rw [hv.found_call, ucall]
  have phase : v.report.phase = .clearing := by rw [hv.found_report, hp]
  have rest : v.call.station = .idle ∨ v.call.station = .ready := by
    rw [station, restStation]
    split
    · exact .inr rfl
    · exact .inl rfl
  have still : judgeSender v = withoutInterDigit v := by
    refine judgeSender_atRest ?_ ?_ ?_ ?_ ?_ ?_
    · obtain h | h := rest <;> simp [h]
    · obtain h | h := rest <;> simp [h]
    · obtain h | h := rest <;> simp [h]
    · obtain h | h := rest <;> simp [h]
    · simp [phase]
    · simp [phase]
  have fcall := hv.call
  have fline := hv.line
  have freport := hv.report
  rw [still] at fcall fline freport
  have fring := finish_ring n u
  generalize finish n u = t at *
  have line : t.line = endedLine s := fline.trans (hv.found_line.trans uline)
  have ended : (endedLine s).state = .clearing ∧ (endedLine s).seize = false := by
    rw [endedLine, if_neg (by simp [hl, hl'])]
    exact ⟨rfl, rfl⟩
  refine ⟨⟨by rw [line]; exact ended.1, by rw [line]; exact ended.2, ?_, ?_, ?_, ?_, ?_⟩,
    freport.trans hv.found_report, fring, tamper_of_steady st⟩
  · rw [fcall]
    exact (congrArg CallCtl.claim hv.found_call).trans (by rw [ucall])
  · rw [fcall]
    exact (congrArg CallCtl.cur hv.found_call).trans (by rw [ucall])
  · rw [fcall]
    exact station
  · rw [escrow_of_steady st, ucoin]
  · rw [mem_of_steady st, umem]

/-! ### A failed attempt (R152, R160) -/

/-- A failed attempt counted: the next one scheduled, or the round failed. -/
theorem countFailure_rest (h : s.report.round = .inRound) : reportsOnly s (countFailure s)
    ∧ (countFailure s).ring = s.ring ∧ (countFailure s).report.phase = s.report.phase
    ∧ (countFailure s).report.due = false
    ∧ (s.report.attempt < 4 → (countFailure s).report.round = .inRound
      ∧ (countFailure s).report.attempt = s.report.attempt + 1
      ∧ (countFailure s).report.nextDue
        = seconds (param (·.reportBaseS) s * 2 ^ (s.report.attempt - 1))
      ∧ (countFailure s).report.queue = s.report.queue
      ∧ (countFailure s).tamper.chans = s.tamper.chans)
    ∧ (4 ≤ s.report.attempt → (countFailure s).report.round = .failed
      ∧ (countFailure s).report.attempt = 1 ∧ (countFailure s).report.nextDue = some (3600 * 1000)
      ∧ (countFailure s).report.queue = s.report.queue.map (fun e => { e with failed := true })
      ∧ ∀ ch, getChan ch (countFailure s) = if (s.report.queue.map (·.code)).contains (channelCode ch)
          then { getChan ch s with status := .failed } else getChan ch s) := by
  unfold countFailure
  rw [if_neg (by simp [h])]
  by_cases ha : s.report.attempt < 4
  · rw [if_pos ha]
    exact ⟨rfl, rfl, rfl, rfl, fun _ => ⟨h, rfl, rfl, rfl, rfl⟩, fun h4 => absurd ha (Nat.not_lt.mpr h4)⟩
  · rw [if_neg ha]
    dsimp only
    obtain ⟨only, -, chans⟩ := handStatuses_chans .failed (s.report.queue.map (·.code))
      { s with report := { s.report with
          queue := s.report.queue.map (fun e => { e with failed := true }),
          round := .failed, attempt := 1, due := false, nextDue := seconds 3600 } }
    generalize handStatuses .failed (s.report.queue.map (·.code)) { s with report := { s.report with
          queue := s.report.queue.map (fun e => { e with failed := true }),
          round := .failed, attempt := 1, due := false, nextDue := seconds 3600 } } = x at only chans
    have raised := raise_unposted .report 19 (b8 (s.report.queue.map (·.code)).length
      :: shortBytes (hourLater s.cal.time).short) x
    generalize raise .report 19 (b8 (s.report.queue.map (·.code)).length
      :: shortBytes (hourLater s.cal.time).short) x = y at raised
    have xreport := report_of_unposted only
    have yreport := (report_of_unposted raised).trans xreport
    have yring : y.ring = s.ring := (ring_of_unposted raised).trans ((ring_of_unposted only).trans rfl)
    have ychans : ∀ ch, getChan ch y = getChan ch x := fun ch => by
      rw [getChan, tamper_of_unposted raised, getChan]
    have rest : reportsOnly s y := by
      refine reportsOnly_trans (t := { s with report := { s.report with
          queue := s.report.queue.map (fun e => { e with failed := true }),
          round := .failed, attempt := 1, due := false, nextDue := seconds 3600 } }) rfl ?_
      exact reportsOnly_trans (reportsOnly_of_chans only) (reportsOnly_of_unposted raised)
    refine ⟨rest, yring, by rw [yreport], by rw [yreport], fun h4 => absurd h4 ha, fun _ =>
      ⟨by rw [yreport], by rw [yreport], by rw [yreport]; rfl, by rw [yreport], fun ch => ?_⟩⟩
    rw [ychans]
    exact chans ch

/-- A report call that fails, from a state that differs from `s` in the line's timers, the counts and the
posts alone, at the end of its step. -/
theorem failReport_finish {o : CallOutcome} (n : Nat) (hr : s.sys.part = .running)
    (hp : s.gate.profile = some p) (hround : s.report.round = .inRound) (hl : s.line.state ≠ .released)
    (hl' : s.line.state ≠ .clearing)
    (hv : unposted v = unposted { s with line := v.line, tally := v.tally })
    (hline : v.line.state = s.line.state) :
    ∃ t, t = finish n (failReport o v) ∧ ReportOver s t ∧ t.report.phase = .clearing
      ∧ t.report.due = false
      ∧ (s.report.attempt < 4 →
          t.report.round = .inRound ∧ t.report.attempt = s.report.attempt + 1
          ∧ t.report.nextDue = some (p.reportBaseS * 2 ^ (s.report.attempt - 1) * 1000)
          ∧ t.report.queue = s.report.queue.map (fun e => { e with snap := false, renew := false })
          ∧ t.tamper.chans = s.tamper.chans)
      ∧ (4 ≤ s.report.attempt →
          t.report.round = .failed ∧ t.report.attempt = 1 ∧ t.report.nextDue = some (3600 * 1000)
          ∧ t.report.queue = s.report.queue.map
              (fun e => { e with snap := false, renew := false, failed := true })
          ∧ ∀ ch, getChan ch t = if (s.report.queue.map (·.code)).contains (channelCode ch)
              then { getChan ch s with status := .failed } else getChan ch s)
      ∧ t.ring.seq = (if s.report.seized then (s.ring.seq + 1) % 65536 else s.ring.seq) := by
  have vcall : v.call = s.call := (call_of_unposted hv).trans rfl
  have vsys : v.sys = s.sys := (sys_of_unposted hv).trans rfl
  have vreport : v.report = s.report := (report_of_unposted hv).trans rfl
  have vcoin : v.coin = s.coin := (coin_of_unposted hv).trans rfl
  have vmem : v.mem = s.mem := (mem_of_unposted hv).trans rfl
  have vtamper : v.tamper = s.tamper := (tamper_of_unposted hv).trans rfl
  have vring : v.ring = s.ring := (ring_of_unposted hv).trans rfl
  have vprof : v.gate.profile = s.gate.profile := (profile_of_unposted hv).trans rfl
  obtain ⟨only, seq, -⟩ := endReport_rest (s := v) o (by rw [hline]; exact hl) (by rw [hline]; exact hl')
  have failed : failReport o v = countFailure (clearSnaps (endReport o v)) := rfl
  rw [failed]
  generalize endReport o v = e at only seq
  have ereport : e.report = endedEngine s.report := by
    have report : e.report = endedEngine v.report := (report_of_unposted only).trans rfl
    rw [report, vreport]
  have echans : e.tamper.chans = s.tamper.chans := by
    have tamper : e.tamper.chans = v.tamper.chans :=
      (congrArg Tamper.chans (tamper_of_unposted only)).trans rfl
    rw [tamper, vtamper]
  have eprof : e.gate.profile = some p := by
    have prof : e.gate.profile = v.gate.profile := (profile_of_unposted only).trans rfl
    rw [prof, vprof, hp]
  have snaps : reportsOnly (reportEnded v) (clearSnaps e) :=
    reportsOnly_trans (reportsOnly_of_records only) (reportsOnly_refl_report e _)
  have xreport : (clearSnaps e).report = { endedEngine s.report with
      queue := s.report.queue.map (fun e => { e with snap := false, renew := false }) } := by
    unfold clearSnaps
    rw [ereport]
    rfl
  have xring : (clearSnaps e).ring = e.ring := rfl
  have xchans : (clearSnaps e).tamper.chans = e.tamper.chans := rfl
  have xprof : (clearSnaps e).gate.profile = e.gate.profile := rfl
  generalize clearSnaps e = x at *
  obtain ⟨crest, cring, cphase, cdue, cnext, cfail⟩ := countFailure_rest (s := x)
    (by rw [xreport]; exact hround)
  have base : param (·.reportBaseS) x = p.reportBaseS := by unfold param; rw [xprof, eprof]
  have attempt : x.report.attempt = s.report.attempt := by rw [xreport]; rfl
  have queue : x.report.queue = s.report.queue.map (fun e => { e with snap := false, renew := false }) := by
    rw [xreport]
  rw [attempt, base, queue] at cnext
  rw [attempt, queue] at cfail
  have phase : (countFailure x).report.phase = .clearing := by rw [cphase, xreport]; rfl
  obtain ⟨over_, freport, fring, fchans⟩ := reportOver_finish (s := v) n (by rw [vsys]; exact hr)
    (by rw [hline]; exact hl) (by rw [hline]; exact hl') (reportsOnly_trans snaps crest) phase
  generalize countFailure x = y at *
  refine ⟨_, rfl, ⟨over_.line, over_.seize, over_.claim, over_.cur, by rw [over_.station, vcall],
    by rw [over_.escrow, vcoin], by rw [over_.mem, vmem]⟩, by rw [freport, phase], by rw [freport, cdue],
    fun h4 => ?_, fun h4 => ?_, ?_⟩
  · obtain ⟨h1, h2, h3, h5, h6⟩ := cnext h4
    rw [freport, fchans]
    exact ⟨h1, h2, h3, h5, h6.trans (xchans.trans echans)⟩
  · obtain ⟨h1, h2, h3, h5, h6⟩ := cfail h4
    rw [freport]
    refine ⟨h1, h2, h3, ?_, fun ch => ?_⟩
    · rw [h5, List.map_map]
      rfl
    · have old : getChan ch x = getChan ch s := by rw [getChan, xchans, echans, getChan]
      have codes : (s.report.queue.map (fun e => { e with snap := false, renew := false })).map
          (fun e => e.code) = s.report.queue.map (fun e => e.code) := by
        rw [List.map_map]
        rfl
      have ych := h6 ch
      rw [old, codes] at ych
      rw [getChan, fchans, ← getChan]
      exact ych
  · rw [fring, cring, xring, seq, vreport, vring]

/-! ### A report call that succeeds (R159) -/

/-- The entries that remain behind a success, with their marks cleared (R159). -/
def unsent (q : List ReportEntry) : List ReportEntry :=
  (q.filter (fun e => !(e.snap && !e.renew))).map
    (fun e => { e with failed := if e.snap then false else e.failed, snap := false, renew := false })

/-- The codes sent by the snapshot and not renewed since (R159). -/
def sentCodes (q : List ReportEntry) : List Nat := (q.filter (fun e => e.snap && !e.renew)).map (·.code)

theorem succeedReport_rest (hl : s.line.state ≠ .released) (hl' : s.line.state ≠ .clearing) :
    reportsOnly (reportEnded s) (succeedReport s)
      ∧ (succeedReport s).ring.seq
        = (if s.report.seized then (s.ring.seq + 1) % 65536 else s.ring.seq)
      ∧ (succeedReport s).report.phase = .clearing
      ∧ (succeedReport s).report.queue = unsent s.report.queue
      ∧ (succeedReport s).report.attempt = 1 ∧ (succeedReport s).report.nextDue = none
      ∧ (succeedReport s).report.round = (if unsent s.report.queue = [] then .noRound else .inRound)
      ∧ ∀ ch, getChan ch (succeedReport s) = if (sentCodes s.report.queue).contains (channelCode ch)
          then { getChan ch s with status := .sent } else getChan ch s := by
  obtain ⟨only, seq, -⟩ := endReport_rest (s := s) .endedByCaller hl hl'
  have ereport := report_of_unposted only
  have etamper := tamper_of_unposted only
  unfold succeedReport
  dsimp only
  generalize endReport .endedByCaller s = e at only seq ereport etamper
  have queue : e.report.queue = s.report.queue := by rw [ereport]; rfl
  rw [queue]
  obtain ⟨hand, -, chans⟩ := handStatuses_chans .sent (sentCodes s.report.queue)
    { e with report := { e.report with queue := unsent s.report.queue } }
  have hands : handStatuses .sent ((s.report.queue.filter (fun e => e.snap && !e.renew)).map (·.code))
      { e with report := { e.report with
        queue := (s.report.queue.filter (fun e => !(e.snap && !e.renew))).map (fun e => { e with
          failed := if e.snap then false else e.failed, snap := false, renew := false }) } }
      = handStatuses .sent (sentCodes s.report.queue)
        { e with report := { e.report with queue := unsent s.report.queue } } := rfl
  rw [hands]
  generalize handStatuses .sent (sentCodes s.report.queue)
    { e with report := { e.report with queue := unsent s.report.queue } } = x at hand chans
  generalize hy : raise .report 18 _ x = y
  have raised : unposted y = unposted x := by rw [← hy]; exact raise_unposted _ _ _ _
  have xreport : x.report = { e.report with queue := unsent s.report.queue } := report_of_unposted hand
  have yreport := (report_of_unposted raised).trans xreport
  have yring : y.ring = e.ring := (ring_of_unposted raised).trans ((ring_of_unposted hand).trans rfl)
  have ychans : ∀ ch, getChan ch y = getChan ch x := fun ch => by
    rw [getChan, tamper_of_unposted raised, getChan]
  have echans : ∀ ch, getChan ch e = getChan ch s := fun ch => by
    rw [getChan, etamper, getChan]
    rfl
  have rest : reportsOnly (reportEnded s) y := by
    refine reportsOnly_trans (reportsOnly_of_records only) ?_
    refine reportsOnly_trans (reportsOnly_refl_report e { e.report with queue := unsent s.report.queue }) ?_
    exact reportsOnly_trans (reportsOnly_of_chans hand) (reportsOnly_of_unposted raised)
  have yqueue : y.report.queue = unsent s.report.queue := by rw [yreport]
  have yphase : y.report.phase = .clearing := by rw [yreport, ereport]; rfl
  have told : ∀ ch, getChan ch y = if (sentCodes s.report.queue).contains (channelCode ch)
      then { getChan ch s with status := .sent } else getChan ch s := fun ch => by
    have xch := chans ch
    have same : getChan ch { e with report := { e.report with queue := unsent s.report.queue } }
        = getChan ch s := echans ch
    rw [same] at xch
    rw [ychans]
    exact xch
  by_cases hq : unsent s.report.queue = []
  · have empty : y.report.queue.isEmpty = true := by rw [yqueue, hq]; rfl
    rw [if_pos empty, if_pos hq]
    exact ⟨reportsOnly_trans rest (reportsOnly_refl_report y _), by rw [← seq, ← yring]; rfl, yphase,
      yqueue, rfl, rfl, rfl, told⟩
  · have left_ : ¬ y.report.queue.isEmpty = true := by rw [yqueue]; simpa using hq
    rw [if_neg left_, if_neg hq]
    exact ⟨reportsOnly_trans rest (reportsOnly_refl_report y _), by rw [← seq, ← yring], yphase,
      yqueue, rfl, rfl, rfl, told⟩

/-! ### A report call without reports (R152, R161) -/

/-- The state in which a queue left empty before the snapshot ends the report call. -/
def roundEnded (s : State) : State :=
  endRound { s with report := { s.report with queue := [] } }

/-- A queue emptied before the snapshot ends the round and the call (R161). -/
theorem withdrawReport_ends {e : ReportEntry} (hq : s.report.queue = [e]) (hl : s.line.state ≠ .released)
    (hl' : s.line.state ≠ .clearing) (hb : beforeSnapshot s.report.phase = true) :
    reportsOnly (reportEnded (roundEnded s)) (withdrawReport e.code s)
      ∧ (withdrawReport e.code s).ring.seq
        = (if s.report.seized then (s.ring.seq + 1) % 65536 else s.ring.seq)
      ∧ (withdrawReport e.code s).report = { endedEngine s.report with
          queue := [], round := .noRound, attempt := 1, due := false, nextDue := none }
      ∧ grows s (withdrawReport e.code s) := by
  have filtered : s.report.queue.filter (fun f => f.code != e.code) = [] := by simp [hq]
  obtain ⟨only, seq, posts⟩ := endReport_rest (s := roundEnded s) .abandoned hl hl'
  have ereport := report_of_unposted only
  have withdraws : withdrawReport e.code s
      = endRound (clearSnaps (endReport .abandoned (roundEnded s))) := by
    have empty : (clearSnaps (endReport .abandoned (roundEnded s))).report.queue.isEmpty = true := by
      unfold clearSnaps
      dsimp only
      rw [ereport]
      rfl
    unfold withdrawReport abortReport
    dsimp only
    rw [filtered]
    have phase : beforeSnapshot (roundEnded s).report.phase = true := hb
    have round_ : endRound { s with report := { s.report with queue := [] } } = roundEnded s := rfl
    rw [round_, phase, empty]
    rfl
  rw [withdraws]
  generalize endReport .abandoned (roundEnded s) = x at only seq posts ereport
  have marks : reportsOnly (reportEnded (roundEnded s)) (endRound (clearSnaps x)) :=
    reportsOnly_trans (reportsOnly_of_records only) (reportsOnly_refl_report x _)
  refine ⟨marks, seq, ?_, posts.1⟩
  unfold endRound clearSnaps
  dsimp only
  rw [ereport]
  rfl

end

section
variable {s t u v : State} {p : Profile}

/-- What the statement says of a failed attempt, of a step that fails it. -/
theorem attempt_failed {c : Instr} {f : State → State} {o : CallOutcome} (hr : s.sys.part = .running)
    (hp : s.gate.profile = some p) (hround : s.report.round = .inRound) (hl : s.line.state ≠ .released)
    (hl' : s.line.state ≠ .clearing) (hc : exec c s = .next (stepWith f s)) (hf : f s = failReport o v)
    (hv : unposted v = unposted { s with line := v.line, tally := v.tally })
    (hline : v.line.state = s.line.state) :
    ∃ t, exec c s = .next t ∧ t.report.phase = .clearing ∧ t.line.state = .clearing
      ∧ t.line.seize = false ∧ t.call.claim = .free ∧ t.report.due = false
      ∧ t.call.station = (if s.call.hook then .ready else .idle)
      ∧ (s.report.attempt < 4 →
          t.report.round = .inRound ∧ t.report.attempt = s.report.attempt + 1
          ∧ t.report.nextDue = some (p.reportBaseS * 2 ^ (s.report.attempt - 1) * 1000)
          ∧ t.report.queue
              = s.report.queue.map (fun e => { e with snap := false, renew := false })
          ∧ t.tamper.chans = s.tamper.chans)
      ∧ (4 ≤ s.report.attempt →
          t.report.round = .failed ∧ t.report.attempt = 1
          ∧ t.report.nextDue = some (3600 * 1000)
          ∧ t.report.queue = s.report.queue.map
              (fun e => { e with snap := false, renew := false, failed := true })
          ∧ (∀ ch, (∃ e ∈ s.report.queue, e.code = channelCode ch) →
              getChan ch t = { getChan ch s with status := .failed })
          ∧ (∀ ch, (∀ e ∈ s.report.queue, e.code ≠ channelCode ch) →
              getChan ch t = getChan ch s))
      ∧ t.ring.seq = (if s.report.seized then (s.ring.seq + 1) % 65536 else s.ring.seq)
      ∧ t.coin.escrow = s.coin.escrow ∧ t.mem = s.mem := by
  obtain ⟨t, ht, over_, phase, due, next, fail, seq⟩ := failReport_finish (waiting s) (o := o) hr hp hround
    hl hl' hv hline
  refine ⟨t, by rw [hc, ht, stepWith, hf], phase, over_.line, over_.seize, over_.claim, due, over_.station,
    next, fun h4 => ?_, seq, over_.escrow, over_.mem⟩
  obtain ⟨h1, h2, h3, h5, h6⟩ := fail h4
  refine ⟨h1, h2, h3, h5, fun ch ⟨e, he, hcode⟩ => ?_, fun ch hnot => ?_⟩
  · rw [h6, if_pos]
    exact List.contains_iff_mem.mpr (List.mem_map.mpr ⟨e, he, hcode⟩)
  · rw [h6, if_neg]
    intro hcon
    obtain ⟨e, he, hcode⟩ := List.mem_map.mp (List.contains_iff_mem.mp hcon)
    exact hnot e he hcode

end

/-- Settles O60. -/
theorem reportAttemptsEnd : Obligations.ReportAttemptsEnd := by
  refine ⟨fun s hr hph => ⟨fun f hf hs x q hx h12 hst => ?_, fun hlast hl => ?_⟩,
    fun s p c hr hp hc hround hl hl' => ?_, fun s p n d ch e h hp hroom hch hlat hstat hq he hb hl hl' => ?_⟩
  · have exec_eq : exec .ackTone s = .next (stepWith ackBody s) := condStep hr hph
    have more : s.report.pos + 1 < s.report.frames.length := (List.getElem?_eq_some_iff.mp hf).1
    have body : ackBody s = updReport (fun r => { r with
        pos := r.pos + 1, symbols := f.symbols, phase := .sending, ackTimer := none }) s := by
      unfold ackBody
      rw [if_pos more]
      unfold updReport
      dsimp only
      rw [hf]
      rfl
    refine leadsWith_stepWith exec_eq (by rw [body]; rfl) ?_
    rw [stepWith, body]
    obtain ⟨freport, fsender⟩ := finish_symbol (u := updReport (fun r => { r with
      pos := r.pos + 1, symbols := f.symbols, phase := .sending, ackTimer := none }) s) (waiting s) hr hst hs
      rfl hx h12
    rw [freport, fsender]
    exact ⟨rfl, rfl, rfl⟩
  · have exec_eq : exec .ackTone s = .next (stepWith ackBody s) := condStep hr hph
    have body : ackBody s = succeedReport s := if_neg (Nat.not_lt.mpr hlast)
    have h1 : s.line.state ≠ .released := by simp [hl]
    have h2 : s.line.state ≠ .clearing := by simp [hl]
    obtain ⟨only, seq, phase, queue, attempt, due, round, chans⟩ := succeedReport_rest h1 h2
    obtain ⟨over_, freport, fring, fchans⟩ := reportOver_finish (waiting s) hr h1 h2 only phase
    refine ⟨_, exec_eq, ?_⟩
    rw [stepWith, body]
    generalize succeedReport s = u at *
    generalize finish (waiting s) u = t at *
    have told : ∀ c, getChan c t = getChan c u := fun c => by rw [getChan, fchans, getChan]
    refine ⟨by rw [freport, phase], over_.line, over_.seize, over_.claim, over_.cur, over_.station,
      by rw [freport, queue]; rfl, by rw [freport, attempt], by rw [freport, due],
      by rw [freport, round, queue], fun c ⟨e, he, hsnap, hrenew, hcode⟩ => ?_, fun c hnot => ?_,
      by rw [fring, seq], over_.escrow, over_.mem⟩
    · rw [told, chans, if_pos]
      exact List.contains_iff_mem.mpr (List.mem_map.mpr
        ⟨e, List.mem_filter.mpr ⟨he, by simp [hsnap, hrenew]⟩, hcode⟩)
    · rw [told, chans, if_neg]
      intro hcon
      obtain ⟨e, he, hcode⟩ := List.mem_map.mp (List.contains_iff_mem.mp hcon)
      exact hnot e (List.mem_filter.mp he).1 hcode
  · obtain ⟨rfl, hph⟩ | ⟨rfl, hph, hd⟩ | ⟨rfl, hph, hd⟩ | ⟨rfl, hst, hd, hcl⟩ | ⟨rfl, hst, hd, hcl⟩
      | ⟨rfl, hph, hst, hd⟩ | ⟨rfl, hd, hpast, hloop, hcl⟩ | ⟨rfl, hd, hst, hans, hph⟩ := hc
    · exact attempt_failed (v := s) hr hp hround hl hl' (condStep hr hph) rfl rfl rfl
    · exact attempt_failed (v := s) hr hp hround hl hl' (condStep hr ⟨hph, hd⟩) rfl rfl rfl
    · exact attempt_failed (v := s) hr hp hround hl hl' (condStep hr ⟨hph, hd⟩) rfl rfl rfl
    · have body : noLineBody s = failReport .noLine s := if_pos hcl
      exact attempt_failed (v := s) hr hp hround hl hl' (condStep hr ⟨hst, hd⟩) body rfl rfl
    · have body : noToneBody s = failReport .noDialTone s := if_pos hcl
      exact attempt_failed (v := s) hr hp hround hl hl' (condStep hr ⟨hst, hd⟩) body rfl rfl
    · have body : answerLimitBody s = failReport .noAnswer s := by
        unfold answerLimitBody
        rw [if_neg (by simp [hst]), if_pos ⟨hph, hd⟩]
      exact attempt_failed (v := s) hr hp hround hl hl' (runningStep hr) body rfl rfl
    · have body : lossBody s = failReport .lineLost
          (updTally (fun t => { t with lineLost := inc16 t.lineLost }) s) := if_pos hcl
      exact attempt_failed (c := .lineLoss) (f := lossBody)
        (v := updTally (fun t => { t with lineLost := inc16 t.lineLost }) s) hr hp hround hl hl'
        (dueStep hr (by simp [hd, hpast, hloop])) body rfl rfl
    · have ends : clearable s.report = true := by
        unfold clearable
        obtain h | h | h := hph <;> simp [hans, h]
      have body : clearBody s = failReport .farEnd (updLine (fun l => { l with clearP := none }) s) := by
        simp only [clearBody, hst, ends, if_true]
      exact attempt_failed (c := .farEndClear) (f := clearBody)
        (v := updLine (fun l => { l with clearP := none }) s) hr hp hround hl hl' (dueStep hr hd) body rfl rfl
  · have body : clearOrder n d s = answer n .done (getChan ch s).trips
        (giveRewrite .tamper (withdrawReport e.code (chanCleared p ch s))) := by
      simp only [clearOrder, hch, channelOf_channelCode, hlat]
      rw [clearChannel_eq hp, clearedReports, if_pos hstat, he]
    obtain ⟨only, seq, report, posts⟩ := withdrawReport_ends (s := chanCleared p ch s) (e := e) hq hl hl'
      (by obtain h | h | h | h := hb <;> (show beforeSnapshot s.report.phase = true; rw [h]; rfl))
    generalize withdrawReport e.code (chanCleared p ch s) = w at body only seq report posts
    have given := giveRewrite_unposted .tamper w
    have grown : grows s (giveRewrite .tamper w) :=
      grows_trans (grows_from posts rfl) (giveRewrite_grows .tamper w)
    generalize giveRewrite .tamper w = g at body given grown
    have wprof : w.gate.profile = some p := ((profile_of_unposted only).trans rfl).trans hp
    have ans := fun k => finish_answer_inTurn hp grown ((profile_of_unposted given).trans wprof) k n .done
      (getChan ch s).trips
    have un := answer_unposted n .done (getChan ch s).trips g
    generalize answer n .done (getChan ch s).trips g = u at body ans un
    have answered_ : unposted u = unposted (answering w) := un.trans (answering_unposted given)
    have ureport : u.report = w.report := (report_of_unposted answered_).trans rfl
    have uring : u.ring = w.ring := (ring_of_unposted answered_).trans rfl
    have after : reportsOnly (reportEnded (answering (roundEnded (chanCleared p ch s)))) u := by
      have tally : u.tally = w.tally := (tally_of_unposted answered_).trans rfl
      have tamper : u.tamper = w.tamper := (tamper_of_unposted answered_).trans rfl
      have := congrArg (fun y : State => unposted (answering y)) only
      rw [reportsOnly, ureport, uring, tally, tamper, answered_]
      exact this
    have unmet : firstUnmet (always s) = none := rfl
    have phase : u.report.phase = .clearing := by rw [ureport, report]; rfl
    obtain ⟨over_, freport, fring, -⟩ := reportOver_finish
      (s := answering (roundEnded (chanCleared p ch s))) (waiting u) h.1 hl hl' after phase
    have ans_ := (ans (waiting u)).2
    refine ⟨finish (waiting u) u, ?_, ans_, ?_⟩
    · rw [← body]
      exact congrArg Host.Outcome.next (carryOut_owner h unmet)
    generalize finish (waiting u) u = t at *
    refine ⟨by rw [freport, ureport, report], by rw [freport, phase], by rw [freport, ureport, report],
      by rw [freport, ureport, report], by rw [freport, ureport, report], by rw [freport, ureport, report],
      over_.line, over_.seize, over_.claim, over_.station, ?_, over_.escrow, over_.mem⟩
    rw [fring, uring, seq]
    rfl

end Sys2Proof.Proofs

/-! Digits read from bytes and their analysis (R63 to R66, R95, R96). -/
namespace Sys2Proof.Proofs
open Sys2Proof.Machine Sys2Proof.Safety Sys2Proof.Laws

section
variable {s t u v w : State} {p : Profile}

/-! ### Packed digits read (section 0.5.4) -/

theorem natAt_eq (bs : List Byte) (i : Nat) : natAt bs i = u8 bs i := rfl

theorem unpackDigits_range (bs : List Byte) :
    unpackDigits bs = (List.range (2 * bs.length)).map (digitCode bs 0) := by
  induction bs with
  | nil => rfl
  | cons b bs ih =>
    have shift : ∀ j, digitCode (b :: bs) 0 (j + 2) = digitCode bs 0 j := by
      intro j
      have half : (j + 2) / 2 = j / 2 + 1 := by omega
      have par : (j + 2) % 2 = j % 2 := by omega
      simp [digitCode, half, par, u8]
    have unfold_ : unpackDigits (b :: bs) = b.toNat % 16 :: b.toNat / 16 :: unpackDigits bs := by
      simp [unpackDigits]
    have len : 2 * (b :: bs).length = 2 * bs.length + 1 + 1 := by simp; omega
    rw [unfold_, ih, len, List.range_succ_eq_map, List.range_succ_eq_map]
    simp only [List.map_cons, List.map_map]
    refine congr (congrArg List.cons rfl) (congr (congrArg List.cons rfl) ?_)
    exact List.map_congr_left fun j _ => (shift j).symm

/-- The codes of a field are its digit codes in order. -/
theorem codesAt_range {bs : List Byte} {i k : Nat} (h : i + k ≤ bs.length) :
    codesAt bs i k = (List.range (2 * k)).map (digitCode bs i) := by
  have len : ((bs.drop i).take k).length = k := by simp; omega
  rw [codesAt, unpackDigits_range, len]
  refine List.map_congr_left fun j hj => ?_
  have hk : j / 2 < k := by have := List.mem_range.mp hj; omega
  have same : u8 ((bs.drop i).take k) (0 + j / 2) = u8 bs (i + j / 2) := by
    simp [u8, List.getD, hk]
  rw [digitCode, digitCode, same]

/-! ### The checks of DIAL and DIAL MORE (R95, R96) -/

theorem dialDigits_range {d : List Byte} (hd : d.length = 28) (hc : u8 d 2 ≤ 24) :
    dialDigits d = (List.range (u8 d 2)).map (digitCode d 4) := by
  rw [dialDigits, codesAt_range (by omega), ← List.map_take, List.take_range, natAt_eq]
  congr 2
  omega

/-- The first counted digit that fails a check. -/
theorem badDigit_first {good : Nat → Bool} {d : List Byte} {i : Nat} (hd : d.length = 28)
    (hc : u8 d 2 ≤ 24) (hi : i < u8 d 2) (hbad : good (digitCode d 4 i) = false)
    (hfirst : ∀ j < i, good (digitCode d 4 j) = true) : badDigit good d = some (4 + i / 2) := by
  have found : (dialDigits d).findIdx? (fun x => !good x) = some i := by
    rw [dialDigits_range hd hc, List.findIdx?_eq_some_iff_getElem]
    refine ⟨by simpa using hi, by simp [hbad], fun j hj => ?_⟩
    simp [hfirst j hj]
  rw [badDigit, found]
  rfl

theorem badDigit_none {good : Nat → Bool} {d : List Byte} (h : ∀ x ∈ dialDigits d, good x = true) :
    badDigit good d = none := by
  have none_ : (dialDigits d).findIdx? (fun x => !good x) = none := by
    rw [List.findIdx?_eq_none_iff]
    intro x hx
    simp [h x hx]
  rw [badDigit, none_]
  rfl

/-- An order whose digits pass every check has no fault. -/
theorem dialFault_none {pulse : Bool} {d : List Byte} (hc : natAt d 2 ≤ 24)
    (h : ∀ x ∈ dialDigits d, x ≤ 12) (hp : pulse = true → ∀ x ∈ dialDigits d, x ≠ 10 ∧ x ≠ 11) :
    dialFault pulse d = none := by
  have codes : badDigit (fun x => decide (x ≤ 12)) d = none :=
    badDigit_none fun x hx => by simpa using h x hx
  unfold dialFault
  rw [if_neg (Nat.not_lt.mpr hc), codes]
  cases pulse with
  | false => rfl
  | true => exact badDigit_none fun x hx => by simp [hp rfl x hx]

/-- A count beyond 24 is the fault at offset 2. -/
theorem dialFault_count {pulse : Bool} {d : List Byte} (h : 24 < u8 d 2) : dialFault pulse d = some 2 :=
  if_pos h

/-- A code beyond 12 is the fault at its byte. -/
theorem dialFault_code {pulse : Bool} {d : List Byte} {i : Nat} (hd : d.length = 28) (hc : u8 d 2 ≤ 24)
    (hi : i < u8 d 2) (hbad : 12 < digitCode d 4 i) (hfirst : ∀ j < i, digitCode d 4 j ≤ 12) :
    dialFault pulse d = some (4 + i / 2) := by
  have codes : badDigit (fun x => decide (x ≤ 12)) d = some (4 + i / 2) :=
    badDigit_first hd hc hi (by simpa using hbad) fun j hj => by simpa using hfirst j hj
  unfold dialFault
  rw [if_neg (by rw [natAt_eq]; exact Nat.not_lt.mpr hc), codes]

/-- In PULSE mode a star or a square is the fault at its byte. -/
theorem dialFault_star {d : List Byte} {i : Nat} (hd : d.length = 28) (hc : u8 d 2 ≤ 24)
    (hi : i < u8 d 2) (hcodes : ∀ j < u8 d 2, digitCode d 4 j ≤ 12)
    (hbad : digitCode d 4 i = 10 ∨ digitCode d 4 i = 11)
    (hfirst : ∀ j < i, digitCode d 4 j ≠ 10 ∧ digitCode d 4 j ≠ 11) :
    dialFault true d = some (4 + i / 2) := by
  have codes : badDigit (fun x => decide (x ≤ 12)) d = none := by
    refine badDigit_none fun x hx => ?_
    rw [dialDigits_range hd hc] at hx
    obtain ⟨j, hj, rfl⟩ := List.mem_map.mp hx
    simpa using hcodes j (List.mem_range.mp hj)
  unfold dialFault
  rw [if_neg (by rw [natAt_eq]; exact Nat.not_lt.mpr hc), codes]
  refine badDigit_first hd hc hi ?_ fun j hj => ?_
  · obtain h | h := hbad <;> simp [h]
  · simp [hfirst j hj]

/-! ### The analysis of a number (R63, R64, R66) -/

theorem any_emergency {q : List Nat → Bool} (p : Profile) :
    (usedEmergency p).any q = true ↔ ∃ e ∈ p.emergency, e ≠ [] ∧ q e = true := by
  simp [usedEmergency, List.any_eq_true]

theorem properPrefix_iff {xs ys : List Nat} : properPrefix xs ys = true ↔ xs <+: ys ∧ xs ≠ ys := by
  unfold properPrefix
  rw [Bool.and_eq_true, List.isPrefixOf_iff_prefix, decide_eq_true_iff]
  constructor
  · rintro ⟨h, hl⟩
    exact ⟨h, fun he => by rw [he] at hl; exact Nat.lt_irrefl _ hl⟩
  · rintro ⟨h, hne⟩
    exact ⟨h, Nat.lt_of_le_of_ne h.length_le fun hl => hne (h.eq_of_length hl)⟩

/-- An emergency number is one (R64 test 1). -/
theorem analyse_emergency {a : Option Tables} {str : List Nat} (h : str ∈ p.emergency) (hne : str ≠ []) :
    analyse p a str = some .emergency := by
  refine if_pos ((any_emergency p).mpr ⟨str, h, hne, ?_⟩)
  simp

/-- The beginning of an emergency number decides nothing yet (R64 test 2). -/
theorem analyse_begins {a : Option Tables} {str : List Nat} (h : str ∉ p.emergency)
    (hb : ∃ e ∈ p.emergency, str <+: e ∧ e ≠ []) : analyse p a str = none := by
  obtain ⟨e, he, hpre, hne⟩ := hb
  unfold analyse
  rw [if_neg, if_pos]
  · exact (any_emergency p).mpr ⟨e, he, hne, properPrefix_iff.mpr ⟨hpre, fun h' => h (h' ▸ he)⟩⟩
  · intro hany
    obtain ⟨f, hf, -, heq⟩ := (any_emergency p).mp hany
    exact h (of_decide_eq_true heq ▸ hf)

/-- A string that begins no emergency number is analysed by the tables (R64 tests 3 and 4, R66). -/
theorem analyse_tables {a : Option Tables} {str : List Nat}
    (h : ∀ e ∈ p.emergency, e ≠ [] → ¬ str <+: e) : analyse p a str = match a with
      | none => some .noTariff
      | some t => if t.prefixes.any (fun e => properPrefix str e.digits) then none
          else some (.zone (longestZone t str)) := by
  have number : ¬ (usedEmergency p).any (fun e => decide (e = str)) = true := by
    intro hany
    obtain ⟨e, he, hne, hq⟩ := (any_emergency p).mp hany
    exact h e he hne (of_decide_eq_true hq ▸ List.prefix_rfl)
  have begins : ¬ (usedEmergency p).any (properPrefix str) = true := by
    intro hany
    obtain ⟨e, he, hne, hq⟩ := (any_emergency p).mp hany
    exact h e he hne (properPrefix_iff.mp hq).1
  exact (if_neg number).trans ((if_neg begins).trans rfl)

/-- One entry of the search for the longest match (R64 test 4). -/
def longer (str : List Nat) (best : Nat × Nat) (e : Prefix) : Nat × Nat :=
  if e.digits.isPrefixOf str && decide (best.1 < e.digits.length) then (e.digits.length, e.zone) else best

theorem longestZone_fold (tab : Tables) (str : List Nat) :
    longestZone tab str = (tab.prefixes.foldl (longer str) (0, tab.defaultZone)).2 := rfl

theorem longer_not {str : List Nat} {best : Nat × Nat} {e : Prefix} (h : ¬ e.digits <+: str) :
    longer str best e = best := by
  refine if_neg fun h' => h ?_
  rw [Bool.and_eq_true, List.isPrefixOf_iff_prefix] at h'
  exact h'.1

theorem longestZone_default {tab : Tables} {str : List Nat}
    (h : ∀ e ∈ tab.prefixes, ¬ e.digits <+: str) : longestZone tab str = tab.defaultZone := by
  have fold : ∀ (l : List Prefix) (best : Nat × Nat), (∀ e ∈ l, ¬ e.digits <+: str) →
      l.foldl (longer str) best = best := by
    intro l
    induction l with
    | nil => exact fun _ _ => rfl
    | cons e l ih =>
      intro best hl
      rw [List.foldl_cons, longer_not (hl e (List.mem_cons_self ..))]
      exact ih best fun f hf => hl f (List.mem_cons_of_mem _ hf)
  rw [longestZone_fold, fold _ _ h]

/-- Where every other matching entry is shorter, or says the same, the search finds the entry. -/
theorem longestZone_entry {tab : Tables} {str : List Nat} {e : Prefix} (he : e ∈ tab.prefixes)
    (hne : e.digits ≠ []) (hpre : e.digits <+: str)
    (hmax : ∀ f ∈ tab.prefixes, f.digits <+: str →
      f.digits.length < e.digits.length ∨ (f.digits = e.digits ∧ f.zone = e.zone)) :
    longestZone tab str = e.zone := by
  have keeps : ∀ (f : Prefix) (best : Nat × Nat),
      (f.digits <+: str → f.digits.length < e.digits.length ∨ (f.digits = e.digits ∧ f.zone = e.zone)) →
      (best.1 < e.digits.length ∨ best = (e.digits.length, e.zone)) →
      ((longer str best f).1 < e.digits.length ∨ longer str best f = (e.digits.length, e.zone))
        ∧ (best = (e.digits.length, e.zone) → longer str best f = (e.digits.length, e.zone)) := by
    intro f best hf hb
    unfold longer
    split
    · next hc =>
      rw [Bool.and_eq_true, List.isPrefixOf_iff_prefix, decide_eq_true_iff] at hc
      obtain h | ⟨hd, hz⟩ := hf hc.1
      · refine ⟨.inl h, fun hbest => ?_⟩
        rw [hbest] at hc
        exact absurd hc.2 (Nat.not_lt.mpr (Nat.le_of_lt h))
      · rw [hd, hz]
        exact ⟨.inr rfl, fun _ => rfl⟩
    · exact ⟨hb, id⟩
  have takes : ∀ best : Nat × Nat, (best.1 < e.digits.length ∨ best = (e.digits.length, e.zone)) →
      longer str best e = (e.digits.length, e.zone) := by
    intro best hb
    unfold longer
    split
    · rfl
    · next hc =>
      obtain h | h := hb
      · exact absurd (by
          rw [Bool.and_eq_true, List.isPrefixOf_iff_prefix, decide_eq_true_iff]
          exact ⟨hpre, h⟩) hc
      · exact h
  have fold : ∀ (l : List Prefix) (best : Nat × Nat),
      (∀ f ∈ l, f.digits <+: str →
        f.digits.length < e.digits.length ∨ (f.digits = e.digits ∧ f.zone = e.zone)) →
      (best.1 < e.digits.length ∨ best = (e.digits.length, e.zone)) →
      (e ∈ l ∨ best = (e.digits.length, e.zone)) →
      l.foldl (longer str) best = (e.digits.length, e.zone) := by
    intro l
    induction l with
    | nil => exact fun best _ _ h => h.resolve_left (by simp)
    | cons f l ih =>
      intro best hl hb hin
      obtain ⟨stays, found⟩ := keeps f best (hl f (List.mem_cons_self ..)) hb
      refine ih _ (fun g hg => hl g (List.mem_cons_of_mem _ hg)) stays ?_
      obtain hin | hin := hin
      · obtain h | h := List.mem_cons.mp hin
        · rw [← h]
          exact .inr (takes best hb)
        · exact .inl h
      · exact .inr (found hin)
  rw [longestZone_fold, fold _ _ hmax (.inl (List.length_pos_iff.mpr hne)) (.inl he)]

/-- What the analysis of a digit comes to, by the digit and by what the string begins or is (R63 to R66). -/
theorem analysis_facts (p : Profile) (a : Option Tables) (tab : Tables) (number str : List Nat) (x : Nat) :
    analyseDigit p a number 12 = none
      ∧ analyseDigit p none number 10 = some .noTariff
      ∧ analyseDigit p none number 11 = some .noTariff
      ∧ analyseDigit p (some tab) number 10 = some (.zone tab.defaultZone)
      ∧ analyseDigit p (some tab) number 11 = some (.zone tab.defaultZone)
      ∧ (x < 10 → analyseDigit p a number x = analyse p a (number.filter (fun y => y != 12)))
      ∧ (str ∈ p.emergency → str ≠ [] → analyse p a str = some .emergency)
      ∧ (str ∉ p.emergency → (∃ e ∈ p.emergency, str <+: e ∧ e ≠ []) → analyse p a str = none)
      ∧ ((∀ e ∈ p.emergency, e ≠ [] → ¬ str <+: e) →
        analyse p none str = some .noTariff
        ∧ ((∃ e ∈ tab.prefixes, str <+: e.digits ∧ str ≠ e.digits) →
          analyse p (some tab) str = none)
        ∧ ((∀ e ∈ tab.prefixes, str <+: e.digits → str = e.digits) →
          analyse p (some tab) str = some (.zone (longestZone tab str))))
      ∧ ((∀ e ∈ tab.prefixes, ¬ e.digits <+: str) → longestZone tab str = tab.defaultZone)
      ∧ (∀ e ∈ tab.prefixes, e.digits ≠ [] → e.digits <+: str →
        (∀ f ∈ tab.prefixes, f.digits <+: str →
          f.digits.length < e.digits.length ∨ (f.digits = e.digits ∧ f.zone = e.zone)) →
        longestZone tab str = e.zone) := by
  refine ⟨rfl, rfl, rfl, rfl, rfl, fun hx => ?_, analyse_emergency, analyse_begins, fun h => ⟨?_, ?_, ?_⟩,
    longestZone_default, fun e he hne hpre hmax => longestZone_entry he hne hpre hmax⟩
  · unfold analyseDigit
    rw [if_neg (by omega), if_neg (by omega)]
    rfl
  · rw [analyse_tables h]
  · rintro ⟨e, he, hpre⟩
    rw [analyse_tables h]
    exact if_pos (List.any_eq_true.mpr ⟨e, he, properPrefix_iff.mpr hpre⟩)
  · intro hno
    rw [analyse_tables h]
    refine if_neg fun hany => ?_
    obtain ⟨e, he, hq⟩ := List.any_eq_true.mp hany
    obtain ⟨hpre, hne⟩ := properPrefix_iff.mp hq
    exact hne (hno e he hpre)

end

end Sys2Proof.Proofs

/-! Digits accepted (R95, R96, R97). -/
namespace Sys2Proof.Proofs
open Sys2Proof.Machine Sys2Proof.Safety Sys2Proof.Laws

section
variable {s t u v w : State} {p : Profile} {c : CallInfo}

/-! ### Digits that decide nothing (R63, R96) -/

/-- The call in progress with digits joined to its number (R96); its edition is taken at the first
(R88). -/
def numberGrown (ds : List Nat) (edition : Nat) (c : CallInfo) : CallInfo :=
  { c with
    number := c.number ++ ds,
    edition := if c.number.isEmpty && !ds.isEmpty then edition else c.edition }

/-- A state with digits joined to the number and the Dial Queue. -/
def digitsTaken (ds : List Nat) (c : CallInfo) (v : State) : State :=
  { v with call := { v.call with
      dialQueue := v.call.dialQueue ++ ds,
      interDigit := if ds.isEmpty then v.call.interDigit else none,
      cur := some (numberGrown ds (activeEdition v) c) } }

theorem numberGrown_cons (x : Nat) (xs : List Nat) (e : Nat) (c : CallInfo) :
    numberGrown xs e (numberGrown [x] e c) = numberGrown (x :: xs) e c := by
  unfold numberGrown
  have full : (c.number ++ [x]).isEmpty = false := by simp
  simp [full]

/-- One digit accepted while the zone stays undecided. -/
theorem acceptDigit_undecided {x : Nat} (hcur : v.call.cur = some c) (hp : v.gate.profile = some p)
    (hd : c.decided = false) (ha : analyseDigit p (activeTables v) (c.number ++ [x]) x = none) :
    acceptDigit x v = touchLive (digitsTaken [x] c v) := by
  unfold acceptDigit
  rw [hcur, hp]
  dsimp only
  rw [if_neg (by simp [hd]), ha, updCall_cur _ (show ({ v with call := { v.call with
    dialQueue := v.call.dialQueue ++ [x], interDigit := none } } : State).call.cur = some c from hcur)]
  have edition : (if c.number.isEmpty = true then activeEdition v else c.edition)
      = if (c.number.isEmpty && !List.isEmpty [x]) = true then activeEdition v else c.edition := by
    cases c.number.isEmpty <;> rfl
  rw [edition]
  rfl

/-- The digit that decides the zone (R63, R98). -/
theorem acceptDigit_decides {x : Nat} {dec : Decision} (hcur : v.call.cur = some c)
    (hp : v.gate.profile = some p) (hd : c.decided = false)
    (ha : analyseDigit p (activeTables v) (c.number ++ [x]) x = some dec) :
    acceptDigit x v = takeDecision dec (touchLive (digitsTaken [x] c v)) := by
  unfold acceptDigit
  rw [hcur, hp]
  dsimp only
  rw [if_neg (by simp [hd]), ha, updCall_cur _ (show ({ v with call := { v.call with
    dialQueue := v.call.dialQueue ++ [x], interDigit := none } } : State).call.cur = some c from hcur)]
  have edition : (if c.number.isEmpty = true then activeEdition v else c.edition)
      = if (c.number.isEmpty && !List.isEmpty [x]) = true then activeEdition v else c.edition := by
    cases c.number.isEmpty <;> rfl
  rw [edition]
  rfl

/-- A digit can be accepted while the number is undecided and there is room (R96). -/
theorem canAccept_undecided (hcur : v.call.cur = some c) (hst : v.call.station = .dialling)
    (hd : c.decided = false) (hf : c.complete = false) (hq : v.call.dialQueue.length < 24)
    (hn : c.number.length < 24) : canAccept v = true := by
  unfold canAccept
  rw [hcur]
  simp [hst, hd, hf, hq, hn]

/-- Digits that decide nothing are all accepted; those behind them are accepted from there. -/
theorem acceptDigits_undecided (ds : List Nat) : ∀ (v : State) (c : CallInfo),
    v.call.cur = some c → v.gate.profile = some p → v.call.station = .dialling → c.decided = false →
    c.complete = false → v.call.dialQueue.length + ds.length ≤ 24 → c.number.length + ds.length ≤ 24 →
    (∀ l x, l ++ [x] <+: ds → analyseDigit p (activeTables v) (c.number ++ l ++ [x]) x = none) →
    ∃ w, (∀ r, acceptDigits (ds ++ r) v
        = ((acceptDigits r w).1, (acceptDigits r w).2 + ds.length))
      ∧ w.gate = v.gate ∧ unposted w = unposted (digitsTaken ds c v) := by
  induction ds with
  | nil =>
    intro v c hcur hp hst hd hf hq hn ha
    refine ⟨v, fun r => rfl, rfl, ?_⟩
    have grown : numberGrown [] (activeEdition v) c = c := by simp [numberGrown]
    unfold digitsTaken
    rw [grown, ← hcur, List.append_nil]
    rfl
  | cons x xs ih =>
    intro v c hcur hp hst hd hf hq hn ha
    rw [List.length_cons] at hq hn
    have first := acceptDigit_undecided hcur hp hd
      (by simpa using ha [] x ⟨xs, by simp⟩)
    have accepts := canAccept_undecided hcur hst hd hf (by omega) (by omega)
    obtain ⟨w, hw, hgate, hun⟩ := ih (touchLive (digitsTaken [x] c v)) (numberGrown [x] (activeEdition v) c)
      rfl hp hst hd hf (by
        show (v.call.dialQueue ++ [x]).length + xs.length ≤ 24
        rw [List.length_append, List.length_singleton]; omega) (by
        show (c.number ++ [x]).length + xs.length ≤ 24
        rw [List.length_append, List.length_singleton]; omega)
      (fun l y hl => by
        have := ha (x :: l) y (by
          obtain ⟨r, hr⟩ := hl
          exact ⟨r, by rw [← hr]; simp⟩)
        have same : c.number ++ (x :: l) ++ [y] = (c.number ++ [x]) ++ l ++ [y] := by simp
        rw [same] at this
        exact this)
    refine ⟨w, fun r => ?_, hgate, hun.trans ?_⟩
    · rw [List.cons_append, acceptDigits, if_pos accepts, first, hw]
      dsimp only
      rw [List.length_cons, Nat.add_assoc]
    · have call : (digitsTaken xs (numberGrown [x] (activeEdition v) c)
          (touchLive (digitsTaken [x] c v))).call = (digitsTaken (x :: xs) c v).call := by
        have queue : (v.call.dialQueue ++ [x]) ++ xs = v.call.dialQueue ++ x :: xs := by simp
        have timer : (if xs.isEmpty = true then (none : Timer) else none) = none := by split <;> rfl
        have cur := congrArg some (numberGrown_cons x xs (activeEdition v) c)
        have same := congr (congr (congrArg (fun q i k => ({ v.call with
          dialQueue := q, interDigit := i, cur := k } : CallCtl)) queue) timer) cur
        exact same
      exact congrArg (fun k : CallCtl => unposted { v with call := k }) call

/-! ### DIALLING before the line sends (R96, R100) -/

/-- With the line not yet SENDING a call in DIALLING stands, its inter-digit timer stopped. -/
theorem judgeSender_notSending (hst : v.call.station = .dialling) (hl : v.line.state ≠ .sending)
    (hp : v.report.phase ≠ .dialling) (hp' : v.report.phase ≠ .sending) :
    judgeSender v = withoutInterDigit v := by
  have offered : offerDigit v = v := by
    unfold offerDigit
    split
    · rw [if_neg (by simp [mayDial, hl]), if_neg (by simp [mayTone, hst])]
    · rfl
  have ringback : judgeRingback v = v := by
    unfold judgeRingback
    split
    · exact if_neg (by simp [numberSent, hl])
    · rfl
  have inter : judgeInterDigit v = withoutInterDigit v := by
    refine if_neg ?_
    unfold awaitsDigit
    split
    · simp [hl]
    · simp
  rw [judgeSender, judgeGate_still (by simp [hst]), offered, ringback, inter]
  exact offerReport_still (s := withoutInterDigit v) hp hp'

/-- A call in DIALLING before the line sends, at the end of a step. -/
theorem finish_dialling (n : Nat) (hr : u.sys.part = .running) (hst : u.call.station = .dialling)
    (hl : u.line.state ≠ .sending) (hp : u.report.phase ≠ .dialling) (hp' : u.report.phase ≠ .sending) :
    (finish n u).call.station = .dialling ∧ (finish n u).call.claim = u.call.claim
      ∧ (finish n u).call.dialQueue = u.call.dialQueue ∧ (finish n u).call.cur = u.call.cur
      ∧ (finish n u).line = u.line ∧ (finish n u).report = u.report := by
  obtain ⟨v, hv⟩ := calling_finish n hr (.inr (.inl (by simp [hst])))
  have station : v.call.station = .dialling := by rw [hv.found_call, ← hst]
  have still := judgeSender_notSending station (by rw [hv.found_line]; exact hl)
    (by rw [hv.found_report]; exact hp) (by rw [hv.found_report]; exact hp')
  have fcall := hv.call
  have fline := hv.line
  have freport := hv.report
  rw [still] at fcall fline freport
  generalize finish n u = t at *
  have claim := congrArg CallCtl.claim hv.found_call
  have queue := congrArg CallCtl.dialQueue hv.found_call
  have cur := congrArg CallCtl.cur hv.found_call
  exact ⟨by rw [fcall]; exact station, by rw [fcall]; exact claim, by rw [fcall]; exact queue,
    by rw [fcall]; exact cur, fline.trans hv.found_line, freport.trans hv.found_report⟩

/-! ### A call begun (R95, R110) -/

theorem beginCall_steady (s : State) : steady (beginCall s) = steady s := by
  have station : ∀ v : State, steady (setStation .dialling v) = steady v := fun _ => rfl
  unfold beginCall
  rw [station, askSeize_steady]
  rfl

/-- A seizure asked for a caller: made from RELEASED, and waiting otherwise (R110). -/
theorem askSeize_rest (h : s.call.claim ≠ .report) :
    (askSeize s).call = { s.call with cur := if s.line.state = .released then s.call.cur.map (fun c =>
        { c with seized := true, start := s.cal.time, clockInvalid := !s.cal.valid }) else s.call.cur }
      ∧ (s.line.state = .released → (askSeize s).line = { s.line with
          state := .seizing, seize := true, waiting := false, loopTimer := some 500 })
      ∧ (s.line.state ≠ .released → (askSeize s).line = { s.line with waiting := true })
      ∧ (askSeize s).sys = s.sys ∧ (askSeize s).report = s.report ∧ (askSeize s).gate = s.gate
      ∧ (askSeize s).meter = s.meter ∧ (askSeize s).tariff = s.tariff ∧ (askSeize s).cal = s.cal
      ∧ (askSeize s).ring = s.ring ∧ (askSeize s).coin = s.coin ∧ (askSeize s).mem = s.mem := by
  unfold askSeize
  by_cases hl : s.line.state = .released
  · rw [if_pos hl]
    unfold closeSeize
    dsimp only
    rw [if_neg h, if_pos hl]
    exact ⟨rfl, fun _ => rfl, fun h => absurd hl h, rfl, rfl, rfl, rfl, rfl, rfl, rfl, rfl, rfl⟩
  · rw [if_neg hl, if_neg hl]
    exact ⟨rfl, fun h => absurd h hl, fun _ => rfl, rfl, rfl, rfl, rfl, rfl, rfl, rfl, rfl, rfl⟩

/-- The state in which a caller's call asks for its seizure (R95). -/
def callSet (s : State) : State :=
  setCall .undecided { s with call := { s.call with dialQueue := [], claim := .caller } }

/-- A caller's call as DIAL sets it up. -/
theorem beginCall_rest (s : State) : ∃ c, (beginCall s).call = { s.call with
      station := .dialling, claim := .caller, dialQueue := [], cur := some c }
    ∧ c.kind = .undecided ∧ c.zone = none ∧ c.decided = false ∧ c.complete = false
    ∧ c.gatePassed = false ∧ c.number = [] ∧ c.edition = 0 ∧ c.settleDue = false
    ∧ c.seized = (s.line.state == .released)
    ∧ (s.line.state = .released → (beginCall s).line = { s.line with
        state := .seizing, seize := true, waiting := false, loopTimer := some 500 })
    ∧ (s.line.state ≠ .released → (beginCall s).line = { s.line with waiting := true })
    ∧ (beginCall s).sys = s.sys ∧ (beginCall s).report = s.report ∧ (beginCall s).gate = s.gate
    ∧ (beginCall s).meter = s.meter ∧ (beginCall s).tariff = s.tariff ∧ (beginCall s).cal = s.cal
    ∧ (beginCall s).ring = s.ring ∧ (beginCall s).coin = s.coin ∧ (beginCall s).mem = s.mem := by
  have begun : beginCall s = setStation .dialling (askSeize (callSet s)) := rfl
  obtain ⟨call, released, clearing, sys, report, gate, meter, tariff, cal, ring, coin, mem⟩ :=
    askSeize_rest (s := callSet s) (fun h => nomatch h)
  rw [begun]
  have station : ∀ v : State, (setStation .dialling v).call = { v.call with station := .dialling }
      ∧ (setStation .dialling v).line = v.line ∧ (setStation .dialling v).sys = v.sys
      ∧ (setStation .dialling v).report = v.report ∧ (setStation .dialling v).gate = v.gate
      ∧ (setStation .dialling v).meter = v.meter ∧ (setStation .dialling v).tariff = v.tariff
      ∧ (setStation .dialling v).cal = v.cal ∧ (setStation .dialling v).ring = v.ring
      ∧ (setStation .dialling v).coin = v.coin ∧ (setStation .dialling v).mem = v.mem :=
    fun _ => ⟨rfl, rfl, rfl, rfl, rfl, rfl, rfl, rfl, rfl, rfl, rfl⟩
  obtain ⟨h1, h2, h3, h4, h5, h6, h7, h8, h9, h10, h11⟩ := station (askSeize (callSet s))
  rw [h1, h2, h3, h4, h5, h6, h7, h8, h9, h10, h11, call, sys, report, gate, meter, tariff, cal, ring, coin,
    mem]
  have line : (callSet s).line = s.line := rfl
  have cur : (callSet s).call.cur = some (newCall .undecided (Config.freeBand s.fresh)) := rfl
  rw [line] at released clearing ⊢
  rw [cur]
  by_cases hl : s.line.state = .released
  · rw [hl]
    exact ⟨_, rfl, rfl, rfl, rfl, rfl, rfl, rfl, rfl, rfl, rfl, fun _ => released hl, fun h => absurd rfl h,
      rfl, rfl, rfl, rfl, rfl, rfl, rfl, rfl, rfl⟩
  · have other : (s.line.state == LineState.released) = false := by simp [hl]
    rw [other, if_neg hl]
    exact ⟨_, rfl, rfl, rfl, rfl, rfl, rfl, rfl, rfl, rfl, rfl, fun h => absurd h hl, fun _ => clearing hl,
      rfl, rfl, rfl, rfl, rfl, rfl, rfl, rfl, rfl⟩

end

end Sys2Proof.Proofs

/-! DIAL and DIAL MORE (R95, R96, R98, R99, R109). -/
namespace Sys2Proof.Proofs
open Sys2Proof.Machine Sys2Proof.Safety Sys2Proof.Laws

section
variable {s t u v w : State} {p : Profile} {c : CallInfo}

/-! ### Digits that leave the zone undecided -/

theorem steady_digitsTaken (ds : List Nat) (c : CallInfo) (v : State) :
    steady (digitsTaken ds c v) = steady v := rfl

theorem callOnly_digits {ds : List Nat} (h : unposted w = unposted (digitsTaken ds c v)) :
    unposted w = unposted { v with call := w.call } := by
  have call := call_of_unposted h
  rw [call, h]
  rfl

/-- The order answered behind digits that decide nothing, where the line is not SENDING. -/
theorem dialled_finish {ds : List Nat} (k : Nat) (n : Fin 16) (hr : v.sys.part = .running)
    (hst : v.call.station = .dialling) (hl : v.line.state ≠ .sending) (hn : v.report.phase = .noCall)
    (hw : unposted w = unposted (digitsTaken ds c v)) :
    (finish k (answer n .done ds.length w)).call.station = .dialling
      ∧ (finish k (answer n .done ds.length w)).call.claim = v.call.claim
      ∧ (finish k (answer n .done ds.length w)).call.dialQueue = v.call.dialQueue ++ ds
      ∧ (finish k (answer n .done ds.length w)).call.cur = some (numberGrown ds (activeEdition v) c)
      ∧ (finish k (answer n .done ds.length w)).line = v.line := by
  have un := answer_unposted n .done ds.length w
  have wcall := call_of_unposted hw
  have ucall : (answer n .done ds.length w).call = w.call := (call_of_unposted un).trans rfl
  rw [wcall] at ucall
  have only := callOnly_digits hw
  have wline : w.line = v.line := (line_of_unposted only).trans rfl
  have wsys : w.sys = v.sys := (sys_of_unposted only).trans rfl
  have wreport : w.report = v.report := (report_of_unposted only).trans rfl
  have uline : (answer n .done ds.length w).line = v.line := (line_of_unposted un).trans wline
  have usys : (answer n .done ds.length w).sys = v.sys := (sys_of_unposted un).trans wsys
  have ureport : (answer n .done ds.length w).report = v.report := (report_of_unposted un).trans wreport
  generalize answer n .done ds.length w = u at *
  obtain ⟨f1, f2, f3, f4, f5, -⟩ := finish_dialling k ((congrArg Sys.part usys).trans hr)
    (by rw [ucall]; exact hst) (by rw [uline]; exact hl) (by rw [ureport, hn]; simp)
    (by rw [ureport, hn]; simp)
  have claim := congrArg CallCtl.claim ucall
  have queue := congrArg CallCtl.dialQueue ucall
  have cur := congrArg CallCtl.cur ucall
  exact ⟨f1, f2.trans claim, f3.trans queue, f4.trans cur, f5.trans uline⟩

/-- The steady part behind digits that decide nothing. -/
theorem steady_answeringDigits {ds : List Nat} (hw : unposted w = unposted (digitsTaken ds c v))
    (hv : steady v = steady s) : steady (answering w) = steady (answering s) := by
  have same : steady w = steady s := (steady_of_unposted hw).trans ((steady_digitsTaken ds c v).trans hv)
  have := congrArg answering same
  exact this

/-- Digits taken with no complete flag. -/
theorem takeDigits_undecided {ds : List Nat} {n : Fin 16} {d : List Byte} (hds : ds = dialDigits d)
    (hf : natAt d 3 = 0) (hw : ∀ r, acceptDigits (ds ++ r) v
      = ((acceptDigits r w).1, (acceptDigits r w).2 + ds.length)) :
    takeDigits n d v = answer n .done ds.length w := by
  have all := hw []
  rw [List.append_nil] at all
  unfold takeDigits
  rw [← hds, all]
  dsimp only
  rw [if_neg (by simp [dialComplete, hf])]
  simp [acceptDigits]

/-- DIAL in READY with digits that decide nothing. -/
theorem dial_undecided {n : Fin 16} {d : List Byte} {ds : List Nat} (h : orderAt 1 n d s)
    (hp : s.gate.profile = some p) (hroom : roomy s) (hn : noReport s) (hst : s.call.station = .ready)
    (hl : s.line.state = .released ∨ s.line.state = .clearing) (hds : ds = dialDigits d)
    (hc : natAt d 2 ≤ 24) (hf : natAt d 3 = 0) (hcodes : ∀ x ∈ ds, x ≤ 12)
    (hstar : p.pulse = true → ∀ x ∈ ds, x ≠ 10 ∧ x ≠ 11)
    (ha : ∀ l x, l ++ [x] <+: ds → analyseDigit p (s.tariff.active.map (·.2)) (l ++ [x]) x = none) :
    leadsWith .dial s (answering s) (fun t =>
       t.call.station = .dialling ∧ t.call.claim = .caller ∧ t.call.dialQueue = ds
       ∧ (∃ c, t.call.cur = some c ∧ c.number = ds ∧ c.kind = .undecided ∧ c.zone = none
           ∧ c.decided = false ∧ c.complete = false ∧ c.gatePassed = false
           ∧ c.seized = (s.line.state == .released)
           ∧ c.edition = if ds = [] then 0 else activeEdition s)
       ∧ (s.line.state = .released →
           t.line.state = .seizing ∧ t.line.seize = true ∧ t.line.loopTimer = some 500)
       ∧ (s.line.state = .clearing → t.line.state = .clearing ∧ t.line.waiting = true)
       ∧ answered n 1 ds.length s t) := by
  obtain ⟨c, call, ckind, czone, cdec, ccomp, cgate, cnum, ced, -, cseized, released, waits, sys, report,
    gate, -, tariff, -⟩ := beginCall_rest s
  have hv := beginCall_steady s
  have fault : dialFault (pulseMode s) d = none := by
    rw [pulseMode_eq hp]
    exact dialFault_none hc (hds ▸ hcodes) (hds ▸ hstar)
  have len : ds.length ≤ 24 := by
    rw [hds, dialDigits, List.length_take]
    omega
  have body : dialOrder n d s = takeDigits n d (beginCall s) := by
    unfold dialOrder
    rw [fault]
    exact if_neg (by simp [hst])
  generalize beginCall s = v at *
  have tables : activeTables v = s.tariff.active.map (·.2) := by rw [activeTables, tariff]
  obtain ⟨w, hw, wgate, hun⟩ := acceptDigits_undecided (p := p) ds v c (by rw [call]) (by rw [gate]; exact hp)
    (by rw [call]) cdec ccomp (by rw [call]; simpa using len) (by rw [cnum]; simpa using len)
    (fun l x hlx => by rw [tables, cnum, List.nil_append]; exact ha l x hlx)
  refine leadsWith_owner rfl h (by simp [firstUnmet, dialConds, hst])
    (body.trans (takeDigits_undecided hds hf hw)) fun k => ?_
  obtain ⟨hs, hans⟩ := finish_answer (wgate.trans gate) (by simp [hp]) hroom k n .done ds.length
  have sending : v.line.state ≠ .sending := by
    obtain hl | hl := hl
    · rw [released hl]; simp
    · rw [waits (by simp [hl])]; simp [hl]
  obtain ⟨f1, f2, f3, f4, f5⟩ := dialled_finish k n ((congrArg Sys.part sys).trans h.1) (by rw [call]) sending
    (by rw [report]; exact hn.2) hun
  refine ⟨hs.trans (steady_answeringDigits hun hv), f1, by rw [f2, call], by rw [f3, call]; rfl,
    ⟨_, f4, by simp [numberGrown, cnum], ckind, czone, cdec, ccomp, cgate, cseized, ?_⟩,
    fun hl => by rw [f5, released hl]; exact ⟨rfl, rfl, rfl⟩,
    fun hl => by rw [f5, waits (by simp [hl])]; exact ⟨hl, rfl⟩, hans⟩
  have edition : activeEdition v = activeEdition s := by simp only [activeEdition, tariff]
  rw [numberGrown, cnum, ced, edition]
  cases ds <;> simp

end

end Sys2Proof.Proofs

/-! DIAL MORE, its tones, and the digits that are refused (R95, R96). -/
namespace Sys2Proof.Proofs
open Sys2Proof.Machine Sys2Proof.Safety Sys2Proof.Laws

section
variable {s t u v w : State} {p : Profile} {c : CallInfo} {n : Fin 16} {d : List Byte} {ds : List Nat}

theorem conversing_dialling (h : s.call.station = .dialling) : conversing s = false := by
  simp [conversing, h]

theorem conversing_talking (h : s.call.station = .talking ∨ s.call.station = .talkingIn) :
    conversing s = true := by
  obtain h | h := h <;> simp [conversing, h]

/-- DIAL MORE in DIALLING, before the line sends, with digits that decide nothing. -/
theorem dialMore_undecided (h : orderAt 2 n d s) (hp : s.gate.profile = some p) (hroom : roomy s)
    (hn : noReport s) (hcur : s.call.cur = some c) (hds : ds = dialDigits d) (hc : natAt d 2 ≤ 24)
    (hf : natAt d 3 = 0) (hcodes : ∀ x ∈ ds, x ≤ 12) (hst : s.call.station = .dialling)
    (hl : s.line.state ≠ .sending) (hd : c.decided = false) (hcomp : c.complete = false)
    (hnum : c.number.length + ds.length ≤ 24) (hq : s.call.dialQueue.length + ds.length ≤ 24)
    (hstar : p.pulse = true → ∀ x ∈ ds, x ≠ 10 ∧ x ≠ 11)
    (ha : ∀ l x, l ++ [x] <+: ds →
      analyseDigit p (s.tariff.active.map (·.2)) (c.number ++ l ++ [x]) x = none) :
    leadsWith .dialMore s (answering s) (fun t =>
      t.call.station = .dialling ∧ t.call.dialQueue = s.call.dialQueue ++ ds
      ∧ (∃ c', t.call.cur = some c' ∧ c'.number = c.number ++ ds ∧ c'.decided = false)
      ∧ t.line = s.line ∧ answered n 1 ds.length s t) := by
  have fault : dialFault (pulseMode s && !conversing s) d = none := by
    rw [pulseMode_eq hp, conversing_dialling hst, Bool.not_false, Bool.and_true]
    exact dialFault_none hc (hds ▸ hcodes) (hds ▸ hstar)
  have body : dialMoreOrder n d s = takeDigits n d s := by
    unfold dialMoreOrder
    rw [fault]
    exact if_neg (by simp [conversing_dialling hst])
  obtain ⟨w, hw, wgate, hun⟩ := acceptDigits_undecided (p := p) ds s c hcur hp hst hd hcomp hq hnum ha
  refine leadsWith_owner rfl h (by simp [firstUnmet, dialMoreConds, hst])
    (body.trans (takeDigits_undecided hds hf hw)) fun k => ?_
  obtain ⟨hs, hans⟩ := finish_answer wgate (by simp [hp]) hroom k n .done ds.length
  obtain ⟨f1, -, f3, f4, f5⟩ := dialled_finish k n h.1 hst hl hn.2 hun
  exact ⟨hs.trans (steady_answeringDigits hun rfl), f1, f3, ⟨_, f4, rfl, hd⟩, f5, hans⟩

/-- DIAL MORE in TALKING: its digits wait behind the sender as far as there is room. -/
theorem dialMore_talking (h : orderAt 2 n d s) (hp : s.gate.profile = some p) (hroom : roomy s)
    (hn : noReport s) (hcur : s.call.cur = some c) (hds : ds = dialDigits d) (hc : natAt d 2 ≤ 24)
    (hcodes : ∀ x ∈ ds, x ≤ 12) (hst : s.call.station = .talking) (hsender : s.line.sender ≠ none) :
    leadsWith .dialMore s (answering s) (fun t =>
      t.call.station = .talking
      ∧ t.call.dialQueue = s.call.dialQueue ++ ds.take (24 - s.call.dialQueue.length)
      ∧ t.call.cur = some c ∧ t.line = s.line
      ∧ answered n 1 (min (24 - s.call.dialQueue.length) ds.length) s t) := by
  have fault : dialFault (pulseMode s && !conversing s) d = none := by
    rw [conversing_talking (.inl hst), Bool.not_true, Bool.and_false]
    exact dialFault_none hc (hds ▸ hcodes) fun h => nomatch h
  have count : (ds.take (24 - s.call.dialQueue.length)).length
      = min (24 - s.call.dialQueue.length) ds.length := List.length_take
  have body : dialMoreOrder n d s = answer n .done (min (24 - s.call.dialQueue.length) ds.length)
      (queueTones ds s).1 := by
    unfold dialMoreOrder
    rw [fault, ← hds, ← count]
    exact if_pos (conversing_talking (.inl hst))
  refine leadsWith_owner rfl h (by simp [firstUnmet, dialMoreConds, hst]) body fun k => ?_
  have queued : (queueTones ds s).1.gate = s.gate := rfl
  have kept : steady (answering (queueTones ds s).1) = steady (answering s) := rfl
  have call : (queueTones ds s).1.call = { s.call with
      dialQueue := s.call.dialQueue ++ ds.take (24 - s.call.dialQueue.length) } := rfl
  have rest : (queueTones ds s).1.line = s.line ∧ (queueTones ds s).1.sys = s.sys
      ∧ (queueTones ds s).1.report = s.report := ⟨rfl, rfl, rfl⟩
  generalize (queueTones ds s).1 = w at *
  obtain ⟨wline, wsys, wreport⟩ := rest
  obtain ⟨hs, hans⟩ := finish_answer queued (by simp [hp]) hroom k n .done
    (min (24 - s.call.dialQueue.length) ds.length)
  have un := answer_unposted n .done (min (24 - s.call.dialQueue.length) ds.length) w
  have ucall : _ = w.call := (call_of_unposted un).trans rfl
  have uline : _ = w.line := (line_of_unposted un).trans rfl
  have usys : _ = w.sys := (sys_of_unposted un).trans rfl
  have ureport : _ = w.report := (report_of_unposted un).trans rfl
  generalize answer n .done (min (24 - s.call.dialQueue.length) ds.length) w = u at *
  rw [call] at ucall
  obtain ⟨x, hx⟩ := calling_finish k (s := u) (by rw [usys, wsys]; exact h.1)
    (.inl (by simpa [noReport, ureport, wreport] using hn))
  have xcall := hx.found_call
  have xline := hx.found_line
  have still := judgeSender_talking (s := x) (.inl (by rw [xcall, ucall]; exact hst))
    (.inr (by rw [xline, uline, wline]; exact hsender)) (by rw [hx.found_report, ureport, wreport, hn.2]; simp)
    (by rw [hx.found_report, ureport, wreport, hn.2]; simp)
  have fcall := hx.call
  have fline := hx.line
  rw [still] at fcall fline
  have line : (withoutInterDigit x).line = s.line := by
    have : (withoutInterDigit x).line = x.line := rfl
    rw [this, xline, uline, wline]
  have xstation : x.call.station = .talking := by rw [xcall, ucall]; exact hst
  have xqueue : x.call.dialQueue = s.call.dialQueue ++ ds.take (24 - s.call.dialQueue.length) := by
    rw [xcall, ucall]
  have xcur : x.call.cur = some c := by rw [xcall, ucall]; exact hcur
  generalize finish k u = t at *
  exact ⟨hs.trans kept, by rw [fcall]; exact xstation, by rw [fcall]; exact xqueue,
    by rw [fcall]; exact xcur, fline.trans line, hans⟩

/-! ### Digits refused -/

/-- A digit order whose contents are at fault is answered BAD PARAMETER with the offset. -/
theorem dial_fault {off : Nat} (h : orderAt 1 n d s) (hp : s.gate.profile = some p) (hroom : roomy s)
    (hst : s.call.station = .ready ∨ s.call.station = .reporting) (hf : dialFault p.pulse d = some off) :
    leadsWith .dial s (answering s) (answered n 4 off s) := by
  have body : dialOrder n d s = answer n .badParameter off s := by
    unfold dialOrder
    rw [pulseMode_eq hp, hf]
  refine leadsWith_owner rfl h ?_ body fun k => ?_
  · obtain hst | hst := hst <;> simp [firstUnmet, dialConds, hst]
  · exact finish_answer rfl (by simp [hp]) hroom k n .badParameter off

theorem dialMore_fault {off : Nat} (h : orderAt 2 n d s) (hp : s.gate.profile = some p) (hroom : roomy s)
    (hst : s.call.station = .dialling ∨ s.call.station = .creditWait ∨ s.call.station = .talking
      ∨ s.call.station = .talkingIn)
    (hf : dialFault (p.pulse && !conversing s) d = some off) :
    leadsWith .dialMore s (answering s) (answered n 4 off s) := by
  have body : dialMoreOrder n d s = answer n .badParameter off s := by
    unfold dialMoreOrder
    rw [pulseMode_eq hp, hf]
  refine leadsWith_owner rfl h ?_ body fun k => ?_
  · obtain hst | hst | hst | hst := hst <;> simp [firstUnmet, dialMoreConds, hst]
  · exact finish_answer rfl (by simp [hp]) hroom k n .badParameter off

/-- A digit order in a station that takes it, in its mode, whose contents are at fault. -/
theorem digits_fault {i : Instr} {pulse : Bool} {off : Nat} (hp : s.gate.profile = some p) (hroom : roomy s)
    (h : i = .dial ∧ orderAt 1 n d s ∧ (s.call.station = .ready ∨ s.call.station = .reporting)
        ∧ pulse = p.pulse
      ∨ i = .dialMore ∧ orderAt 2 n d s
        ∧ ((s.call.station = .dialling ∨ s.call.station = .creditWait) ∧ pulse = p.pulse
          ∨ (s.call.station = .talking ∨ s.call.station = .talkingIn) ∧ pulse = false))
    (hf : dialFault pulse d = some off) : leadsWith i s (answering s) (answered n 4 off s) := by
  obtain ⟨rfl, ho, hst, rfl⟩ | ⟨rfl, ho, hst⟩ := h
  · exact dial_fault ho hp hroom hst hf
  · obtain ⟨hst, rfl⟩ | ⟨hst, rfl⟩ := hst
    · refine dialMore_fault ho hp hroom (by obtain h | h := hst <;> simp [h]) ?_
      have quiet : conversing s = false := by obtain h | h := hst <;> simp [conversing, h]
      rw [quiet, Bool.not_false, Bool.and_true, hf]
    · refine dialMore_fault ho hp hroom (by obtain h | h := hst <;> simp [h]) ?_
      rw [conversing_talking hst, Bool.not_true, Bool.and_false, hf]

/-- The faults of a digit order by its count and codes (R95, R96). -/
theorem digits_refused {i : Instr} {pulse : Bool} (hp : s.gate.profile = some p) (hroom : roomy s)
    (hd : d.length = 28)
    (h : i = .dial ∧ orderAt 1 n d s ∧ (s.call.station = .ready ∨ s.call.station = .reporting)
        ∧ pulse = p.pulse
      ∨ i = .dialMore ∧ orderAt 2 n d s
        ∧ ((s.call.station = .dialling ∨ s.call.station = .creditWait) ∧ pulse = p.pulse
          ∨ (s.call.station = .talking ∨ s.call.station = .talkingIn) ∧ pulse = false)) :
    (24 < u8 d 2 → leadsWith i s (answering s) (answered n 4 2 s))
    ∧ (u8 d 2 ≤ 24 → ∀ j < u8 d 2,
      (12 < digitCode d 4 j → (∀ k < j, digitCode d 4 k ≤ 12) →
        leadsWith i s (answering s) (answered n 4 (4 + j / 2) s))
      ∧ (pulse = true → (∀ k < u8 d 2, digitCode d 4 k ≤ 12) →
        digitCode d 4 j = 10 ∨ digitCode d 4 j = 11 →
        (∀ k < j, digitCode d 4 k ≠ 10 ∧ digitCode d 4 k ≠ 11) →
        leadsWith i s (answering s) (answered n 4 (4 + j / 2) s))) := by
  refine ⟨fun hc => digits_fault hp hroom h (dialFault_count hc), fun hc j hj =>
    ⟨fun hbad hfirst => digits_fault hp hroom h (dialFault_code hd hc hj hbad hfirst),
      fun hpulse hcodes hbad hfirst => digits_fault hp hroom h ?_⟩⟩
  rw [hpulse]
  exact dialFault_star hd hc hj hcodes hbad hfirst

/-! ### DIAL in REPORTING turned away (R109) -/

theorem isEmergency_iff (hp : s.gate.profile = some p) :
    isEmergency ds s = true ↔ analysed ds ∈ p.emergency ∧ analysed ds ≠ [] := by
  unfold isEmergency
  rw [hp]
  simp only [any_emergency, decide_eq_true_eq]
  exact ⟨fun ⟨e, he, hne, h⟩ => h ▸ ⟨he, hne⟩, fun ⟨he, hne⟩ => ⟨_, he, hne, rfl⟩⟩

/-- The body of DIAL in REPORTING with digits that are in order. -/
theorem dialOrder_reporting (hp : s.gate.profile = some p) (hst : s.call.station = .reporting)
    (hds : ds = dialDigits d) (hc : natAt d 2 ≤ 24) (hcodes : ∀ x ∈ ds, x ≤ 12)
    (hstar : p.pulse = true → ∀ x ∈ ds, x ≠ 10 ∧ x ≠ 11) :
    dialOrder n d s = dialInReporting n ds s := by
  unfold dialOrder
  rw [pulseMode_eq hp, dialFault_none hc (hds ▸ hcodes) (hds ▸ hstar), ← hds]
  exact if_pos hst

theorem notNowDetail_reporting (k : Nat) (hst : s.call.station = .reporting) :
    notNowDetail k s = k + 256 * 8 := by
  rw [notNowDetail, hst]
  rfl

/-- DIAL in REPORTING with the hook on-hook, or for a number that is none of the emergency numbers. -/
theorem dial_notNow (h : orderAt 1 n d s) (hp : s.gate.profile = some p) (hroom : roomy s)
    (hst : s.call.station = .reporting) (hds : ds = dialDigits d) (hc : natAt d 2 ≤ 24)
    (hcodes : ∀ x ∈ ds, x ≤ 12) (hstar : p.pulse = true → ∀ x ∈ ds, x ≠ 10 ∧ x ≠ 11) :
    (s.call.hook = false → leadsWith .dial s (answering s) (answered n 5 (1 + 256 * 8) s))
    ∧ (s.call.hook = true → ds.filter (fun x => x != 12) ∉ p.emergency →
      leadsWith .dial s (answering s) (answered n 5 (4 + 256 * 8) s)) := by
  have body := dialOrder_reporting (n := n) hp hst hds hc hcodes hstar
  have conds : firstUnmet (dialConds s) = none := by simp [firstUnmet, dialConds, hst]
  constructor
  · intro hook
    have away : dialInReporting n ds s = answer n .notNow (1 + 256 * 8) s := by
      rw [← notNowDetail_reporting 1 hst]
      exact if_pos (by simp [hook])
    exact leadsWith_owner rfl h conds (body.trans away) fun k =>
      finish_answer rfl (by simp [hp]) hroom k n .notNow (1 + 256 * 8)
  · intro hook hno
    have away : dialInReporting n ds s
        = answer n .notNow (4 + 256 * 8) (raiseRefused .lineBusy none ds.length s) := by
      rw [← notNowDetail_reporting 4 hst, dialInReporting, if_neg (by simp [hook]),
        if_neg fun he => hno ((isEmergency_iff hp).mp he).1]
    refine leadsWith_owner rfl h conds (body.trans away) fun k => ?_
    have gate : (raiseRefused .lineBusy none ds.length s).gate = s.gate := raise_gate ..
    have kept : steady (raiseRefused .lineBusy none ds.length s) = steady s := raise_steady ..
    generalize raiseRefused .lineBusy none ds.length s = w at *
    obtain ⟨hs, hans⟩ := finish_answer gate (by simp [hp]) hroom k n .notNow (4 + 256 * 8)
    have same := congrArg answering kept
    exact ⟨hs.trans same, hans⟩

end

end Sys2Proof.Proofs

/-! An emergency number dialled in REPORTING (R109). -/
namespace Sys2Proof.Proofs
open Sys2Proof.Machine Sys2Proof.Safety Sys2Proof.Laws

section
variable {s t u v w : State} {p : Profile} {c : CallInfo} {n : Fin 16} {d : List Byte} {ds : List Nat}

/-- An answer behind no more posts than have room (R12). -/
theorem answered_behind (hp : s.gate.profile = some p) (hs : roomy s) (h : postsUpTo 4 s u)
    (hu : u.gate.profile = s.gate.profile) (k : Nat) (n : Fin 16) (o : OrderOutcome) (detail : Nat) :
    answered n (orderOutcomeCode o) detail s (finish k (answer n o detail u)) := by
  obtain ⟨hw, hq⟩ := hs
  obtain ⟨uw, uq⟩ := h.2 hw (by omega)
  exact (finish_answer_behind hp h.1 (hu.trans hp) uw (by omega) k n o detail).2

/-- A report call that ends without a counted attempt (R161). -/
theorem abortReport_rest (hl : s.line.state ≠ .released) (hl' : s.line.state ≠ .clearing) :
    reportsOnly (reportEnded s) (abortReport s) ∧ postsUpTo 4 s (abortReport s)
      ∧ (abortReport s).ring.seq = (if s.report.seized then (s.ring.seq + 1) % 65536 else s.ring.seq)
      ∧ (abortReport s).report.phase = .clearing
      ∧ (abortReport s).report.queue
          = s.report.queue.map (fun e => { e with snap := false, renew := false })
      ∧ (abortReport s).report.attempt = s.report.attempt := by
  obtain ⟨only, seq, posts⟩ := endReport_rest (s := s) .abandoned hl hl'
  have aborted : ∃ b, abortReport s = { clearSnaps (endReport .abandoned s) with
      report := { (clearSnaps (endReport .abandoned s)).report with due := b } } := by
    unfold abortReport
    dsimp only
    split
    · exact ⟨(clearSnaps (endReport .abandoned s)).report.due, rfl⟩
    · exact ⟨_, rfl⟩
  obtain ⟨b, hb⟩ := aborted
  rw [hb]
  generalize endReport .abandoned s = e at *
  have report : e.report = endedEngine s.report := (report_of_unposted only).trans rfl
  have snaps : (clearSnaps e).report = { e.report with
      queue := e.report.queue.map (fun e => { e with snap := false, renew := false }) } := rfl
  have same := reportsOnly_trans (reportsOnly_of_records only) (reportsOnly_refl_report e
    { (clearSnaps e).report with due := b })
  refine ⟨same, postsUpTo_trans (k := 4) posts (postsUpTo_same rfl), seq, ?_, ?_, ?_⟩ <;>
  · simp only [snaps, report]
    rfl

/-- The call in progress of an emergency number dialled in REPORTING. -/
def emergencyCall (ds : List Nat) (edition : Nat) (c : CallInfo) : CallInfo :=
  { c with
    kind := .emergency, decided := true, decisive := ds.length, complete := true,
    gatePassed := true, number := ds, maxLen := ds.length, edition := edition }

/-- The report call gives way: what stands of it, and the caller's call, which waits for the guard. -/
theorem emergencyInReporting_rest (ds : List Nat) (hl : s.line.state ≠ .released)
    (hl' : s.line.state ≠ .clearing) :
    ∃ c, (emergencyInReporting ds s).call.station = .dialling
      ∧ (emergencyInReporting ds s).call.claim = .caller
      ∧ (emergencyInReporting ds s).call.dialQueue = ds
      ∧ (emergencyInReporting ds s).call.cur = some (emergencyCall ds (activeEdition s) c) ∧ c.zone = none
      ∧ (emergencyInReporting ds s).line = { endedLine s with waiting := true }
      ∧ (emergencyInReporting ds s).report = (abortReport s).report
      ∧ (emergencyInReporting ds s).gate = (abortReport s).gate
      ∧ (emergencyInReporting ds s).ring = (abortReport s).ring
      ∧ (emergencyInReporting ds s).coin = s.coin ∧ (emergencyInReporting ds s).mem = s.mem
      ∧ (emergencyInReporting ds s).sys = s.sys := by
  obtain ⟨only, -⟩ := abortReport_rest hl hl'
  have asked : emergencyInReporting ds s = updCall (emergencyCall ds (activeEdition s))
      { beginCall (abortReport s) with call := { (beginCall (abortReport s)).call with dialQueue := ds } } :=
    rfl
  have line : (abortReport s).line = endedLine s := (line_of_unposted only).trans rfl
  have coin : (abortReport s).coin = s.coin := (coin_of_unposted only).trans rfl
  have mem : (abortReport s).mem = s.mem := (mem_of_unposted only).trans rfl
  have sys : (abortReport s).sys = s.sys := (sys_of_unposted only).trans rfl
  rw [asked]
  generalize abortReport s = a at *
  obtain ⟨c, ccall, -, czone, -, -, -, -, -, -, -, -, waits, bsys, breport, bgate, -, -, -, bring, bcoin,
    bmem⟩ := beginCall_rest a
  have clearing : a.line.state ≠ .released := by
    rw [line, endedLine, if_neg (by simp [hl, hl'])]
    simp
  have bline := waits clearing
  generalize beginCall a = b at *
  have cur : ({ b with call := { b.call with dialQueue := ds } } : State).call.cur = some c := by
    rw [ccall]
  rw [updCall_cur _ cur]
  refine ⟨c, ?_, ?_, rfl, rfl, czone, ?_, breport, bgate, bring, bcoin.trans coin, bmem.trans mem,
    bsys.trans sys⟩
  · exact congrArg CallCtl.station ccall
  · exact congrArg CallCtl.claim ccall
  · rw [← line]
    exact bline

/-- DIAL of an emergency number in REPORTING, off-hook: the report call gives way to it. -/
theorem dial_emergency (h : orderAt 1 n d s) (hp : s.gate.profile = some p) (hroom : roomy s)
    (hst : s.call.station = .reporting) (hds : ds = dialDigits d) (hc : natAt d 2 ≤ 24)
    (hcodes : ∀ x ∈ ds, x ≤ 12) (hstar : p.pulse = true → ∀ x ∈ ds, x ≠ 10 ∧ x ≠ 11)
    (hook : s.call.hook = true) (hem : ds.filter (fun x => x != 12) ∈ p.emergency)
    (hne : ds.filter (fun x => x != 12) ≠ []) (hl : s.line.state ≠ .released)
    (hl' : s.line.state ≠ .clearing) :
    ∃ t, exec .dial s = .next t ∧ answered n 1 ds.length s t ∧ t.call.station = .dialling
      ∧ t.call.claim = .caller ∧ t.call.dialQueue = ds ∧ t.report.phase = .clearing
      ∧ t.report.queue = s.report.queue.map (fun e => { e with snap := false, renew := false })
      ∧ t.report.attempt = s.report.attempt
      ∧ t.line.state = .clearing ∧ t.line.waiting = true ∧ t.line.seize = false
      ∧ (∃ c, t.call.cur = some c ∧ c.kind = .emergency ∧ c.decided = true
          ∧ c.complete = true ∧ c.gatePassed = true ∧ c.number = ds ∧ c.zone = none)
      ∧ t.ring.seq = (if s.report.seized then (s.ring.seq + 1) % 65536 else s.ring.seq)
      ∧ t.coin.escrow = s.coin.escrow ∧ t.mem = s.mem := by
  have gives : dialInReporting n ds s = answer n .done ds.length (emergencyInReporting ds s) := by
    rw [dialInReporting, if_neg (by simp [hook]), if_pos ((isEmergency_iff hp).mpr ⟨hem, hne⟩)]
  have body := (dialOrder_reporting (n := n) hp hst hds hc hcodes hstar).trans gives
  have conds : firstUnmet (dialConds s) = none := by simp [firstUnmet, dialConds, hst]
  obtain ⟨only, posts, seq, phase, queue, attempt⟩ := abortReport_rest hl hl'
  obtain ⟨c, station, claim, dialQueue, cur, czone, line, report, gate, ring, coin, mem, sys⟩ :=
    emergencyInReporting_rest ds hl hl'
  have prof : (abortReport s).gate.profile = s.gate.profile := (profile_of_unposted only).trans rfl
  generalize abortReport s = a at *
  generalize emergencyInReporting ds s = w at *
  have given : postsUpTo 4 s w := postsUpTo_trans (k := 4) posts (postsUpTo_same gate)
  have run : exec .dial s = .next (finish (waiting (answer n .done ds.length w))
      (answer n .done ds.length w)) := by
    have he : exec .dial s = .next (carryOut 1 dialConds dialOrder s) := rfl
    rw [he, carryOut_owner h conds, body]
  have hans := answered_behind hp hroom given (by rw [gate, prof])
    (waiting (answer n .done ds.length w)) n .done ds.length
  have un := answer_unposted n .done ds.length w
  have ucall : _ = w.call := (call_of_unposted un).trans rfl
  have uline : _ = w.line := (line_of_unposted un).trans rfl
  have usys : _ = w.sys := (sys_of_unposted un).trans rfl
  have ureport : _ = w.report := (report_of_unposted un).trans rfl
  have ucoin : _ = w.coin := (coin_of_unposted un).trans rfl
  have umem : _ = w.mem := (mem_of_unposted un).trans rfl
  have uring : _ = w.ring := (ring_of_unposted un).trans rfl
  generalize answer n .done ds.length w = u at *
  have ended : (endedLine s).state = .clearing ∧ (endedLine s).seize = false := by
    rw [endedLine, if_neg (by simp [hl, hl'])]
    exact ⟨rfl, rfl⟩
  obtain ⟨f1, f2, f3, f4, f5, f6⟩ := finish_dialling (waiting u) (u := u) (by rw [usys, sys]; exact h.1)
    (by rw [ucall, station]) (by rw [uline, line]; simp [ended.1]) (by rw [ureport, report, phase]; simp)
    (by rw [ureport, report, phase]; simp)
  have fs := finish_steady (waiting u) u
  generalize finish (waiting u) u = t at *
  have fline : t.line = { endedLine s with waiting := true } := by rw [f5, uline, line]
  have freport : t.report = a.report := by rw [f6, ureport, report]
  refine ⟨t, run, hans, f1, by rw [f2, ucall, claim], by rw [f3, ucall, dialQueue], by rw [freport, phase],
    by rw [freport, queue], by rw [freport, attempt], by rw [fline]; exact ended.1, by rw [fline],
    by rw [fline]; exact ended.2, ⟨emergencyCall ds (activeEdition s) c, by rw [f4, ucall, cur],
      rfl, rfl, rfl, rfl, rfl, czone⟩, ?_, ?_, ?_⟩
  · rw [ring_of_steady fs, uring, ring, seq]
  · rw [escrow_of_steady fs, ucoin, coin]
  · rw [mem_of_steady fs, umem, mem]

end

end Sys2Proof.Proofs

/-! DIAL in READY with a digit that decides the number (R98, R99). -/
namespace Sys2Proof.Proofs
open Sys2Proof.Machine Sys2Proof.Safety Sys2Proof.Laws

section
variable {s t u v w : State} {p : Profile} {c : CallInfo} {n : Fin 16} {d : List Byte} {ds l : List Nat}
  {x : Nat} {dec : Decision}

/-! ### The Post Queue and the line behind a decision -/

theorem limitNumber_gate (v : State) : (limitNumber v).gate = v.gate := by
  unfold limitNumber
  split
  · rfl
  · split <;> rfl

theorem creditGate_gate (z : Zone) (v : State) : (creditGate z v).gate = v.gate := by
  have updated : ∀ f : CallInfo → CallInfo, ∀ u : State, (updCall f u).gate = u.gate := fun _ _ => rfl
  unfold creditGate
  dsimp only
  split
  · rw [updated, updated]
  · rw [raise_gate]
    rfl

/-- A decision that neither bars nor refuses posts nothing. -/
theorem takeDecision_gate {k : Nat} {z : Zone} (h : v.call.cur = some c)
    (hz : zoneAt v k = some z) (hb : z.kind ≠ .barred) (hs : v.meter.purse.state ≠ .settling)
    (hh : v.meter.purse.state ≠ .held) (hm : modeAllows v.call.mode z.kind = true) :
    (takeDecision (.zone k) v).gate = v.gate := by
  rw [takeDecision_allowed h hz hb hs hh hm]
  split
  · rw [limitNumber_gate]
    rfl
  · rw [limitNumber_gate, creditGate_gate]
    rfl

/-- An emergency number passes the gate, complete (R98). -/
theorem takeDecision_emergency (h : v.call.cur = some c) :
    unposted (takeDecision .emergency v) = unposted (withCur
        { decidedTo .emergency none c.number.length c with gatePassed := true, complete := true } v)
      ∧ (takeDecision .emergency v).gate = v.gate := by
  have taken : takeDecision .emergency v = limitNumber (updCall (fun c => { c with gatePassed := true })
      (recordDecision .emergency none c.number.length v)) := by
    unfold takeDecision
    rw [h]
  rw [taken, limitNumber_gate, recordDecision_cur _ _ _ h]
  rw [updCall_cur (c := decidedTo .emergency none c.number.length c) _ (by rfl)]
  refine ⟨?_, rfl⟩
  have limited := limitNumber_withCur (v := v)
    (w := touchLive (withCur { decidedTo .emergency none c.number.length c with gatePassed := true }
      (touchLive (withCur (decidedTo .emergency none c.number.length c) v))))
    (c := { decidedTo .emergency none c.number.length c with gatePassed := true }) rfl rfl rfl
  have whole : (c.complete || decide (c.number.length ≤ c.number.length)) = true := by simp
  have same := congrArg (fun b => unposted (withCur { decidedTo .emergency none c.number.length c with
    gatePassed := true, complete := b } v)) whole
  exact limited.trans same

/-! ### The state in which the decision is taken -/

/-- The state `v` in which the decisive digit of a DIAL in READY is decided upon, the call `c` having
taken all digits. -/
structure Deciding (s v : State) (ds : List Nat) (c : CallInfo) : Prop where
  kept : steady v = steady s
  gate : v.gate = s.gate
  call : v.call = { s.call with
    station := .dialling, claim := .caller, dialQueue := ds, interDigit := none, cur := some c }
  sys : v.sys = s.sys
  report : v.report = s.report
  meter : v.meter = s.meter
  tariff : v.tariff = s.tariff
  cal : v.cal = s.cal
  ring : v.ring = s.ring
  line : v.line.state = if s.line.state = .released then .seizing else s.line.state
  number : c.number = ds
  complete : c.complete = false
  settleDue : c.settleDue = false
  seized : c.seized = (s.line.state == .released)
  gatePassed : c.gatePassed = false

/-- The digits of a DIAL whose last decides the number are all accepted. -/
theorem dial_deciding (hp : s.gate.profile = some p) (hds : ds = dialDigits d) (hlast : ds = l ++ [x])
    (hc : natAt d 2 ≤ 24) (hf : natAt d 3 = 0) (hcodes : ∀ y ∈ ds, y ≤ 12)
    (hstar : p.pulse = true → ∀ y ∈ ds, y ≠ 10 ∧ y ≠ 11) (hst : s.call.station = .ready)
    (hno : ∀ l' y, l' ++ [y] <+: l →
      analyseDigit p (s.tariff.active.map (·.2)) (l' ++ [y]) y = none)
    (hdec : analyseDigit p (s.tariff.active.map (·.2)) ds x = some dec) :
    ∃ v c, Deciding s v ds c ∧ dialOrder n d s = answer n .done ds.length (takeDecision dec v) := by
  obtain ⟨c, call, -, -, cdec, ccomp, cgate, cnum, -, cdue, cseized, released, waits, sys, report, gate, meter,
    tariff, cal, ring, -⟩ := beginCall_rest s
  have kept := beginCall_steady s
  have fault : dialFault (pulseMode s) d = none := by
    rw [pulseMode_eq hp]
    exact dialFault_none hc (hds ▸ hcodes) (hds ▸ hstar)
  have len : l.length + 1 ≤ 24 := by
    have : ds.length = l.length + 1 := by rw [hlast, List.length_append, List.length_singleton]
    rw [← this, hds, dialDigits, List.length_take]
    omega
  have body : dialOrder n d s = takeDigits n d (beginCall s) := by
    unfold dialOrder
    rw [fault]
    exact if_neg (by simp [hst])
  rw [body]
  have line : (beginCall s).line.state = if s.line.state = .released then .seizing else s.line.state := by
    by_cases hl : s.line.state = .released
    · rw [released hl, if_pos hl]
    · rw [waits hl, if_neg hl]
  generalize beginCall s = b at *
  have tables : ∀ u : State, u.tariff = s.tariff → activeTables u = s.tariff.active.map (·.2) := by
    intro u hu
    rw [activeTables, hu]
  obtain ⟨w, hw, wgate, hun⟩ := acceptDigits_undecided (p := p) l b c (by rw [call]) (by rw [gate]; exact hp)
    (by rw [call]) cdec ccomp (by rw [call]; simp; omega) (by rw [cnum]; simp; omega)
    (fun l' y hy => by rw [tables b tariff, cnum, List.nil_append]; exact hno l' y hy)
  have only := callOnly_digits hun
  have wcall : w.call = (digitsTaken l c b).call := call_of_unposted hun
  have wcur : w.call.cur = some (numberGrown l (activeEdition b) c) := by rw [wcall]; rfl
  have wstation : w.call.station = .dialling := by rw [wcall]; exact congrArg CallCtl.station call
  have wqueue : w.call.dialQueue = l := by
    have joined : w.call.dialQueue = b.call.dialQueue ++ l := by rw [wcall]; rfl
    rw [joined, call]
    rfl
  have wtariff : w.tariff = b.tariff := (tariff_of_unposted only).trans rfl
  have whole : (numberGrown l (activeEdition b) c).number ++ [x] = ds := by
    rw [numberGrown, cnum, hlast]
    rfl
  have first := acceptDigit_decides (x := x) wcur (by rw [wgate, gate]; exact hp) cdec
    (by rw [tables w (wtariff.trans tariff), whole]; exact hdec)
  have accepts : canAccept w = true := canAccept_undecided wcur wstation cdec ccomp
    (by rw [wqueue]; omega) (by rw [numberGrown, cnum]; exact len)
  have all : takeDigits n d b
      = answer n .done ds.length (takeDecision dec (touchLive (digitsTaken [x]
          (numberGrown l (activeEdition b) c) w))) := by
    have taken := hw [x]
    rw [← hlast, acceptDigits, if_pos accepts, first] at taken
    have count : ds.length = 1 + l.length := by
      rw [hlast, List.length_append, List.length_singleton, Nat.add_comm]
    unfold takeDigits
    rw [← hds, taken, count]
    dsimp only
    rw [if_neg (by simp [dialComplete, hf])]
    rfl
  refine ⟨_, numberGrown [x] (activeEdition w) (numberGrown l (activeEdition b) c), ?_, all⟩
  have wsys : w.sys = b.sys := (sys_of_unposted only).trans rfl
  have wreport : w.report = b.report := (report_of_unposted only).trans rfl
  have wmeter : w.meter = b.meter := (meter_of_unposted only).trans rfl
  have wcal : w.cal = b.cal := (cal_of_unposted only).trans rfl
  have wring : w.ring = b.ring := (ring_of_unposted only).trans rfl
  have wline : w.line = b.line := (line_of_unposted only).trans rfl
  have wsteady : steady w = steady b := (steady_of_unposted hun).trans (steady_digitsTaken l c b)
  refine ⟨wsteady.trans kept, wgate.trans gate, ?_, wsys.trans sys, wreport.trans report,
    wmeter.trans meter, wtariff.trans tariff, wcal.trans cal, wring.trans ring,
    (congrArg Line.state wline).trans line, whole, ccomp, cdue, cseized, cgate⟩
  have joined : (touchLive (digitsTaken [x] (numberGrown l (activeEdition b) c) w)).call = { w.call with
      dialQueue := w.call.dialQueue ++ [x], interDigit := none,
      cur := some (numberGrown [x] (activeEdition w) (numberGrown l (activeEdition b) c)) } := rfl
  rw [joined, wqueue, ← hlast, wcall]
  have grown : (digitsTaken l c b).call = { b.call with
      dialQueue := b.call.dialQueue ++ l,
      interDigit := if l.isEmpty then b.call.interDigit else none,
      cur := some (numberGrown l (activeEdition b) c) } := rfl
  rw [grown, call]

end

end Sys2Proof.Proofs

/-! The decision of a DIAL at the end of its step (R98, R99). -/
namespace Sys2Proof.Proofs
open Sys2Proof.Machine Sys2Proof.Safety Sys2Proof.Laws

section
variable {s t u v w : State} {p : Profile} {c : CallInfo} {n : Fin 16} {d : List Byte} {ds l : List Nat}
  {x : Nat} {dec : Decision}

/-- A call in DIALLING before the line sends, at the end of the step of an order answered. -/
theorem finish_dialled (k : Nat) (n : Fin 16) (o : OrderOutcome) (detail : Nat)
    (hr : w.sys.part = .running) (hst : w.call.station = .dialling) (hl : w.line.state ≠ .sending)
    (hn : w.report.phase = .noCall) :
    (finish k (answer n o detail w)).call.station = .dialling
      ∧ (finish k (answer n o detail w)).call.cur = w.call.cur := by
  have un := answer_unposted n o detail w
  have ucall : _ = w.call := (call_of_unposted un).trans rfl
  have uline : _ = w.line := (line_of_unposted un).trans rfl
  have usys : _ = w.sys := (sys_of_unposted un).trans rfl
  have ureport : _ = w.report := (report_of_unposted un).trans rfl
  generalize answer n o detail w = u at *
  obtain ⟨f1, -, -, f4, -⟩ := finish_dialling k (u := u) (by rw [usys]; exact hr) (by rw [ucall]; exact hst)
    (by rw [uline]; exact hl) (by rw [ureport, hn]; simp) (by rw [ureport, hn]; simp)
  exact ⟨f1, f4.trans (congrArg CallCtl.cur ucall)⟩

theorem Deciding.cur (hv : Deciding s v ds c) : v.call.cur = some c := congrArg CallCtl.cur hv.call

theorem Deciding.station (hv : Deciding s v ds c) : v.call.station = .dialling :=
  congrArg CallCtl.station hv.call

theorem Deciding.mode (hv : Deciding s v ds c) : v.call.mode = s.call.mode := by
  rw [hv.call]

theorem Deciding.notSending (hv : Deciding s v ds c)
    (hl : s.line.state = .released ∨ s.line.state = .clearing) : v.line.state ≠ .sending := by
  rw [hv.line]
  obtain hl | hl := hl <;> simp [hl]

/-- A decision that leaves the call in DIALLING, at the end of the step. -/
theorem deciding_dialled {c' : CallInfo} (hv : Deciding s v ds c) (hr : s.sys.part = .running)
    (hn : noReport s) (hl : s.line.state = .released ∨ s.line.state = .clearing)
    (hp : s.gate.profile = some p) (hroom : roomy s) (hw : unposted w = unposted (withCur c' v))
    (hg : w.gate = v.gate) (k : Nat) (n : Fin 16) (m : Nat) :
    steady (finish k (answer n .done m w)) = steady (answering s)
      ∧ (finish k (answer n .done m w)).call.station = .dialling
      ∧ answered n 1 m s (finish k (answer n .done m w))
      ∧ (finish k (answer n .done m w)).call.cur = some c' := by
  obtain ⟨hs, hans⟩ := finish_answer (hg.trans hv.gate) (by simp [hp]) hroom k n .done m
  have wcall := call_of_unposted hw
  have wline : w.line = v.line := (line_of_unposted hw).trans rfl
  have wsys : w.sys = v.sys := (sys_of_unposted hw).trans rfl
  have wreport : w.report = v.report := (report_of_unposted hw).trans rfl
  obtain ⟨f1, f4⟩ := finish_dialled (w := w) k n .done m (by rw [wsys, hv.sys]; exact hr)
    (by rw [wcall]; exact hv.station) (by rw [wline]; exact hv.notSending hl)
    (by rw [wreport, hv.report]; exact hn.2)
  have kept : steady w = steady s := (steady_of_unposted hw).trans ((steady_withCur c' v).trans hv.kept)
  have same := congrArg answering kept
  rw [wcall] at f4
  exact ⟨hs.trans same, f1, hans, f4⟩

/-- A decision that waits for credit, at the end of the step. -/
theorem deciding_waiting {c' : CallInfo} {r : Timer} (hv : Deciding s v ds c) (hr : s.sys.part = .running)
    (hn : noReport s) (hp : s.gate.profile = some p) (hroom : roomy s)
    (hw : unposted w = unposted (waitingCredit c' r v)) (hg : w.gate = v.gate)
    (hshort : credit s.meter.purse < c'.required) (k : Nat) (n : Fin 16) (m : Nat) :
    steady (finish k (answer n .done m w)) = steady (answering s)
      ∧ (finish k (answer n .done m w)).call.station = .creditWait
      ∧ (finish k (answer n .done m w)).call.creditTimer = r
      ∧ answered n 1 m s (finish k (answer n .done m w))
      ∧ (finish k (answer n .done m w)).call.cur = some c' := by
  obtain ⟨hs, hans⟩ := finish_answer (hg.trans hv.gate) (by simp [hp]) hroom k n .done m
  have wcall := call_of_unposted hw
  have wmeter : w.meter = v.meter := (meter_of_unposted hw).trans rfl
  have wsys : w.sys = v.sys := (sys_of_unposted hw).trans rfl
  have wreport : w.report = v.report := (report_of_unposted hw).trans rfl
  have kept : steady w = steady s :=
    (steady_of_unposted hw).trans ((steady_waitingCredit c' r v).trans hv.kept)
  have same := congrArg answering kept
  have un := answer_unposted n .done m w
  have ucall : _ = w.call := (call_of_unposted un).trans rfl
  have umeter : _ = w.meter := (meter_of_unposted un).trans rfl
  have usys : _ = w.sys := (sys_of_unposted un).trans rfl
  have ureport : _ = w.report := (report_of_unposted un).trans rfl
  rw [wcall] at ucall
  generalize answer n .done m w = u at *
  obtain ⟨f1, f2, f3⟩ := finish_creditWait (u := u) (c := c') k (by rw [usys, wsys, hv.sys]; exact hr)
    (by rw [noReport, ureport, wreport, hv.report]; exact hn) (by rw [ucall]; rfl) (by rw [ucall]; rfl)
    (by rw [umeter, wmeter, hv.meter]; exact hshort)
  exact ⟨hs.trans same, f1, f2.trans (congrArg CallCtl.creditTimer ucall), hans, f3⟩

/-- A decision that refuses the call, at the end of the step. -/
theorem deciding_refused {k : CallKind} {zone : Option Nat} {m : Nat} (hv : Deciding s v ds c)
    (h : orderAt 1 n d s) (hn : noReport s) (hst : s.call.station = .ready) (hnone : s.call.cur = none)
    (hl : s.line.state = .released ∨ s.line.state = .clearing) (hp : s.gate.profile = some p)
    (hroom : roomy s) (hw : unposted w = unposted (withCur (decidedTo k zone m c) v))
    (hg : w.gate = v.gate)
    (body : dialOrder n d s = answer n .done ds.length (endCall .refused .ready w)) :
    ∃ t, exec .dial s = .next t ∧ callOver .ready s t ∧ answered n 1 ds.length s t
      ∧ t.line.state = .clearing
      ∧ t.ring.seq = if s.line.state = .released then (s.ring.seq + 1) % 65536 else s.ring.seq := by
  have wcall := call_of_unposted hw
  have wline : w.line = v.line := (line_of_unposted hw).trans rfl
  have wsys : w.sys = s.sys := (sys_of_unposted hw).trans hv.sys
  have wreport : w.report = s.report := (report_of_unposted hw).trans hv.report
  have wring : w.ring = s.ring := (ring_of_unposted hw).trans hv.ring
  have wcur : w.call.cur = some (decidedTo k zone m c) := by rw [wcall]; rfl
  have posts := endCall_postsUpTo .refused .ready wcur
  obtain ⟨only, seq, -⟩ := endCall_rest .refused .ready wcur
  have prof : (endCall .refused .ready w).gate.profile = w.gate.profile := (profile_of_unposted only).trans rfl
  have run : exec .dial s = .next (finish (waiting (answer n .done ds.length (endCall .refused .ready w)))
      (answer n .done ds.length (endCall .refused .ready w))) := by
    have he : exec .dial s = .next (carryOut 1 dialConds dialOrder s) := rfl
    rw [he, carryOut_owner h (by simp [firstUnmet, dialConds, hst]), body]
  generalize endCall .refused .ready w = e at *
  have emeter : e.meter = (takeEnd (decidedTo k zone m c) w).meter := (meter_of_unposted only).trans rfl
  have ecoin : e.coin = (takeEnd (decidedTo k zone m c) w).coin := (coin_of_unposted only).trans rfl
  have esc := (congrArg Coin.escrow ecoin).trans (takeEnd_metering (decidedTo k zone m c) w).2.2.2.2.1
  have eline : e.line = endedLine w := (line_of_unposted only).trans rfl
  have ended := callOver_answer (waiting (answer n .done ds.length e)) n .done ds.length wcur
    (by rw [wsys]; exact h.1) (by rw [noReport, wreport]; exact hn) (.inr rfl)
    (recordsBut_settlement only rfl) (congrArg metering emeter)
    (fun hd => by rw [emeter]; exact takeEnd_closed hd) seq esc
  have hans := answered_behind hp hroom
    (postsUpTo_trans (k := 4) (postsUpTo_same (hg.trans hv.gate)) posts)
    (by rw [prof, hg, hv.gate]) (waiting (answer n .done ds.length e)) n .done ds.length
  have un := answer_unposted n .done ds.length e
  have ecall : e.call = endedCall .ready w.call := (call_of_unposted only).trans rfl
  have erest : e.sys = s.sys ∧ e.report = s.report :=
    ⟨((sys_of_unposted only).trans rfl).trans wsys, ((report_of_unposted only).trans rfl).trans wreport⟩
  have ucall : _ = e.call := (call_of_unposted un).trans rfl
  have uline : _ = e.line := (line_of_unposted un).trans rfl
  have usys : _ = e.sys := (sys_of_unposted un).trans rfl
  have ureport : _ = e.report := (report_of_unposted un).trans rfl
  have uring : _ = e.ring := (ring_of_unposted un).trans rfl
  generalize answer n .done ds.length e = u at *
  have rest : AtRest u := by
    refine ⟨by rw [usys, erest.1]; exact h.1, by rw [noReport, ureport, erest.2]; exact hn, ?_⟩
    rw [ucall, ecall]
    exact ⟨nofun, nofun, nofun, nofun⟩
  have fline := (finish_atRest (waiting u) rest).1
  have fring := finish_ring (waiting u) u
  have over_ := ended.over_
  generalize finish (waiting u) u = t at *
  have clearing : t.line.state = .clearing := by
    rw [fline, uline, eline, endedLine, wline, hv.line]
    obtain hl | hl := hl <;> simp [hl, hv.line]
  refine ⟨t, run, ?_, hans, clearing, ?_⟩
  · obtain ⟨h1, h2, h3, h4, h5, h6, h7, h8, h9, h10, h11, -⟩ := over_
    refine ⟨h1, h2, h3, h4, h5, h6, h7, h8, h9, h10, h11, fun hd => ?_, fun h1 h2 => ?_, fun c hc => ?_⟩
    · rw [hnone] at hd
      exact absurd hd (by simp)
    · exact absurd hl (by simp [h1, h2])
    · rw [hnone] at hc
      exact absurd hc (by simp)
  · rw [fring, uring, seq, wring]
    have seized : (decidedTo k zone m c).seized = (s.line.state == .released) := hv.seized
    rw [seized]
    simp

end

end Sys2Proof.Proofs

/-! The digits of a DIAL, decided or not (R95 to R99, R109). -/
namespace Sys2Proof.Proofs
open Sys2Proof.Machine Sys2Proof.Safety Sys2Proof.Laws

section
variable {s v w : State} {p : Profile} {c : CallInfo} {n : Fin 16} {d : List Byte} {ds : List Nat}
  {dec : Decision}

/-- The DIAL that has led to a state of decision. -/
theorem leadsWith_deciding {P : State → Prop} (h : orderAt 1 n d s) (hst : s.call.station = .ready)
    (body : dialOrder n d s = answer n .done ds.length (takeDecision dec v))
    (hP : ∀ k, steady (finish k (answer n .done ds.length (takeDecision dec v))) = steady (answering s)
      ∧ P (finish k (answer n .done ds.length (takeDecision dec v)))) :
    leadsWith .dial s (answering s) P :=
  leadsWith_owner rfl h (by simp [firstUnmet, dialConds, hst]) body hP

/-- DIAL of an emergency number in READY. -/
theorem dial_decidesEmergency (hv : Deciding s v ds c) (h : orderAt 1 n d s)
    (hp : s.gate.profile = some p) (hroom : roomy s) (hn : noReport s) (hst : s.call.station = .ready)
    (hl : s.line.state = .released ∨ s.line.state = .clearing)
    (body : dialOrder n d s = answer n .done ds.length (takeDecision .emergency v)) :
    leadsWith .dial s (answering s) (fun t => t.call.station = .dialling
      ∧ answered n 1 ds.length s t
      ∧ ∃ c, t.call.cur = some c ∧ c.kind = .emergency ∧ c.decided = true
          ∧ c.gatePassed = true ∧ c.complete = true ∧ c.number = ds ∧ c.zone = none) := by
  obtain ⟨un, gate⟩ := takeDecision_emergency hv.cur
  refine leadsWith_deciding h hst body fun k => ?_
  obtain ⟨kept, station, answered_, cur⟩ := deciding_dialled hv h.1 hn hl hp hroom un gate k n ds.length
  exact ⟨kept, station, answered_, _, cur, rfl, rfl, rfl, rfl, hv.number, rfl⟩

/-- What passes the gate is allowed by the mode and not barred. -/
theorem modeAllows_of {z : Zone} {m : Mode} (h : z.kind = .free ∧ m ≠ .closed
    ∨ (z.kind = .timed ∨ z.kind = .pulsed) ∧ m = .full) :
    z.kind ≠ .barred ∧ modeAllows m z.kind = true := by
  obtain ⟨hk, hm⟩ | ⟨hk | hk, hm⟩ := h
  · rw [hk]
    cases m with
    | closed => exact absurd rfl hm
    | _ => exact ⟨nofun, rfl⟩
  · rw [hk, hm]
    exact ⟨nofun, rfl⟩
  · rw [hk, hm]
    exact ⟨nofun, rfl⟩

/-- DIAL in READY of a number decided for a zone (R98, R99). -/
theorem dial_decidesZone {bank : Bank} {tab : Tables} {k : Nat} {z : Zone} {need : Nat}
    (hv : Deciding s v ds c) (h : orderAt 1 n d s) (hp : s.gate.profile = some p) (hroom : roomy s)
    (hn : noReport s) (hst : s.call.station = .ready) (hnone : s.call.cur = none)
    (hl : s.line.state = .released ∨ s.line.state = .clearing)
    (body : dialOrder n d s = answer n .done ds.length (takeDecision (.zone k) v))
    (ha : s.tariff.active = some (bank, tab)) (hz : tab.zones[k]? = some z)
    (hneed : need = z.s + unitCharge z.u
      (if z.kind = .timed then tab.mults.getD s.cal.band 100 else 100) tab.q) :
    (z.kind = .barred ∨ s.meter.purse.state = .settling ∨ s.meter.purse.state = .held
        ∨ s.call.mode = .closed ∨ (s.call.mode = .freeOnly ∧ z.kind ≠ .free) →
      ∃ t, exec .dial s = .next t ∧ callOver .ready s t ∧ answered n 1 ds.length s t
        ∧ t.line.state = .clearing
        ∧ t.ring.seq = if s.line.state = .released then (s.ring.seq + 1) % 65536 else s.ring.seq)
    ∧ (s.meter.purse.state ≠ .settling → s.meter.purse.state ≠ .held →
      (z.kind = .free ∧ s.call.mode ≠ .closed
          ∨ (z.kind = .timed ∨ z.kind = .pulsed) ∧ s.call.mode = .full
            ∧ need ≤ s.meter.purse.d - s.meter.purse.c →
        leadsWith .dial s (answering s) (fun t => t.call.station = .dialling
          ∧ answered n 1 ds.length s t
          ∧ ∃ c, t.call.cur = some c ∧ c.decided = true ∧ c.gatePassed = true
              ∧ c.zone = some k ∧ c.number = ds ∧ c.complete = decide (z.maxLen ≤ ds.length)
              ∧ c.kind = if z.kind = .free then .free else .paid))
      ∧ ((z.kind = .timed ∨ z.kind = .pulsed) → s.call.mode = .full →
        s.meter.purse.d - s.meter.purse.c < need →
        leadsWith .dial s (answering s) (fun t => t.call.station = .creditWait
          ∧ t.call.creditTimer = some (p.creditHoldS * 1000) ∧ answered n 1 ds.length s t
          ∧ ∃ c, t.call.cur = some c ∧ c.decided = true ∧ c.gatePassed = false
              ∧ c.zone = some k ∧ c.number = ds ∧ c.kind = .paid ∧ c.required = need))) := by
  have cur := hv.cur
  have active : v.tariff.active = some (bank, tab) := by rw [hv.tariff, ha]
  have at_ : zoneAt v k = some z := by rw [zoneAt, active]; exact hz
  have need_ : requiredCredit z v = need := by rw [requiredCredit_active active, hv.cal, hneed]
  have purse : v.meter.purse = s.meter.purse := by rw [hv.meter]
  refine ⟨fun hno => ?_, fun h1 h2 => ⟨fun hyes => ?_, fun hk hm hlow => ?_⟩⟩
  · obtain ⟨kind, zone, m, w, hw, hg, he⟩ := takeDecision_refused cur at_ (by rwa [purse, hv.mode])
    exact deciding_refused hv h hn hst hnone hl hp hroom hw hg (by rw [body, he])
  · obtain ⟨r, un⟩ := takeDecision_passes cur at_ (by rwa [purse]) (by rwa [purse])
      (by rw [need_, hv.mode, purse]; exact hyes)
    obtain ⟨notBarred, allows⟩ := modeAllows_of (z := z) (m := v.call.mode) (by
      rw [hv.mode]
      obtain hy | ⟨hk, hm, -⟩ := hyes
      · exact .inl hy
      · exact .inr ⟨hk, hm⟩)
    have gate := takeDecision_gate cur at_ notBarred (by rwa [purse]) (by rwa [purse]) allows
    refine leadsWith_deciding h hst body fun k => ?_
    obtain ⟨kept, station, answered_, fcur⟩ := deciding_dialled hv h.1 hn hl hp hroom un gate k n ds.length
    refine ⟨kept, station, answered_, _, fcur, rfl, rfl, rfl, hv.number, ?_, rfl⟩
    rw [hv.number, hv.complete, Bool.false_or]
  · have un := takeDecision_needs cur at_ (by rwa [purse]) (by rwa [purse]) hk (by rwa [hv.mode])
      (by rw [need_, purse]; exact hlow)
    obtain ⟨notBarred, allows⟩ := modeAllows_of (z := z) (m := v.call.mode) (.inr ⟨hk, by rwa [hv.mode]⟩)
    have gate := takeDecision_gate cur at_ notBarred (by rwa [purse]) (by rwa [purse]) allows
    have hold : param (·.creditHoldS) v = p.creditHoldS := by
      unfold param
      rw [hv.gate, hp]
    rw [need_, hold] at un
    refine leadsWith_deciding h hst body fun k => ?_
    obtain ⟨kept, station, timer, answered_, fcur⟩ :=
      deciding_waiting hv h.1 hn hp hroom un gate hlow k n ds.length
    exact ⟨kept, station, timer, answered_, _, fcur, rfl, hv.gatePassed, rfl, hv.number, rfl, rfl⟩

end

/-- Settles O29. -/
theorem dialAndDialMoreAcceptDigits : Obligations.DialAndDialMoreAcceptDigits := by
  refine ⟨fun s p n d ds h hp hroom hn hst hl hds hc hf hcodes hstar ha =>
      dial_undecided h hp hroom hn hst hl hds hc hf hcodes hstar ha,
    fun s p n d ds c h hp hroom hn hcur hds hc hf hcodes => ⟨fun hst hl hd hcomp hnum hq hstar ha =>
      dialMore_undecided h hp hroom hn hcur hds hc hf hcodes hst hl hd hcomp hnum hq hstar ha,
      fun hst hsender => dialMore_talking h hp hroom hn hcur hds hc hcodes hst hsender⟩,
    fun s p n d i pulse hp hroom hd h => digits_refused hp hroom hd h,
    fun s p n d ds h hp hroom hst hds hc hcodes hstar => ?_,
    fun s p n d ds l x dec h hp hroom hn hst hnone hl hds hlast hc hf hcodes hstar hno hdec ended hended => ?_,
    analysis_facts⟩
  · obtain ⟨onHook, other⟩ := dial_notNow h hp hroom hst hds hc hcodes hstar
    exact ⟨onHook, other, fun hook hem hne hl hl' =>
      dial_emergency h hp hroom hst hds hc hcodes hstar hook hem hne hl hl'⟩
  · obtain ⟨v, c, hv, body⟩ := dial_deciding (n := n) hp hds hlast hc hf hcodes hstar hst hno hdec
    subst hended
    refine ⟨fun he => ?_, fun he => ?_, fun bank tab k z need he ha hz hneed => ?_⟩
    · rw [he] at body
      exact dial_decidesEmergency hv h hp hroom hn hst hl body
    · obtain ⟨kind, zone, m, w, hw, hg, hend⟩ := takeDecision_noTariff hv.cur
      rw [he, hend] at body
      exact deciding_refused hv h hn hst hnone hl hp hroom hw hg body
    · rw [he] at body
      exact dial_decidesZone hv h hp hroom hn hst hnone hl body ha hz hneed

end Sys2Proof.Proofs

/-! The runs of a rewrite (R14, R46, R148): the lengths of the images and the runs of changed fields. -/
namespace Sys2Proof.Proofs
open Sys2Proof.Machine Sys2Proof.Safety Sys2Proof.Laws

/-! ### Lengths of what the images hold (section 13.5) -/

@[simp] theorem leBytes_length (k n : Nat) : (leBytes k n).length = k := by
  induction k generalizing n with
  | zero => rfl
  | succ k ih => rw [leBytes, List.length_cons, ih]

@[simp] theorem money3_length (n : Nat) : (money3 n).length = 3 := leBytes_length ..

@[simp] theorem count2_length (n : Nat) : (count2 n).length = 2 := leBytes_length ..

@[simp] theorem packTime_length (t : ShortTime) (e : Nat) : (packTime t e).length = 4 := leBytes_length ..

@[simp] theorem padTo_length (k : Nat) (b : Byte) (l : List Byte) : (padTo k b l).length = k := by
  rw [padTo, List.length_take, List.length_append, List.length_replicate]
  omega

/-- Records of one length, one behind another. -/
theorem flatMap_length {α : Type} {f : α → List Byte} {k : Nat} (h : ∀ x, (f x).length = k) (l : List α) :
    (l.flatMap f).length = k * l.length := by
  induction l with
  | nil => rfl
  | cons x l ih =>
    rw [List.flatMap_cons, List.length_append, h, ih, List.length_cons, Nat.mul_succ, Nat.add_comm]

theorem chanBytes_length (c : ChanRec) : (chanBytes c).length = 16 := by simp [chanBytes]

theorem tamperFields_length (s : State) : (tamperFields s).length = 142 := by
  have chans : (s.tamper.chans.toList.flatMap chanBytes).length = 128 :=
    flatMap_length chanBytes_length _
  simp [tamperFields, List.length_take, chans]

theorem clockFields_length (s : State) : (clockFields s).length = 14 := rfl

theorem liveCall_length (m : Meter) (c : Option CallInfo) : (liveCall m c).length = 16 := by
  cases c with
  | none => rfl
  | some c => simp [liveCall, packStart]

theorem livePending_length (c : Option CallRecord) : (livePending c).length = 22 := by
  cases c with
  | none => rfl
  | some c => simp [livePending, packStart]

theorem liveFields_length (s : State) : (liveFields s).length = 94 := by
  unfold liveFields
  cases s.coin.escrow with
  | nil =>
    simp only [List.length_append, leBytes_length, money3_length, padTo_length, liveCall_length,
      livePending_length, List.length_cons, List.length_nil]
  | cons e l =>
    simp only [List.length_append, leBytes_length, money3_length, padTo_length, liveCall_length,
      livePending_length, List.length_cons, List.length_nil, packTime_length]

theorem tallyVisit_length (v : Visit) : (tallyVisit v).length = 25 := by
  simp only [tallyVisit, List.length_append, packDigits_length, packTime_length, money3_length,
    count2_length, padTo_length, List.length_cons, List.length_nil]

theorem tallyFields_length (s : State) : (tallyFields s).length = 190 := by
  have classes : (s.tally.classes.toList.flatMap (fun c =>
      count2 c.accepted ++ count2 c.collected ++ count2 c.returned ++ count2 c.cleared)).length = 8 * 6 := by
    rw [flatMap_length (k := 8) (fun c => by simp), Vector.length_toList]
  have kinds : (s.tally.kinds.toList.flatMap count2).length = 2 * 5 := by
    rw [flatMap_length count2_length, Vector.length_toList]
  unfold tallyFields
  dsimp only
  simp only [List.length_append, leBytes_length, money3_length, count2_length, padTo_length,
    tallyVisit_length, List.length_cons, List.length_nil]
  rw [classes, kinds]

theorem imageFields_length (i : ImageId) (s : State) : (imageFields i s).length = imageLen i := by
  cases i with
  | clock => exact clockFields_length s
  | live => exact liveFields_length s
  | tally => exact tallyFields_length s
  | tamper => exact tamperFields_length s

/-- The fields of an image fill it, and none is longer than a run. -/
theorem fieldLens_sum (i : ImageId) :
    (fieldLens i).sum = imageLen i ∧ ∀ k ∈ fieldLens i, 0 < k ∧ k ≤ 40 := by
  cases i <;> decide

/-! ### The first run of changed fields (R14) -/

section
variable {f : Span → Bool} {shown bs : List Byte} {lens : List Nat} {o a n k : Nat}

/-- What a run takes in behind its first field: changed fields only, and it stops at the end, before a
field that has not changed, or before one that would take it beyond 40 bytes. -/
theorem runLength_split (f : Span → Bool) (lens : List Nat) (o n : Nat) :
    ∃ mid post, lens = mid ++ post ∧ runLength f n (spansFrom o lens) = n + mid.sum
      ∧ (n ≤ 40 → n + mid.sum ≤ 40) ∧ (∀ x ∈ spansFrom o mid, f x = true)
      ∧ ∀ y r, post = y :: r → f (o + mid.sum, y) = false ∨ 40 < n + mid.sum + y := by
  induction lens generalizing o n with
  | nil => exact ⟨[], [], rfl, rfl, fun h => h, by simp [spansFrom], nofun⟩
  | cons x l ih =>
    by_cases hx : (f (o, x) && decide (n + x ≤ 40)) = true
    · obtain ⟨mid, post, hl, hrun, hle, hall, hstop⟩ := ih (o + x) (n + x)
      rw [Bool.and_eq_true, decide_eq_true_iff] at hx
      refine ⟨x :: mid, post, by rw [hl]; rfl, ?_, fun _ => ?_, fun y hy => ?_, fun y r hy => ?_⟩
      · rw [spansFrom, runLength, if_pos (by simp [hx]), hrun, List.sum_cons, Nat.add_assoc]
      · have := hle hx.2
        rw [List.sum_cons]
        omega
      · rw [spansFrom, List.mem_cons] at hy
        obtain rfl | hy := hy
        · exact hx.1
        · exact hall y hy
      · rw [List.sum_cons, ← Nat.add_assoc, ← Nat.add_assoc]
        exact hstop y r hy
    · refine ⟨[], x :: l, rfl, ?_, fun h => h, by simp [spansFrom], fun y r hy => ?_⟩
      · rw [spansFrom, runLength, if_neg hx]
        rfl
      · obtain ⟨rfl, -⟩ := List.cons.inj hy
        rw [Bool.and_eq_true, decide_eq_true_iff, Decidable.not_and_iff_or_not, Bool.not_eq_true] at hx
        exact hx.imp (fun h => by simpa using h) (fun h => by simpa using h)

/-- The first run: fields that have not changed, then changed ones, as far as a run goes. -/
theorem firstRun_split (h : firstRun f (spansFrom o lens) = some (a, n)) (hk : ∀ k ∈ lens, k ≤ 40) :
    ∃ pre x mid post, lens = pre ++ (x :: mid) ++ post ∧ a = o + pre.sum ∧ n = x + mid.sum ∧ n ≤ 40
      ∧ (∀ y ∈ spansFrom o pre, f y = false) ∧ f (a, x) = true
      ∧ (∀ y ∈ spansFrom (a + x) mid, f y = true)
      ∧ ∀ y r, post = y :: r → f (a + n, y) = false ∨ 40 < n + y := by
  induction lens generalizing o with
  | nil => exact absurd h nofun
  | cons z l ih =>
    rw [spansFrom, firstRun] at h
    by_cases hz : f (o, z) = true
    · rw [if_pos hz, Option.some.injEq, Prod.mk.injEq] at h
      obtain ⟨rfl, rfl⟩ := h
      obtain ⟨mid, post, hl, hrun, hle, hall, hstop⟩ := runLength_split f l (o + z) z
      rw [hrun]
      refine ⟨[], z, mid, post, by rw [hl]; rfl, rfl, rfl, hle (hk z List.mem_cons_self),
        by simp [spansFrom], hz, hall, fun y r hy => ?_⟩
      rw [← Nat.add_assoc]
      exact hstop y r hy
    · rw [if_neg hz] at h
      obtain ⟨pre, x, mid, post, hl, ha, hn, hle, hpre, hx, hall, hstop⟩ :=
        ih h fun k hk' => hk k (List.mem_cons_of_mem z hk')
      refine ⟨z :: pre, x, mid, post, by rw [hl]; rfl, by rw [ha, List.sum_cons, Nat.add_assoc], hn, hle,
        fun y hy => ?_, hx, hall, hstop⟩
      rw [spansFrom, List.mem_cons] at hy
      obtain rfl | hy := hy
      · exact Bool.eq_false_iff.mpr hz
      · exact hpre y hy

theorem firstRun_none (h : firstRun f (spansFrom o lens) = none) : ∀ y ∈ spansFrom o lens, f y = false := by
  induction lens generalizing o with
  | nil => simp [spansFrom]
  | cons z l ih =>
    rw [spansFrom, firstRun] at h
    by_cases hz : f (o, z) = true
    · rw [if_pos hz] at h
      exact absurd h nofun
    · rw [if_neg hz] at h
      intro y hy
      rw [spansFrom, List.mem_cons] at hy
      obtain rfl | hy := hy
      · exact Bool.eq_false_iff.mpr hz
      · exact ih h y hy

theorem firstRun_eq_none (h : ∀ y ∈ spansFrom o lens, f y = false) :
    firstRun f (spansFrom o lens) = none := by
  induction lens generalizing o with
  | nil => rfl
  | cons z l ih =>
    rw [spansFrom, firstRun, if_neg (by simp [h (o, z) List.mem_cons_self])]
    exact ih fun y hy => h y (List.mem_cons_of_mem _ hy)

/-! ### What has been given of an image -/

/-- Fields that agree one by one agree in all their bytes. -/
theorem take_of_spans (hlens : ∀ y ∈ spansFrom o lens, spanOf shown y = spanOf bs y)
    (ho : shown.take o = bs.take o) : shown.take (o + lens.sum) = bs.take (o + lens.sum) := by
  induction lens generalizing o with
  | nil => exact ho
  | cons x l ih =>
    have first : (shown.drop o).take x = (bs.drop o).take x := hlens (o, x) List.mem_cons_self
    rw [List.sum_cons, ← Nat.add_assoc]
    refine ih (fun y hy => hlens y (List.mem_cons_of_mem _ hy)) ?_
    rw [List.take_add, List.take_add, ho, first]

theorem take_of_take {l l' : List Byte} {m k : Nat} (h : l.take m = l'.take m) (hk : k ≤ m) :
    l.take k = l'.take k := by
  have := congrArg (List.take k) h
  rwa [List.take_take, List.take_take, Nat.min_eq_left hk] at this

/-- A field within what agrees agrees. -/
theorem span_of_take {m : Nat} (h : shown.take m = bs.take m) (hk : o + k ≤ m) :
    spanOf shown (o, k) = spanOf bs (o, k) := by
  have cut := congrArg (List.drop o) (take_of_take h hk)
  rw [List.drop_take, List.drop_take, Nat.add_sub_cancel_left] at cut
  exact cut

theorem mem_spansFrom (h : (a, k) ∈ spansFrom o lens) :
    ∃ pre post, lens = pre ++ k :: post ∧ a = o + pre.sum := by
  induction lens generalizing o with
  | nil => exact absurd h (by simp [spansFrom])
  | cons x l ih =>
    rw [spansFrom, List.mem_cons] at h
    obtain h | h := h
    · obtain ⟨rfl, rfl⟩ := Prod.mk.inj h
      exact ⟨[], l, rfl, rfl⟩
    · obtain ⟨pre, post, hl, ha⟩ := ih h
      exact ⟨x :: pre, post, by rw [hl]; rfl, by rw [ha, List.sum_cons, Nat.add_assoc]⟩

/-- What has been given, once a run behind fields that agree has been given. -/
theorem showSpan_eq (h : shown.take a = bs.take a) :
    showSpan shown bs (a, n) = bs.take (a + n) ++ shown.drop (a + n) := by
  have given : shown.take a ++ spanOf bs (a, n) = bs.take (a + n) := by
    rw [h, List.take_add]
    rfl
  rw [showSpan, given]

theorem take_showSpan (h : shown.take a = bs.take a) (hn : a + n ≤ bs.length) :
    (showSpan shown bs (a, n)).take (a + n) = bs.take (a + n) := by
  have len : (bs.take (a + n)).length = a + n := by rw [List.length_take, Nat.min_eq_left hn]
  rw [showSpan_eq h, List.take_append_of_le_length (Nat.le_of_eq len.symm), List.take_take, Nat.min_self]

/-- A field behind the run that agreed agrees still. -/
theorem take_showSpan_next (h : shown.take a = bs.take a) (hn : a + n ≤ bs.length)
    (hk : spanOf shown (a + n, k) = spanOf bs (a + n, k)) :
    (showSpan shown bs (a, n)).take (a + n + k) = bs.take (a + n + k) := by
  have len : (bs.take (a + n)).length = a + n := by rw [List.length_take, Nat.min_eq_left hn]
  have next : (shown.drop (a + n)).take k = (bs.drop (a + n)).take k := hk
  rw [showSpan_eq h, List.take_append, List.take_take, len, Nat.add_sub_cancel_left,
    Nat.min_eq_right (Nat.le_add_right _ _), next, ← List.take_add]

end

/-! ### The fields runs of a rewrite -/

section
variable {i : ImageId} {s t : State} {shown bs : List Byte} {a n : Nat}

/-- The fields of an image are unchanged before its first run of changed fields. -/
theorem changedRun_split (h : changedRun i shown bs = some (a, n)) :
    ∃ pre x mid post, fieldLens i = pre ++ (x :: mid) ++ post ∧ a = pre.sum ∧ n = x + mid.sum ∧ n ≤ 40
      ∧ shown.take a = bs.take a ∧ spanOf shown (a, x) ≠ spanOf bs (a, x)
      ∧ (∀ y ∈ spansFrom (a + x) mid, spanOf shown y ≠ spanOf bs y)
      ∧ ∀ y r, post = y :: r → spanOf shown (a + n, y) = spanOf bs (a + n, y) ∨ 40 < n + y := by
  obtain ⟨pre, x, mid, post, hl, ha, hn, hle, hpre, hx, hall, hstop⟩ :=
    firstRun_split h fun k hk => ((fieldLens_sum i).2 k hk).2
  rw [Nat.zero_add] at ha
  refine ⟨pre, x, mid, post, hl, ha, hn, hle, ?_, by simpa using hx, fun y hy => by simpa using hall y hy,
    fun y r hy => (hstop y r hy).imp_left fun h => by simpa using h⟩
  have := take_of_spans (o := 0) (fun y hy => by simpa using hpre y hy) (by simp)
  rwa [Nat.zero_add, ← ha] at this

theorem changedRun_none (h : changedRun i shown bs = none) (hb : bs.length = imageLen i) :
    shown.take (imageLen i) = bs := by
  have := take_of_spans (o := 0) (fun y hy => by simpa using firstRun_none h y hy) (by simp)
  rw [Nat.zero_add, (fieldLens_sum i).1] at this
  rw [this, ← hb, List.take_length]

theorem changedRun_eq_none (h : shown.take (imageLen i) = bs) : changedRun i shown bs = none := by
  have whole : shown.take (imageLen i) = bs.take (imageLen i) := by
    rw [← h, List.take_take, Nat.min_self]
  refine firstRun_eq_none fun y hy => ?_
  obtain ⟨pre, post, hl, ha⟩ := mem_spansFrom (a := y.1) (k := y.2) hy
  have within : y.1 + y.2 ≤ imageLen i := by
    rw [← (fieldLens_sum i).1, hl, ha, List.sum_append, List.sum_cons]
    omega
  simpa using span_of_take whole within

/-- A fields run lies within the fields and has at most 40 bytes (R14). -/
theorem fieldsRun_within (i : ImageId) (shown bs : List Byte) : 0 < (fieldsRun i shown bs).2
    ∧ (fieldsRun i shown bs).2 ≤ 40
    ∧ (fieldsRun i shown bs).1 + (fieldsRun i shown bs).2 ≤ imageLen i := by
  unfold fieldsRun
  cases h : changedRun i shown bs with
  | none => cases i <;> decide
  | some r =>
    obtain ⟨pre, x, mid, post, hl, ha, hn, hle, -⟩ := changedRun_split (a := r.1) (n := r.2) h
    have pos : 0 < x := ((fieldLens_sum i).2 x (by rw [hl]; simp)).1
    refine ⟨by show 0 < r.2; omega, hle, ?_⟩
    show r.1 + r.2 ≤ imageLen i
    rw [← (fieldLens_sum i).1, hl, ha, hn, List.sum_append, List.sum_append, List.sum_cons]
    omega

end

end Sys2Proof.Proofs

/-! The event of a condition's end behind the Tamper Area's rewrite (R13, R14, R29, R30). -/
namespace Sys2Proof.Proofs
open Sys2Proof.Machine Sys2Proof.Safety Sys2Proof.Laws

/-! ### How many runs a rewrite of the Tamper Area has (R14) -/

section
variable {i : ImageId} {s : State} {shown : List Byte} {x : Image} {j k : Nat}

/-- What has been given agrees with the image's first `j` fields. -/
def agreesTo (i : ImageId) (s : State) (j : Nat) (shown : List Byte) : Prop :=
  shown.take ((fieldLens i).take j).sum = (imageFields i s).take ((fieldLens i).take j).sum

theorem sum_take_le {l lens r : List Nat} (h : lens = l ++ r) (hk : k ≤ l.length) :
    (lens.take k).sum ≤ l.sum := by
  have split : (l.take k).sum + (l.drop k).sum = l.sum := by
    rw [← List.sum_append, List.take_append_drop]
  rw [h, List.take_append_of_le_length hk]
  omega

/-- A run of the Tamper Area's fields brings two fields more into agreement: the one behind it has not
changed, or two fields and no more fit its 40 bytes. -/
theorem agreesTo_tamper (h : agreesTo .tamper s j shown) : agreesTo .tamper s (j + 2)
    (showSpan shown (imageFields .tamper s) (fieldsRun .tamper shown (imageFields .tamper s))) := by
  have length := imageFields_length .tamper s
  have sum := (fieldLens_sum .tamper).1
  have short : ∀ y ∈ fieldLens .tamper, y ≤ 16 := by decide
  have reach : ∀ {m : Nat} {l r : List Nat} {shown' : List Byte}, fieldLens .tamper = l ++ r →
      l.sum ≤ m → j + 2 ≤ l.length ∨ r = [] → shown'.take m = (imageFields .tamper s).take m →
      agreesTo .tamper s (j + 2) shown' := by
    intro m l r shown' hl hm hj hagree
    refine take_of_take hagree (Nat.le_trans ?_ hm)
    obtain hj | rfl := hj
    · exact sum_take_le hl hj
    · rw [List.append_nil] at hl
      rw [← hl, ← List.take_append_drop (j + 2) (fieldLens .tamper), List.sum_append,
        List.take_append_drop]
      exact Nat.le_add_right _ _
  cases hrun : changedRun .tamper shown (imageFields .tamper s) with
  | none =>
    have all := changedRun_none hrun length
    have first : fieldsRun .tamper shown (imageFields .tamper s) = (0, 1) := by
      rw [fieldsRun, hrun]
      rfl
    have whole : shown.take 142 = (imageFields .tamper s).take 142 :=
      all.trans (List.take_of_length_le (Nat.le_of_eq length)).symm
    rw [first]
    refine reach (m := 0 + 1 + 141) (r := []) (List.append_nil _).symm (Nat.le_of_eq sum) (.inr rfl) ?_
    exact take_showSpan_next rfl (by rw [length]; decide) (span_of_take whole (Nat.le_refl _))
  | some r =>
    obtain ⟨pre, x, mid, post, hl, ha, hn, -, before, differs, -, stop_⟩ :=
      changedRun_split (a := r.1) (n := r.2) hrun
    have run : fieldsRun .tamper shown (imageFields .tamper s) = (r.1, r.2) := by
      rw [fieldsRun, hrun]
      rfl
    have within : r.1 + r.2 ≤ (imageFields .tamper s).length := by
      rw [length, ← sum, hl, ha, hn, List.sum_append, List.sum_append, List.sum_cons]
      omega
    have behind : j ≤ pre.length := by
      refine Nat.not_lt.mp fun hlt => differs (span_of_take h ?_)
      have one : (fieldLens .tamper).take (pre.length + 1) = pre ++ [x] := by
        rw [hl, List.append_assoc, List.take_length_add_append]
        rfl
      have more : ((fieldLens .tamper).take (pre.length + 1)).sum ≤ ((fieldLens .tamper).take j).sum := by
        refine sum_take_le (List.take_append_drop j (fieldLens .tamper)).symm ?_
        rw [List.length_take, hl]
        simp only [List.length_append, List.length_cons]
        omega
      rw [one, List.sum_append, List.sum_singleton] at more
      omega
    rw [run]
    cases post with
    | nil =>
      refine reach (m := r.1 + r.2) (r := []) hl ?_ (.inr rfl) (take_showSpan before within)
      exact Nat.le_of_eq (by rw [List.sum_append, List.sum_cons, ha, hn])
    | cons y post =>
      obtain same | full := stop_ y post rfl
      · refine reach (m := r.1 + r.2 + y) (l := pre ++ x :: mid ++ [y]) (r := post) (by rw [hl]; simp) ?_
          (.inl ?_) (take_showSpan_next before within same)
        · exact Nat.le_of_eq (by
            rw [List.sum_append, List.sum_append, List.sum_cons, List.sum_singleton, ha, hn])
        · simp only [List.length_append, List.length_cons, List.length_nil]
          omega
      · refine reach (m := r.1 + r.2) hl ?_ (.inl ?_) (take_showSpan before within)
        · exact Nat.le_of_eq (by rw [List.sum_append, List.sum_cons, ha, hn])
        · have hx := short x (by rw [hl]; simp)
          have hy := short y (by rw [hl]; simp)
          have two : mid ≠ [] := by
            rintro rfl
            rw [List.sum_nil] at hn
            omega
          have := List.length_pos_iff.mpr two
          simp only [List.length_append, List.length_cons]
          omega

theorem doneWithin_none (h : x.pos = none) (k : Nat) : doneWithin i s k x := by
  cases k with
  | zero => exact h
  | succ k =>
    intro st hst
    rw [h] at hst
    exact absurd hst nofun

theorem doneWithin_trail (h : x.pos = some .trail) (k : Nat) : doneWithin i s (k + 2) x := by
  intro st hst
  obtain rfl : st = .trail := by
    rw [h] at hst
    exact (Option.some.inj hst).symm
  rintro st ⟨⟩
  exact doneWithin_none rfl k

/-- With all but `2 * k + 2` fields in agreement at most `k + 1` fields runs follow. -/
theorem doneWithin_tamperFields (k : Nat) : ∀ x : Image, x.pos = some .fields →
    agreesTo .tamper s (10 - 2 * k) x.shown → doneWithin .tamper s (k + 3) x := by
  induction k with
  | zero =>
    intro x hx hj st hst
    obtain rfl : st = .fields := by
      rw [hx] at hst
      exact (Option.some.inj hst).symm
    have all : (showSpan x.shown (imageFields .tamper s)
        (fieldsRun .tamper x.shown (imageFields .tamper s))).take 142 = imageFields .tamper s :=
      (agreesTo_tamper hj).trans
        (List.take_of_length_le (Nat.le_of_eq (imageFields_length .tamper s)))
    refine doneWithin_trail ?_ 0
    have same := changedRun_eq_none (i := .tamper) all
    simp only [afterRun, same, Option.isNone_none, if_true]
  | succ k ih =>
    intro x hx hj st hst
    obtain rfl : st = .fields := by
      rw [hx] at hst
      exact (Option.some.inj hst).symm
    have more := agreesTo_tamper hj
    cases hrun : (changedRun .tamper (showSpan x.shown (imageFields .tamper s)
        (fieldsRun .tamper x.shown (imageFields .tamper s))) (imageFields .tamper s)).isNone with
    | true =>
      refine doneWithin_trail ?_ (k + 1)
      simp only [afterRun, hrun, if_true]
    | false =>
      refine ih _ ?_ ?_
      · simp only [afterRun, hrun]
        rfl
      · have shown_ : (afterRun .tamper x .fields s).shown = showSpan x.shown (imageFields .tamper s)
            (fieldsRun .tamper x.shown (imageFields .tamper s)) := rfl
        have step : agreesTo .tamper s (10 - 2 * k) (showSpan x.shown (imageFields .tamper s)
            (fieldsRun .tamper x.shown (imageFields .tamper s))) := by
          refine take_of_take more ?_
          have le : 10 - 2 * k ≤ 10 - 2 * (k + 1) + 2 := by omega
          have cut := sum_take_le (lens := (fieldLens .tamper).take (10 - 2 * (k + 1) + 2))
            (l := (fieldLens .tamper).take (10 - 2 * (k + 1) + 2)) (r := []) (k := 10 - 2 * k)
            (List.append_nil _).symm
          by_cases hlen : 10 - 2 * k ≤ ((fieldLens .tamper).take (10 - 2 * (k + 1) + 2)).length
          · have := cut hlen
            rwa [List.take_take, Nat.min_eq_left le] at this
          · rw [List.length_take, show (fieldLens .tamper).length = 12 from rfl] at hlen
            omega
        rw [shown_]
        exact step

/-- A rewrite of the Tamper Area has nine runs at most. -/
theorem doneWithin_tamper (x : Image) (s : State) :
    doneWithin .tamper s 9 { x with pos := some .lead } := by
  rintro st ⟨⟩
  exact doneWithin_tamperFields 5 _ rfl rfl

end

/-! ### Posts that are runs of images alone (R14) -/

section
variable {i : ImageId} {s t u : State} {p : Profile}

/-- A write run that begins within an image of the profile. -/
def ofImage (p : Profile) (e : PostEntry) : Prop :=
  ∃ i a d r, e = .write a d r ∧ imageBase p i ≤ a ∧ a < imageBase p i + imageLen i + 2

/-- Between `s` and `t` the Post Queue grew by runs of images alone. -/
def imageRunsOnly (p : Profile) (s t : State) : Prop :=
  t.gate.profile = s.gate.profile
    ∧ ∃ l, t.gate.queue = s.gate.queue ++ l ∧ ∀ e ∈ l, ofImage p e

theorem imageRunsOnly_same (h : t.gate.queue = s.gate.queue) (hp : t.gate.profile = s.gate.profile) :
    imageRunsOnly p s t := ⟨hp, [], by rw [h, List.append_nil], by simp⟩

theorem imageRunsOnly_trans (h : imageRunsOnly p s t) (h' : imageRunsOnly p t u) : imageRunsOnly p s u := by
  obtain ⟨hp, l, hl, hall⟩ := h
  obtain ⟨hp', l', hl', hall'⟩ := h'
  refine ⟨hp'.trans hp, l ++ l', by rw [hl', hl, List.append_assoc], fun e he => ?_⟩
  exact (List.mem_append.mp he).elim (hall e) (hall' e)

theorem imageRun_ofImage (i : ImageId) (p : Profile) (x : Image) (k : RewriteStep) (s : State) :
    ofImage p (imageRun i p x k s) := by
  obtain ⟨pos, -, within⟩ := fieldsRun_within i x.shown (imageFields i s)
  cases k with
  | lead => exact ⟨i, _, _, _, rfl, Nat.le_refl _, by omega⟩
  | fields => exact ⟨i, _, _, _, rfl, by omega, by omega⟩
  | trail => exact ⟨i, _, _, _, rfl, by omega, by omega⟩
  | last => exact ⟨i, _, _, _, rfl, Nat.le_refl _, by omega⟩

theorem appendRun_images (hp : s.gate.profile = some p) : imageRunsOnly p s (appendRun i s) := by
  unfold appendRun
  dsimp only
  rw [hp]
  split
  · next q k hq _ =>
    obtain rfl := Option.some.inj hq
    refine ⟨?_, [imageRun i p (getImage i s) k s], ?_, fun e he => ?_⟩
    · rw [startOwed_gate, setImage_gate]
      rfl
    · rw [startOwed_gate, setImage_gate]
      rfl
    · rw [List.mem_singleton.mp he]
      exact imageRun_ofImage ..
  · exact imageRunsOnly_same (by rw [setImage_gate]) (by rw [setImage_gate])

theorem pumpImage_images (n : Nat) (hp : s.gate.profile = some p) :
    imageRunsOnly p s (pumpImage i n s) := by
  induction n generalizing s with
  | zero => exact imageRunsOnly_same rfl rfl
  | succ n ih =>
    unfold pumpImage
    split
    · exact imageRunsOnly_same rfl rfl
    · split
      · have first := appendRun_images (i := i) hp
        exact imageRunsOnly_trans first (ih (first.1.trans hp))
      · unfold joinLine
        split <;> exact imageRunsOnly_same rfl rfl

theorem giveRewrite_images (hp : s.gate.profile = some p) : imageRunsOnly p s (giveRewrite i s) := by
  unfold giveRewrite
  dsimp only
  split
  · split
    · have begun : (startOwed i (setImage i { getImage i s with owed := true } s)).gate = s.gate := by
        rw [startOwed_gate, setImage_gate]
      exact imageRunsOnly_trans (imageRunsOnly_same (congrArg Gate.queue begun) (congrArg Gate.profile begun))
        (pumpImage_images 20 (by rw [begun, hp]))
    · exact imageRunsOnly_same rfl rfl
    · exact imageRunsOnly_same rfl rfl
    · exact imageRunsOnly_same (by rw [setImage_gate]) (by rw [setImage_gate])
    · exact imageRunsOnly_same (by rw [setImage_gate]) (by rw [setImage_gate])
  · exact imageRunsOnly_same rfl rfl

theorem postImages_images (hp : s.gate.profile = some p) : imageRunsOnly p s (postImages s) := by
  have cleared : ∀ (j : ImageId) (v w : State), w.gate = v.gate → v.gate.profile = some p →
      imageRunsOnly p v (giveRewrite j w) := fun j v w hw hv =>
    imageRunsOnly_trans (imageRunsOnly_same (by rw [hw]) (by rw [hw])) (giveRewrite_images (by rw [hw, hv]))
  unfold postImages
  dsimp only
  have first : imageRunsOnly p s (if s.img.tallyDirty then
      giveRewrite .tally { s with img := { s.img with tallyDirty := false } } else s) := by
    split
    · exact cleared .tally s _ rfl hp
    · exact imageRunsOnly_same rfl rfl
  generalize (if s.img.tallyDirty then
      giveRewrite .tally { s with img := { s.img with tallyDirty := false } } else s) = v at *
  split
  · exact imageRunsOnly_trans first (cleared .live v _ rfl (first.1.trans hp))
  · exact first

/-- Behind the step's only event come runs of images alone. -/
theorem finish_one_images (h : Quiet s) {e : Event} (he : s.ev.outbox = [e]) (n : Nat) :
    ∃ u : State, u.gate = s.gate ∧ u.ev = { s.ev with outbox := [] }
      ∧ ((writeEvent e u).gate.profile = some p → imageRunsOnly p (writeEvent e u) (finish n s)) := by
  obtain ⟨hev, hgate⟩ := settle_quiet h
  have jsys : (judgeReasons (settle s)).sys = s.sys :=
    sys_of_steady ((judgeReasons_steady _).trans (settle_steady s))
  obtain ⟨u, hg, hu, hone⟩ := flushEvents_one (by rw [jsys]; exact h.running)
    ((judgeReasons_ev _).trans hev) ((judgeReasons_queue _).trans hgate) he
  refine ⟨u, hg, hu, fun hp => ?_⟩
  unfold finish
  rw [hone]
  exact imageRunsOnly_trans (postImages_images hp) (imageRunsOnly_same rfl rfl)

end

end Sys2Proof.Proofs

/-! The end of the SLOT condition and its event (R29, R30, R136). -/
namespace Sys2Proof.Proofs
open Sys2Proof.Machine Sys2Proof.Safety Sys2Proof.Laws

section
variable {s : State} {p : Profile}

/-- An entry appended behind others is posted. -/
theorem posted_of_append_behind {e : PostEntry} {l : List PostEntry} {u t : State}
    (h : u.gate.queue = s.gate.queue ++ l ++ [e]) (hg : grows u t) : posted e s t := by
  obtain ⟨l', hl'⟩ := hg
  have ht : t.gate.queue = s.gate.queue ++ (l ++ [e] ++ l') := by
    rw [← hl', h]
    simp only [List.append_assoc]
  refine ⟨⟨_, ht.symm⟩, ?_⟩
  rw [ht, List.drop_left]
  simp

/-- A dropped event has its count's byte given (R30). -/
theorem writeEvent_dropped (hp : s.gate.profile = some p) (hr : 32 ≤ unread s.ev.w s.ev.r)
    (hd : s.ev.dropped < 255) (hw : s.gate.waiters = []) (hq : s.gate.queue.length ≤ 15) (e : Event) :
    (writeEvent e s).gate.queue
      = s.gate.queue ++ [.write (p.eventsBase + 2) [BitVec.ofNat 8 (s.ev.dropped + 1)] .plain] := by
  unfold writeEvent
  rw [hp]
  dsimp only
  rw [if_neg (Nat.not_lt.mpr hr), if_pos hd, offer_room .record
    [.write (p.eventsBase + 2) [b8 (s.ev.dropped + 1)] .plain]
    { s with ev := { s.ev with dropped := s.ev.dropped + 1, seq := s.ev.seq + 1 } } hw (Nat.succ_le_succ hq)]
  rfl

/-- A count that has reached its largest value gives no run (R30). -/
theorem writeEvent_silent (hp : s.gate.profile = some p) (hr : 32 ≤ unread s.ev.w s.ev.r)
    (hd : 255 ≤ s.ev.dropped) (e : Event) : (writeEvent e s).gate = s.gate := by
  unfold writeEvent
  rw [hp]
  dsimp only
  rw [if_neg (Nat.not_lt.mpr hr), if_neg (Nat.not_lt.mpr hd)]

/-- SLOT let go, its clear timer run out. -/
def slotLatched (s : State) : State :=
  { s with tamper := { s.tamper with
      slotClear := none,
      chans := { s.tamper.chans with slot := { s.tamper.chans.slot with state := .latched } } } }

/-- The LATCHED event of SLOT. -/
def slotEvent (s : State) : Event := ⟨.tamper, 17, now s, 5 :: count2 s.tamper.chans.slot.trips⟩

/-- The state in which the Tamper Area is rewritten behind the end of the SLOT condition. -/
def slotRaised (s : State) : State :=
  { slotLatched s with ev := { s.ev with outbox := s.ev.outbox ++ [slotEvent s] } }

theorem slotClear_body (hr : s.sys.part = .running) (ha : s.tamper.chans.slot.state = .active) :
    condEnds .slot (updTamper (fun t => { t with slotClear := none }) s)
      = giveRewrite .tamper (slotRaised s) := by
  have active : (getChan .slot (updTamper (fun t => { t with slotClear := none }) s)).state = .active := ha
  unfold condEnds
  dsimp only
  rw [if_pos active, raise, if_pos (.inl hr)]
  rfl

/-- SLOT counts in the service mode as not QUIET, which LATCHED is too (R92). -/
theorem modeOf_slotRaised (ha : s.tamper.chans.slot.state = .active) : modeOf (slotRaised s) = modeOf s := by
  have slot : (slotRaised s).tamper.chans.slot.state = .latched := rfl
  simp only [modeOf, closedInputs, freeOnlyInputs, slot, ha]
  rfl

theorem slotClear_quiet (hr : s.sys.part = .running) (hn : noReport s) (hm : s.call.mode = modeOf s)
    (hswap : s.tariff.swap = .idle) (hst : s.coin.started = false)
    (ha : s.tamper.chans.slot.state = .active) : Quiet (giveRewrite .tamper (slotRaised s)) := by
  have un := giveRewrite_unposted .tamper (slotRaised s)
  have mode : modeOf (giveRewrite .tamper (slotRaised s)) = modeOf s := by
    rw [modeOf_of_steady (giveRewrite_steady .tamper (slotRaised s))
      (congrArg (fun t : Tariff => t.active) (tariff_of_unposted un)), modeOf_slotRaised ha]
  have sys : (giveRewrite .tamper (slotRaised s)).sys = s.sys := (sys_of_unposted un).trans rfl
  have report : (giveRewrite .tamper (slotRaised s)).report = s.report := (report_of_unposted un).trans rfl
  have call : (giveRewrite .tamper (slotRaised s)).call = s.call := (call_of_unposted un).trans rfl
  have tariff : (giveRewrite .tamper (slotRaised s)).tariff = s.tariff := (tariff_of_unposted un).trans rfl
  have coin : (giveRewrite .tamper (slotRaised s)).coin = s.coin := (coin_of_unposted un).trans rfl
  generalize giveRewrite .tamper (slotRaised s) = b at *
  exact ⟨by rw [sys, hr], by rw [noReport, report]; exact hn, by rw [call, mode, hm], by rw [tariff, hswap],
    .inr (by rw [coin, hst])⟩

/-- The LATCHED record's bytes. -/
theorem slotEvent_bytes (seq : Byte) (ht : s.tamper.chans.slot.trips < 65536) :
    eventBytes seq (slotEvent s) = [seq, 17, BitVec.ofNat 8 s.cal.time.month,
      BitVec.ofNat 8 s.cal.time.day, BitVec.ofNat 8 s.cal.time.hour, BitVec.ofNat 8 s.cal.time.minute,
      BitVec.ofNat 8 s.cal.time.second, 5, BitVec.ofNat 8 s.tamper.chans.slot.trips,
      BitVec.ofNat 8 (s.tamper.chans.slot.trips / 256), 0, 0, 0, 0, 0, 0] := by
  have trips : count2 s.tamper.chans.slot.trips = [BitVec.ofNat 8 s.tamper.chans.slot.trips,
      BitVec.ofNat 8 (s.tamper.chans.slot.trips / 256)] := by
    rw [count2, Nat.min_eq_left (by omega)]
    rfl
  unfold eventBytes slotEvent
  rw [trips]
  rfl

end

/-- Settles O41. -/
theorem eventIsWrittenOrDropped : Obligations.EventIsWrittenOrDropped := by
  rintro s u p hr hp ⟨hw, -⟩ hn hm hswap hst ho hq hdue ha ht rfl
  have exec_eq : exec .slotClearExpiry s = .next (stepWith (fun s =>
      condEnds .slot (updTamper (fun t => { t with slotClear := none }) s)) s) := dueStep hr hdue
  have body := slotClear_body hr ha
  have kept : steady (giveRewrite .tamper (slotRaised s)) = steady (slotLatched s) :=
    (giveRewrite_steady .tamper (slotRaised s)).trans rfl
  have quiet := slotClear_quiet hr hn hm hswap hst ha
  have bytes := slotEvent_bytes s.ev.seq ht
  have room := giveRewrite_room (s := slotRaised s) (i := .tamper) 9 hp hw
    (doneWithin_tamper { getImage .tamper (slotRaised s) with owed := false } _) (by
      show s.gate.queue.length + 9 ≤ 16
      omega)
  have length : (slotRaised s).gate.queue.length = s.gate.queue.length := rfl
  obtain ⟨bw, bq⟩ := room
  rw [length] at bq
  have posts := giveRewrite_images (i := .tamper) (s := slotRaised s) hp
  have bev : (giveRewrite .tamper (slotRaised s)).ev = { s.ev with outbox := [slotEvent s] } := by
    rw [giveRewrite_ev]
    show { s.ev with outbox := s.ev.outbox ++ [slotEvent s] } = _
    rw [ho]
    rfl
  have only : imageRunsOnly p s (giveRewrite .tamper (slotRaised s)) :=
    imageRunsOnly_trans (imageRunsOnly_same rfl rfl) posts
  have stepped : stepWith (fun s => condEnds .slot (updTamper (fun t => { t with slotClear := none }) s)) s
      = finish (waiting s) (giveRewrite .tamper (slotRaised s)) := by rw [stepWith, body]
  have lead : ∀ P : State → Prop, P (finish (waiting s) (giveRewrite .tamper (slotRaised s))) →
      leadsWith .slotClearExpiry s (slotLatched s) P := fun P hP =>
    leadsWith_stepWith exec_eq (by rw [body]; exact kept) (by rw [stepped]; exact hP)
  generalize giveRewrite .tamper (slotRaised s) = b at *
  obtain ⟨bprof, l, bqueue, hall⟩ := only
  have cleared : ∀ v : State, v.ev = { b.ev with outbox := [] } → v.ev = s.ev := fun v hv => by
    rw [hv, bev]
    exact congrArg (fun l => { s.ev with outbox := l }) ho.symm
  refine ⟨fun hroom => ?_, fun hfull => ⟨fun hd => ?_, fun hd => ?_⟩⟩
  · refine lead _ ?_
    obtain ⟨v, vg, ve, fe, fg⟩ := finish_one quiet (e := slotEvent s) (by rw [bev]) (waiting s)
    have vev := cleared v ve
    obtain ⟨we, wq⟩ := writeEvent_room (s := v) (p := p) (by rw [vg, bprof, hp]) (by rw [vev]; exact hroom)
      (by rw [vg, bw]) (by rw [vg]; omega) (slotEvent s)
    rw [vg, vev, bytes] at wq
    rw [bqueue] at wq
    rw [fe, we, vev]
    exact ⟨rfl, rfl, rfl, postedTogether_of_append wq fg⟩
  · refine lead _ ?_
    obtain ⟨v, vg, ve, fe, fg⟩ := finish_one quiet (e := slotEvent s) (by rw [bev]) (waiting s)
    have vev := cleared v ve
    have dropped := writeEvent_full (s := v) (p := p) (by rw [vg, bprof, hp]) (by rw [vev]; exact hfull)
      (slotEvent s)
    have wq := writeEvent_dropped (s := v) (p := p) (by rw [vg, bprof, hp]) (by rw [vev]; exact hfull)
      (by rw [vev]; exact hd) (by rw [vg, bw]) (by rw [vg]; omega) (slotEvent s)
    rw [vg, bqueue, vev] at wq
    rw [fe, dropped, vev, if_pos hd]
    exact ⟨rfl, rfl, rfl, posted_of_append_behind wq fg⟩
  · refine lead _ ?_
    obtain ⟨v, vg, ve, fe, -⟩ := finish_one quiet (e := slotEvent s) (by rw [bev]) (waiting s)
    have vev := cleared v ve
    have dropped := writeEvent_full (s := v) (p := p) (by rw [vg, bprof, hp]) (by rw [vev]; exact hfull)
      (slotEvent s)
    rw [fe, dropped, vev, if_neg (by omega)]
    refine ⟨rfl, rfl, hd, fun hout x hx => ?_⟩
    obtain ⟨v', vg', ve', images⟩ := finish_one_images quiet (e := slotEvent s) (by rw [bev]) (waiting s)
    have silent := writeEvent_silent (s := v') (p := p) (by rw [vg', bprof, hp])
      (by rw [cleared v' ve']; exact hfull) (by rw [cleared v' ve']; omega) (slotEvent s)
    obtain ⟨-, l', hl', hall'⟩ := images (by rw [silent, vg', bprof, hp])
    rw [silent, vg', bqueue, List.append_assoc] at hl'
    obtain ⟨-, hmem⟩ := hx
    rw [hl', List.drop_left, List.mem_append] at hmem
    obtain ⟨i, a, d, r, he, hlo, hhi⟩ := hmem.elim (hall _) (hall' _)
    obtain ⟨rfl, -⟩ := PostEntry.write.inj he
    have := hout i
    omega

end Sys2Proof.Proofs

/-! The second carry and the weekday of a date (R37 to R40). -/
namespace Sys2Proof.Proofs
open Sys2Proof.Machine Sys2Proof.Safety Sys2Proof.Laws

section
variable {s t : State}

/-! ### The weekday of a date (R39) -/

/-- The days of a year before December. -/
theorem daysBeforeDecember (y : Nat) :
    daysBeforeMonth y 12 = 334 + if isLeap y = true then 1 else 0 := by
  simp only [daysBeforeMonth, monthLength]
  cases isLeap y <;> rfl

/-- A day carry counts one day more, from the last day of the year too. -/
theorem dayCount_nextDay {x : FullTime} (h : timeFault x = none) (hw : (nextDay x).2 = false) :
    dayCount (nextDay x).1 = dayCount x + 1 := by
  obtain ⟨hy, hm1, hm12, hd1, hd, -⟩ := timeFault_eq_none.mp h
  unfold nextDay at hw ⊢
  split
  · simp only [dayCount]
    omega
  · next hday =>
    have last : x.day = monthLength x.year x.month := by omega
    split
    · have before : daysBeforeMonth x.year (x.month + 1)
          = daysBeforeMonth x.year x.month + monthLength x.year x.month := if_neg (by omega)
      simp only [dayCount, before]
      omega
    · next hmonth =>
      have december : x.month = 12 := by omega
      have long : monthLength x.year 12 = 31 := rfl
      rw [december, long] at last
      split
      · have first : daysBeforeMonth (x.year + 1) 1 = 0 := rfl
        simp only [dayCount, first, december, daysBeforeDecember, last, isLeap, beq_iff_eq]
        split <;> omega
      · next hyear =>
        rw [if_neg hday, if_neg hmonth, if_neg hyear] at hw
        exact absurd hw (by simp)

/-- The first day after the year wrap is a Saturday. -/
theorem weekday_wrapped {x : FullTime} (hw : (nextDay x).2 = true) : weekdayOf (nextDay x).1 = 6 := by
  unfold nextDay at hw ⊢
  split
  · next hday => simp [hday] at hw
  · next hday =>
    split
    · next hmonth => simp [hday, hmonth] at hw
    · next hmonth =>
      split
      · next hyear => simp [hday, hmonth, hyear] at hw
      · simp [weekdayOf, dayCount, daysBeforeMonth]

/-- The weekday follows the day carry (R38, R39). -/
theorem weekdayOf_nextDay {x : FullTime} (h : timeFault x = none) :
    weekdayOf (nextDay x).1 = if (nextDay x).2 then 6 else (weekdayOf x + 1) % 7 := by
  cases hw : (nextDay x).2 with
  | false =>
    simp only [weekdayOf, dayCount_nextDay h hw]
    simp only [Bool.false_eq_true, if_false]
    omega
  | true => exact weekday_wrapped hw

/-! ### The carries (R37, R38) -/

/-- A second carry leaves the calendar as the carry has it, but for the band, and the rest of the steady
part as the tenth has it. -/
theorem secondWork_steady (s : State) :
    steady (secondWork s) = steady { tickBlocks s with cal := (carrySecond s.cal).1 } := by
  have tickCal : (tickBlocks s).cal = s.cal := by
    unfold tickBlocks
    split <;> rfl
  have tenth : steady (secondTenth s) = steady { tickBlocks s with cal := (carrySecond s.cal).1 } := by
    have advanced : steady (advanceCalendar (tickBlocks s))
        = steady { tickBlocks s with cal := (carrySecond s.cal).1 } := by
      unfold advanceCalendar
      rw [tickCal]
      dsimp only
      split <;> rfl
    unfold secondTenth
    dsimp only
    split
    · rw [touchLive_steady, advanced]
    · exact advanced
  unfold secondWork
  dsimp only
  rw [giveRewrite_steady, giveRewrite_steady]
  split
  · rw [judgeActivation_steady, tenth]
  · exact tenth

/-- What a second carry leaves, by the calendar's own carry. -/
theorem exec_secondCarry (h : s.cal.sub = 9) : ∃ t, exec .secondCarry s = .next t
    ∧ t.cal.time = (carrySecond s.cal).1.time ∧ t.cal.weekday = (carrySecond s.cal).1.weekday
    ∧ t.cal.valid = (carrySecond s.cal).1.valid ∧ t.cal.sub = (carrySecond s.cal).1.sub
    ∧ t.mem = s.mem ∧ t.orders = s.orders ∧ t.coin.escrow = s.coin.escrow := by
  have run : exec .secondCarry s = .next (stepWith secondWork s) := if_pos h
  have kept : steady (stepWith secondWork s) = steady { tickBlocks s with cal := (carrySecond s.cal).1 } :=
    (finish_steady _ _).trans (secondWork_steady s)
  have ticked : (tickBlocks s).mem = s.mem ∧ (tickBlocks s).orders = s.orders
      ∧ (tickBlocks s).coin.escrow = s.coin.escrow := by
    unfold tickBlocks
    split <;> exact ⟨rfl, rfl, rfl⟩
  generalize stepWith secondWork s = t at *
  have cal : (steady t).cal = { (carrySecond s.cal).1 with band := 0 } := by rw [kept]; rfl
  refine ⟨t, run, ?_, ?_, ?_, ?_, (mem_of_steady kept).trans ticked.1,
    (orders_of_steady kept).trans ticked.2.1, (escrow_of_steady kept).trans ticked.2.2⟩
  · have := congrArg Calendar.time cal
    exact this
  · have := congrArg Calendar.weekday cal
    exact this
  · have := congrArg Calendar.valid cal
    exact this
  · have := congrArg Calendar.sub cal
    exact this

theorem carrySecond_sub (c : Calendar) : (carrySecond c).1.sub = 0 := by
  unfold carrySecond
  split
  · rfl
  · unfold carryMinute
    split
    · rfl
    · split
      · rfl
      · dsimp only
        split <;> rfl

/-- A second carry below the day (R37, R38). -/
theorem carrySecond_below (c : Calendar) :
    (c.time.second < 59 → (carrySecond c).1.time = { c.time with second := c.time.second + 1 }
      ∧ (carrySecond c).1.weekday = c.weekday ∧ (carrySecond c).1.valid = c.valid)
    ∧ (c.time.second = 59 → c.time.minute < 59 →
      (carrySecond c).1.time = { c.time with second := 0, minute := c.time.minute + 1 }
      ∧ (carrySecond c).1.weekday = c.weekday ∧ (carrySecond c).1.valid = c.valid)
    ∧ (c.time.second = 59 → c.time.minute = 59 → c.time.hour < 23 →
      (carrySecond c).1.time = { c.time with second := 0, minute := 0, hour := c.time.hour + 1 }
      ∧ (carrySecond c).1.weekday = c.weekday ∧ (carrySecond c).1.valid = c.valid) := by
  refine ⟨fun hs => ?_, fun hs hm => ?_, fun hs hm hh => ?_⟩
  · simp [carrySecond, hs]
  · simp [carrySecond, carryMinute, hs, hm]
  · simp [carrySecond, carryMinute, hs, hm, hh]

/-- The counters at midnight carry into the day (R38). -/
theorem carrySecond_midnight {c : Calendar} (hs : c.time.second = 59) (hm : c.time.minute = 59)
    (hh : c.time.hour = 23) {x : FullTime} (hx : x = { c.time with second := 0, minute := 0, hour := 0 }) :
    (carrySecond c).1.time = (nextDay x).1
      ∧ (carrySecond c).1.weekday = (if (nextDay x).2 then weekdayOf (nextDay x).1
          else if c.weekday < 6 then c.weekday + 1 else 0)
      ∧ (carrySecond c).1.valid = (if (nextDay x).2 then false else c.valid) := by
  have carried : (carrySecond c).1 = if (nextDay x).2 then
      { c with sub := 0, time := (nextDay x).1, weekday := weekdayOf (nextDay x).1, valid := false }
      else { c with sub := 0, time := (nextDay x).1,
                    weekday := if c.weekday < 6 then c.weekday + 1 else 0 } := by
    rw [carrySecond, if_neg (by omega), carryMinute, if_neg (by simp [hm]), if_neg (by simp [hh]), hx]
  rw [carried]
  split <;> exact ⟨rfl, rfl, rfl⟩

/-- A carry at midnight by the day, the month and the year (R38 to R40). -/
theorem carrySecond_day {c : Calendar} (hs : c.time.second = 59) (hm : c.time.minute = 59)
    (hh : c.time.hour = 23) :
    (carrySecond c).1.time.second = 0 ∧ (carrySecond c).1.time.minute = 0
    ∧ (carrySecond c).1.time.hour = 0
    ∧ (c.time.day < monthLength c.time.year c.time.month →
      (carrySecond c).1.time.day = c.time.day + 1 ∧ (carrySecond c).1.time.month = c.time.month
      ∧ (carrySecond c).1.time.year = c.time.year ∧ (carrySecond c).1.valid = c.valid
      ∧ (carrySecond c).1.weekday = if c.weekday < 6 then c.weekday + 1 else 0)
    ∧ (c.time.day = monthLength c.time.year c.time.month → c.time.month < 12 →
      (carrySecond c).1.time.day = 1 ∧ (carrySecond c).1.time.month = c.time.month + 1
      ∧ (carrySecond c).1.time.year = c.time.year ∧ (carrySecond c).1.valid = c.valid
      ∧ (carrySecond c).1.weekday = if c.weekday < 6 then c.weekday + 1 else 0)
    ∧ (c.time.day = 31 → c.time.month = 12 → c.time.year < 99 →
      (carrySecond c).1.time.day = 1 ∧ (carrySecond c).1.time.month = 1
      ∧ (carrySecond c).1.time.year = c.time.year + 1 ∧ (carrySecond c).1.valid = c.valid
      ∧ (carrySecond c).1.weekday = if c.weekday < 6 then c.weekday + 1 else 0)
    ∧ (c.time.day = 31 → c.time.month = 12 → c.time.year = 99 →
      (carrySecond c).1.time = ⟨0, 1, 1, 0, 0, 0⟩ ∧ (carrySecond c).1.weekday = 6
      ∧ (carrySecond c).1.valid = false) := by
  obtain ⟨time, weekday, valid⟩ := carrySecond_midnight hs hm hh rfl
  have clock : ∀ x : FullTime, (nextDay x).1.second = x.second ∧ (nextDay x).1.minute = x.minute
      ∧ (nextDay x).1.hour = x.hour := by
    intro x
    unfold nextDay
    split
    · exact ⟨rfl, rfl, rfl⟩
    · split
      · exact ⟨rfl, rfl, rfl⟩
      · split <;> exact ⟨rfl, rfl, rfl⟩
  have long : ∀ y, monthLength y 12 = 31 := fun _ => rfl
  rw [time, weekday, valid]
  refine ⟨(clock _).1, (clock _).2.1, (clock _).2.2, fun hd => ?_, fun hd hmo => ?_, fun hd hmo hy => ?_,
    fun hd hmo hy => ?_⟩
  · simp [nextDay, hd]
  · simp [nextDay, hd, hmo]
  · simp [nextDay, hd, hmo, hy, long]
  · simp [nextDay, hd, hmo, hy, long, weekdayOf, dayCount, daysBeforeMonth]

end

end Sys2Proof.Proofs

/-! A rewrite for a change of one field (R14), and the tenth tick (R37, R88). -/
namespace Sys2Proof.Proofs
open Sys2Proof.Machine Sys2Proof.Safety Sys2Proof.Laws

/-! ### A change of one field -/

section
variable {i : ImageId} {s t : State} {shown bs : List Byte} {o n : Nat}

/-- Where one field alone has changed the run is that field. -/
theorem changedRun_one (hin : (o, n) ∈ spansFrom 0 (fieldLens i)) (hb : bs.length = imageLen i)
    (hlen : shown.length = bs.length) (hne : shown ≠ bs) (hbefore : shown.take o = bs.take o)
    (hafter : shown.drop (o + n) = bs.drop (o + n)) : changedRun i shown bs = some (o, n) := by
  obtain ⟨pre', post', hl', ho⟩ := mem_spansFrom hin
  rw [Nat.zero_add] at ho
  have outside : ∀ a k, a + k ≤ o ∨ o + n ≤ a → spanOf shown (a, k) = spanOf bs (a, k) := by
    intro a k h
    obtain h | h := h
    · exact span_of_take hbefore h
    · have cut := congrArg (List.drop (a - (o + n))) hafter
      rw [List.drop_drop, List.drop_drop, Nat.add_sub_cancel' h] at cut
      exact congrArg (List.take k) cut
  cases hrun : changedRun i shown bs with
  | none =>
    have same := changedRun_none hrun hb
    rw [← hb, ← hlen, List.take_length] at same
    exact absurd same hne
  | some r =>
    obtain ⟨pre, x, mid, post, hl, ha, hm, -, -, differs, more, -⟩ :=
      changedRun_split (a := r.1) (n := r.2) hrun
    have over_ : ¬ (r.1 + x ≤ o ∨ o + n ≤ r.1) := fun h => differs (outside _ _ h)
    rw [not_or, Nat.not_le, Nat.not_le] at over_
    have first : (fieldLens i).take (pre.length + 1) = pre ++ [x] := by
      rw [hl, List.append_assoc, List.take_length_add_append]
      rfl
    have second : (fieldLens i).take (pre'.length + 1) = pre' ++ [n] := by
      rw [hl', List.take_length_add_append]
      rfl
    have place : pre.length = pre'.length := by
      refine Decidable.byContradiction fun hne' => ?_
      obtain h | h := Nat.lt_or_gt_of_ne hne'
      · have := sum_take_le hl' (Nat.succ_le_of_lt h)
        rw [first, List.sum_append, List.sum_singleton] at this
        omega
      · have := sum_take_le (hl.trans (List.append_assoc ..))
          (Nat.succ_le_of_lt h)
        rw [second, List.sum_append, List.sum_singleton] at this
        omega
    have same : pre ++ [x] = pre' ++ [n] := by rw [← first, ← second, place]
    obtain ⟨rfl, hx⟩ := List.append_inj same place
    obtain ⟨rfl, -⟩ := List.cons.inj hx
    have start : r.1 = o := ha.trans ho.symm
    cases mid with
    | nil =>
      have size : r.2 = x := hm
      rw [← start, ← size]
    | cons y mid =>
      exact absurd (outside (r.1 + x) y (.inr (by omega))) (more _ List.mem_cons_self)

/-- That field given, nothing differs. -/
theorem showSpan_one (hbefore : shown.take o = bs.take o) (hafter : shown.drop (o + n) = bs.drop (o + n)) :
    showSpan shown bs (o, n) = bs := by
  rw [showSpan_eq hbefore, hafter, List.take_append_drop]

theorem changedRun_same (i : ImageId) (hb : bs.length = imageLen i) : changedRun i bs bs = none :=
  changedRun_eq_none (by rw [← hb, List.take_length])

/-! ### The four runs of its rewrite -/

/-- A run of a rewrite with nothing owed behind it, where a place is free. -/
theorem pumpImage_step {p : Profile} {k : RewriteStep} (m : Nat) (hp : s.gate.profile = some p)
    (hpos : (getImage i s).pos = some k) (ho : (getImage i s).owed = false) (hw : s.gate.waiters = [])
    (hq : s.gate.queue.length < 16) : ∃ t, pumpImage i (m + 1) s = pumpImage i m t
      ∧ t.gate = { s.gate with queue := s.gate.queue ++ [imageRun i p (getImage i s) k s] }
      ∧ getImage i t = afterRun i (getImage i s) k s ∧ imageFields i t = imageFields i s := by
  refine ⟨appendRun i s, ?_, ?_, ?_, ?_⟩
  · have free : placeFree s = true := by simp [placeFree, hw, postPlaces, hq]
    rw [pumpImage, if_neg (by simp [hpos]), if_pos free]
  · rw [appendRun_eq hp hpos ho, setImage_gate]
    rfl
  · rw [appendRun_eq hp hpos ho, getImage_setImage]
  · rw [appendRun_eq hp hpos ho, imageFields_setImage, imageFields_append]

/-- A rewrite begun on a quiet image, where one field has changed: its four runs. -/
theorem giveRewrite_one {p : Profile} {c : Byte} (hp : s.gate.profile = some p) (hw : s.gate.waiters = [])
    (hq : s.gate.queue.length + 4 ≤ 16) (hstand : standing i s < 2)
    (hx : getImage i s = ⟨c, none, false, true, shown⟩) (hin : (o, n) ∈ spansFrom 0 (fieldLens i))
    (hlen : shown.length = imageLen i) (hne : shown ≠ imageFields i s)
    (hbefore : shown.take o = (imageFields i s).take o)
    (hafter : shown.drop (o + n) = (imageFields i s).drop (o + n)) :
    (giveRewrite i s).gate.queue = s.gate.queue
      ++ [.write (imageBase p i) [c + 1] .plain,
        .write (imageBase p i + 1 + o) (spanOf (imageFields i s) (o, n)) .plain,
        .write (imageBase p i + 1 + imageLen i) [c + 2] .plain,
        .write (imageBase p i) [c + 2] (.imageEnd i)] := by
  have length := imageFields_length i s
  have run := changedRun_one hin length (hlen.trans length.symm) hne hbefore hafter
  have due : rewriteDue i (getImage i s) s = true := by
    rw [rewriteDue, hx, run]
    simp
  have begun : startOwed i (setImage i { getImage i s with owed := true } s)
      = setImage i ⟨c, some .lead, false, true, shown⟩ s := by
    have still : standing i (setImage i { getImage i s with owed := true } s) = standing i s := by
      rw [standing, standing, setImage_gate]
    unfold startOwed
    dsimp only
    rw [getImage_setImage, still, hx]
    simp only [setImage_setImage]
    rw [if_pos ⟨trivial, trivial, hstand⟩]
  have given : giveRewrite i s = pumpImage i 20 (setImage i ⟨c, some .lead, false, true, shown⟩ s) := by
    unfold giveRewrite goOnImage
    dsimp only
    rw [due, begun, hx]
    rfl
  rw [given]
  generalize hs0 : setImage i ⟨c, some .lead, false, true, shown⟩ s = s0
  have g0 : s0.gate = s.gate := by rw [← hs0, setImage_gate]
  have x0 : getImage i s0 = ⟨c, some .lead, false, true, shown⟩ := by rw [← hs0, getImage_setImage]
  have f0 : imageFields i s0 = imageFields i s := by rw [← hs0, imageFields_setImage]
  obtain ⟨s1, e1, g1, x1, f1⟩ := pumpImage_step (i := i) (k := .lead) 19 (s := s0) (by rw [g0, hp])
    (by rw [x0]) (by rw [x0]) (by rw [g0, hw]) (by rw [g0]; omega)
  rw [x0] at g1 x1
  rw [g0] at g1
  rw [f0] at f1
  obtain ⟨s2, e2, g2, x2, f2⟩ := pumpImage_step (i := i) (k := .fields) 18 (s := s1) (by rw [g1, hp])
    (by rw [x1]; rfl) (by rw [x1]; rfl) (by rw [g1, hw])
    (by rw [g1]; simp only [List.length_append, List.length_singleton]; omega)
  have fields : fieldsRun i shown (imageFields i s) = (o, n) := by
    rw [fieldsRun, run]
    rfl
  have trail : afterRun i (afterRun i ⟨c, some .lead, false, true, shown⟩ .lead s0) .fields s1
      = ⟨c, some .trail, false, true, imageFields i s⟩ := by
    simp only [afterRun, f1, fields, showSpan_one hbefore hafter, changedRun_same i length]
    rfl
  have second : imageRun i p (afterRun i ⟨c, some .lead, false, true, shown⟩ .lead s0) .fields s1
      = .write (imageBase p i + 1 + o) (spanOf (imageFields i s) (o, n)) .plain := by
    simp only [imageRun, afterRun, f1, fields]
  rw [x1] at g2 x2
  rw [trail] at x2
  rw [second, g1] at g2
  obtain ⟨s3, e3, g3, x3, -⟩ := pumpImage_step (i := i) (k := .trail) 17 (s := s2) (by rw [g2, hp])
    (by rw [x2]) (by rw [x2]) (by rw [g2, hw])
    (by rw [g2]; simp only [List.length_append, List.length_singleton]; omega)
  rw [x2] at g3 x3
  rw [g2] at g3
  obtain ⟨s4, e4, g4, x4, -⟩ := pumpImage_step (i := i) (k := .last) 16 (s := s3) (by rw [g3, hp])
    (by rw [x3]; rfl) (by rw [x3]; rfl) (by rw [g3, hw])
    (by rw [g3]; simp only [List.length_append, List.length_singleton]; omega)
  rw [x3] at g4 x4
  have done_ : pumpImage i 16 s4 = s4 := by
    rw [pumpImage, if_pos (by rw [x4]; rfl)]
  rw [e1, e2, e3, e4, done_, g4, g3]
  simp only [List.append_assoc, List.cons_append, List.nil_append]
  rfl

end

end Sys2Proof.Proofs

/-! The tenth tick (R37, R88, R100, R101, R121). -/
namespace Sys2Proof.Proofs
open Sys2Proof.Machine Sys2Proof.Safety Sys2Proof.Laws

section
variable {s t : State} {c : CallInfo}

/-- The state that a tenth leaves, before a rewrite it calls for. -/
def ticked (s : State) : State :=
  { tickBlocks s with cal := { s.cal with sub := s.cal.sub + 1 } }

theorem exec_tenthTick (h : s.cal.sub < 9) :
    exec .tenthTick s = .next (if callCounts s then giveRewrite .live (ticked s) else ticked s) := by
  have cal : (tickBlocks s).cal = s.cal := by
    unfold tickBlocks
    split <;> rfl
  have run : exec .tenthTick s = .next (if callCounts s then giveRewrite .live
      { tickBlocks s with cal := { (tickBlocks s).cal with sub := (tickBlocks s).cal.sub + 1 } }
      else { tickBlocks s with cal := { (tickBlocks s).cal with sub := (tickBlocks s).cal.sub + 1 } }) :=
    if_neg (by omega)
  rw [run, cal]
  rfl

theorem ticked_running (hr : s.sys.part = .running) : ticked s = { s with
    coin := tickCoin s.coin, meter := tickMeter s.meter, call := tickCallCtl s.call,
    line := tickLine s.line, tamper := tickTamper s.tamper, report := tickReport s.report,
    visit := { s.visit with timer := tickTimer s.visit.timer },
    cal := { s.cal with sub := s.cal.sub + 1 } } := by
  unfold ticked tickBlocks
  rw [if_pos hr]

theorem ticked_resting (hr : s.sys.part ≠ .running) :
    ticked s = { s with cal := { s.cal with sub := s.cal.sub + 1 } } := by
  unfold ticked tickBlocks
  rw [if_neg hr]

/-- A tenth leaves a call as it is where neither its wait nor its talk duration counts. -/
theorem tickCall_still {x : Station} (hx : x ≠ .ringback)
    (h : (x ≠ .talking ∧ x ≠ .talkingIn) ∨ c.answered = false) : tickCall x c = c := by
  unfold tickCall
  rw [if_neg hx, if_neg]
  rintro ⟨h1 | h1, h2⟩ <;> simp_all

theorem callCounts_still (hx : s.call.station ≠ .ringback)
    (h : (s.call.station ≠ .talking ∧ s.call.station ≠ .talkingIn)
      ∨ s.call.cur.any (·.answered) = false) : callCounts s = false := by
  have none_ : s.call.cur.any (fun c => tickCall s.call.station c != c) = false := by
    cases hc : s.call.cur with
    | none => rfl
    | some c =>
      have still : tickCall s.call.station c = c :=
        tickCall_still hx (h.imp_right fun h => by rw [hc] at h; exact h)
      simp [still]
  rw [callCounts, none_, Bool.and_false]

/-- What the Live Image holds before the call in progress. -/
def liveHead (s : State) : List Byte :=
  let p := s.meter.purse
  let l := s.coin.escrow
  [b8 (stationCode s.call.station + 16 * modeCode s.call.mode + 64 * nBool s.call.ordered
      + 128 * nBool s.img.final),
    b8 (purseCode p.state + 4 * holdCode p.hold + 16 * laneCode s.coin.lane
      + 128 * nBool s.coin.uncertain),
    b8 s.coin.arrival,
    b8 ((l.head?.map (·.seq)).getD 0)]
    ++ leBytes 2 (s.coin.reasons.toNat + 1024 * (l.length % 16) + 16384 * bankCode s.tally.bank)
    ++ leBytes 2 s.tally.edition
    ++ money3 p.d ++ money3 p.c ++ money3 p.k ++ money3 p.r ++ money3 p.x
    ++ (l.head?.map (fun e => packTime e.time.short 0)).getD [0, 0, 0, 0]
    ++ padTo 20 0 (l.flatMap (fun e => leBytes 2 (e.value % 8192 + 8192 * (e.cls % 8))))
    ++ padTo 9 0 (arrivalDelays l)

theorem liveFields_eq (s : State) :
    liveFields s = liveHead s ++ liveCall s.meter s.call.cur ++ livePending s.ring.slot := by
  unfold liveFields liveHead
  cases s.coin.escrow <;> rfl

theorem liveHead_length (s : State) : (liveHead s).length = 56 := by
  have whole := liveFields_length s
  rw [liveFields_eq, List.length_append, List.length_append, liveCall_length, livePending_length] at whole
  omega

/-- A tenth changes of the Live Image the call in progress alone. -/
theorem ticked_liveFields (hr : s.sys.part = .running) : liveFields (ticked s) = liveHead s
    ++ liveCall s.meter (s.call.cur.map (tickCall s.call.station)) ++ livePending s.ring.slot := by
  have units : ∀ k : Option CallInfo, liveCall (tickMeter s.meter) k = liveCall s.meter k := by
    intro k
    cases k <;> rfl
  rw [ticked_running hr, liveFields_eq]
  exact congrArg (fun l => liveHead s ++ l ++ livePending s.ring.slot) (units _)

/-- The bytes of a call in progress before and behind its talk duration. -/
theorem liveCall_talk (m : Meter) (c : CallInfo) : ∃ a b, a.length = 8
    ∧ ∀ t, liveCall m (some { c with talk := t }) = a ++ leBytes 3 (min t 16777215) ++ b := by
  refine ⟨[b8 (callKindCode c.kind + 8 * nBool c.seized + 16 * nBool c.gatePassed + 32 * c.band.toNat),
      b8 (c.zone.getD 0 % 16 + 16 * nBool c.zone.isNone + 32 * nBool (c.edition == 0))]
      ++ packStart c.start c.number.length c.clockInvalid
      ++ count2 (if c.answered then c.wait else 0), count2 m.units ++ money3 m.charge, ?_, fun t => ?_⟩
  · simp only [packStart, List.length_append, packTime_length, count2_length, List.length_cons,
      List.length_nil]
  · simp only [liveCall, List.append_assoc]

/-- In RINGBACK a tenth of a call not answered changes nothing that the Live Image shows (log 38). -/
theorem tickCall_ringback (m : Meter) (hc : c.answered = false) :
    liveCall m (some (tickCall .ringback c)) = liveCall m (some c) := by
  have talk : tickCall .ringback c = { c with wait := inc16 c.wait } := by
    unfold tickCall
    rw [if_pos rfl, if_neg (by simp)]
  rw [talk]
  simp only [liveCall, hc]
  rfl

/-- In conversation a tenth of an answered call counts its talk duration (R100). -/
theorem tickCall_talking {x : Station} (hx : x = .talking ∨ x = .talkingIn) (hc : c.answered = true)
    (ht : c.talk < 4294967295) : tickCall x c = { c with talk := c.talk + 1 } := by
  have count : satAdd 4294967295 c.talk 1 = c.talk + 1 := Nat.min_eq_right (by omega)
  unfold tickCall
  rw [if_neg (by obtain h | h := hx <;> simp [h]), if_pos ⟨hx, hc⟩, count]

/-- The four runs of the Live Image's rewrite at a tenth of a conversation. -/
theorem ticked_runs {p : Profile} {n : Byte} (hr : s.sys.part = .running) (hp : s.gate.profile = some p)
    (hroom : roomy s) (hstand : standing .live s < 2)
    (himg : s.img.live = ⟨n, none, false, true, liveFields s⟩) (hcur : s.call.cur = some c)
    (hx : s.call.station = .talking ∨ s.call.station = .talkingIn) (hc : c.answered = true)
    (ht : c.talk < 16777215) : (giveRewrite .live (ticked s)).gate.queue = s.gate.queue
      ++ [.write p.liveBase [n + 1] .plain,
        .write (p.liveBase + 65) [BitVec.ofNat 8 (c.talk + 1), BitVec.ofNat 8 ((c.talk + 1) / 256),
          BitVec.ofNat 8 ((c.talk + 1) / 65536)] .plain,
        .write (p.liveBase + 95) [n + 2] .plain,
        .write p.liveBase [n + 2] (.imageEnd .live)] := by
  obtain ⟨a, b, la, hab⟩ := liveCall_talk s.meter c
  have before : liveFields s = (liveHead s ++ a) ++ (leBytes 3 c.talk ++ (b ++ livePending s.ring.slot)) := by
    have shown := hab c.talk
    rw [Nat.min_eq_left (by omega)] at shown
    rw [liveFields_eq, hcur]
    refine (congrArg (fun l => liveHead s ++ l ++ livePending s.ring.slot) shown).trans ?_
    simp only [List.append_assoc]
  have after : liveFields (ticked s)
      = (liveHead s ++ a) ++ (leBytes 3 (c.talk + 1) ++ (b ++ livePending s.ring.slot)) := by
    have shown := hab (c.talk + 1)
    rw [Nat.min_eq_left (by omega)] at shown
    rw [ticked_liveFields hr, hcur, Option.map_some, tickCall_talking hx hc (by omega), shown]
    simp only [List.append_assoc]
  have len : (liveHead s ++ a).length = 64 := by rw [List.length_append, liveHead_length, la]
  have gate : (ticked s).gate = s.gate := by rw [ticked_running hr]
  have stand : standing .live (ticked s) = standing .live s := by rw [standing, standing, gate]
  have img : getImage .live (ticked s) = ⟨n, none, false, true, liveFields s⟩ := by
    rw [ticked_running hr]
    exact himg
  have differs : leBytes 3 c.talk ≠ leBytes 3 (c.talk + 1) := by
    intro h
    have first := congrArg BitVec.toNat (List.cons.inj h).1
    simp only [b8, BitVec.toNat_ofNat] at first
    omega
  have given := giveRewrite_one (i := .live) (s := ticked s) (o := 64) (n := 3) (by rw [gate, hp])
    (by rw [gate, hroom.1]) (by rw [gate]; have := hroom.2; omega) (by rw [stand]; exact hstand) img
    (by decide) (liveFields_length s) (by
      show liveFields s ≠ liveFields (ticked s)
      rw [before, after]
      exact fun h => differs (List.append_inj_left (List.append_cancel_left h) rfl)) (by
      show (liveFields s).take 64 = (liveFields (ticked s)).take 64
      rw [before, after, List.take_left' len, List.take_left' len]) (by
      show (liveFields s).drop (64 + 3) = (liveFields (ticked s)).drop (64 + 3)
      rw [before, after, ← List.drop_drop, ← List.drop_drop, List.drop_left' len, List.drop_left' len,
        List.drop_left' (leBytes_length 3 _), List.drop_left' (leBytes_length 3 _)])
  have span : spanOf (imageFields .live (ticked s)) (64, 3) = leBytes 3 (c.talk + 1) := by
    show ((liveFields (ticked s)).drop 64).take 3 = _
    rw [after, List.drop_left' len, List.take_left' (leBytes_length 3 _)]
  have bytes : leBytes 3 (c.talk + 1) = [BitVec.ofNat 8 (c.talk + 1), BitVec.ofNat 8 ((c.talk + 1) / 256),
      BitVec.ofNat 8 ((c.talk + 1) / 65536)] := by
    simp only [leBytes, Nat.div_div_eq_div_mul]
    rfl
  rw [given, gate, span, bytes]
  rfl

end

end Sys2Proof.Proofs

/-! The Calendar's ticks and carries (R37 to R40). -/
namespace Sys2Proof.Proofs
open Sys2Proof.Machine Sys2Proof.Safety Sys2Proof.Laws

section
variable {s t : State} {c : CallInfo}

theorem visit_of_unposted (h : unposted t = unposted s) : t.visit = s.visit :=
  show (unposted t).visit = (unposted s).visit from congrArg State.visit h

/-- What a tenth leaves, its rewrite apart (R37). -/
theorem tenth_unposted (s : State) :
    unposted (if callCounts s then giveRewrite .live (ticked s) else ticked s) = unposted (ticked s)
      ∧ (if callCounts s then giveRewrite .live (ticked s) else ticked s).ev = s.ev := by
  have ev : (ticked s).ev = s.ev := by
    unfold ticked tickBlocks
    split <;> rfl
  split
  · exact ⟨giveRewrite_unposted .live (ticked s), by rw [giveRewrite_ev, ev]⟩
  · exact ⟨rfl, ev⟩

/-- A tenth that counts nothing for the call in progress posts nothing (R88). -/
theorem tenth_gate (h : callCounts s = false) :
    (if callCounts s then giveRewrite .live (ticked s) else ticked s).gate = s.gate := by
  rw [h, if_neg (by simp)]
  unfold ticked tickBlocks
  split <;> rfl

/-- A call not answered gives no rewrite in RINGBACK (log 38). -/
theorem tenth_ringback (hr : s.sys.part = .running) (hx : s.call.station = .ringback)
    (hcur : s.call.cur = some c) (hc : c.answered = false) (hshown : s.img.live.shown = liveFields s) :
    (if callCounts s then giveRewrite .live (ticked s) else ticked s).gate = s.gate := by
  have gate : (ticked s).gate = s.gate := by rw [ticked_running hr]
  have fields : liveFields (ticked s) = liveFields s := by
    rw [ticked_liveFields hr, liveFields_eq, hcur, Option.map_some, hx, tickCall_ringback s.meter hc]
  have img : (getImage .live (ticked s)).shown = liveFields s := by
    rw [ticked_running hr]
    exact hshown
  have quiet : rewriteDue .live (getImage .live (ticked s)) (ticked s) = false := by
    have none_ : changedRun .live (liveFields s) (liveFields s) = none :=
      changedRun_same .live (liveFields_length s)
    rw [rewriteDue, img]
    show (_ || (changedRun .live (liveFields s) (liveFields (ticked s))).isSome) = false
    rw [fields, none_]
    rfl
  have still : giveRewrite .live (ticked s) = ticked s := by
    unfold giveRewrite
    dsimp only
    rw [quiet, Bool.and_false]
    rfl
  rw [still, ite_self, gate]

end

/-- Settles O11. -/
theorem calendarCountsTicksAndSeconds : Obligations.CalendarCountsTicksAndSeconds := by
  refine ⟨fun s hs => ?_, fun s hs => ?_, fun x hx => weekdayOf_nextDay hx, weekdayOf_lt, by decide,
    by decide⟩
  · obtain ⟨un, ev⟩ := tenth_unposted s
    refine ⟨_, exec_tenthTick hs, ?_⟩
    have quiet := tenth_gate (s := s)
    have ringback := fun c hr hx hcur hc hshown => tenth_ringback (s := s) (c := c) hr hx hcur hc hshown
    have runs : ∀ c p n, s.sys.part = .running → s.gate.profile = some p → roomy s →
        standing .live s < 2 → s.img.live = ⟨n, none, false, true, liveFields s⟩ →
        s.call.cur = some c → (s.call.station = .talking ∨ s.call.station = .talkingIn) →
        c.answered = true → c.talk < 16777215 →
        (if callCounts s then giveRewrite .live (ticked s) else ticked s).gate.queue = s.gate.queue
          ++ [.write p.liveBase [n + 1] .plain,
            .write (p.liveBase + 65) [BitVec.ofNat 8 (c.talk + 1), BitVec.ofNat 8 ((c.talk + 1) / 256),
              BitVec.ofNat 8 ((c.talk + 1) / 65536)] .plain,
            .write (p.liveBase + 95) [n + 2] .plain,
            .write p.liveBase [n + 2] (.imageEnd .live)] := by
      intro c p n hr hp hroom hstand himg hcur hx hc ht
      have counts : callCounts s = true := by
        rw [callCounts, hr, hcur]
        have talk : tickCall s.call.station c ≠ c := by
          rw [tickCall_talking hx hc (by omega)]
          intro h
          have := congrArg CallInfo.talk h
          exact Nat.succ_ne_self _ this
        simpa using talk
      rw [counts]
      exact ticked_runs hr hp hroom hstand himg hcur hx hc ht
    generalize (if callCounts s then giveRewrite .live (ticked s) else ticked s) = t at *
    have cal : t.cal = { s.cal with sub := s.cal.sub + 1 } := (cal_of_unposted un).trans rfl
    have kept : (ticked s).mem = s.mem ∧ (ticked s).tally = s.tally ∧ (ticked s).orders = s.orders
        ∧ (ticked s).coin.escrow = s.coin.escrow ∧ (ticked s).meter.purse = s.meter.purse := by
      unfold ticked tickBlocks
      split <;> exact ⟨rfl, rfl, rfl, rfl, rfl⟩
    obtain ⟨kmem, ktally, korders, kescrow, kpurse⟩ := kept
    refine ⟨cal, (mem_of_unposted un).trans kmem, (tally_of_unposted un).trans ktally,
      (orders_of_unposted un).trans korders, ev, (congrArg Coin.escrow (coin_of_unposted un)).trans kescrow,
      (congrArg Meter.purse (meter_of_unposted un)).trans kpurse, fun hr => ?_, fun hr => ?_⟩
    · rw [ticked_resting hr] at un
      exact ⟨quiet (by simp [callCounts, hr]), (coin_of_unposted un).trans rfl,
        (meter_of_unposted un).trans rfl, (call_of_unposted un).trans rfl, (line_of_unposted un).trans rfl,
        (tamper_of_unposted un).trans rfl, (report_of_unposted un).trans rfl⟩
    · rw [ticked_running hr] at un
      have coin : t.coin = tickCoin s.coin := (coin_of_unposted un).trans rfl
      have meter : t.meter = tickMeter s.meter := (meter_of_unposted un).trans rfl
      have call : t.call = tickCallCtl s.call := (call_of_unposted un).trans rfl
      have line : t.line = tickLine s.line := (line_of_unposted un).trans rfl
      have tamper : t.tamper = tickTamper s.tamper := (tamper_of_unposted un).trans rfl
      have report : t.report = tickReport s.report := (report_of_unposted un).trans rfl
      have visit : t.visit = { s.visit with timer := tickTimer s.visit.timer } :=
        (visit_of_unposted un).trans rfl
      refine ⟨by rw [meter]; rfl, by rw [coin]; rfl, by rw [line]; rfl, by rw [tamper]; rfl,
        by rw [report]; rfl, by rw [visit]; rfl, by rw [call]; rfl, fun hx h => quiet (callCounts_still hx h),
        fun c hcur => ⟨⟨tickCall s.call.station c, ?_, rfl, fun hx hc ht => ?_⟩,
          fun hx hc hshown => ringback c hr hx hcur hc hshown,
          fun p n hp hroom hstand himg hx hc ht => runs c p n hr hp hroom hstand himg hcur hx hc ht⟩⟩
      · rw [call, tickCallCtl, hcur]
        rfl
      · rw [tickCall_talking hx hc ht]
  · obtain ⟨t, run, time, weekday, valid, sub, mem, orders, escrow⟩ := exec_secondCarry hs
    obtain ⟨second, minute, hour⟩ := carrySecond_below s.cal
    refine ⟨t, run, sub.trans (carrySecond_sub _), mem, orders, escrow, ?_⟩
    rw [time, weekday, valid]
    exact ⟨second, minute, hour, fun hs hm hh => carrySecond_day hs hm hh⟩

end Sys2Proof.Proofs

/-! The reads of start-up: what each command's step comes to, the slot scan and the ring headers
(R27, R28, R168, R179). -/
namespace Sys2Proof.Proofs
open Sys2Proof.Machine Sys2Proof.Safety Sys2Proof.Laws

section
variable {s t u v w : State} {p : Profile} {who : Requester} {d : List Byte}

/-! ### A read's completion (R13) -/

theorem held_of_steady (h : steady t = steady s) : t.gate.held = s.gate.held :=
  show (steady t).gate.held = (steady s).gate.held from congrArg (fun v : State => v.gate.held) h

theorem guards_of_unposted (h : unposted t = unposted s) :
    t.gate.guardA = s.gate.guardA ∧ t.gate.guardB = s.gate.guardB :=
  ⟨show (unposted t).gate.guardA = (unposted s).gate.guardA from congrArg (fun v : State => v.gate.guardA) h,
    show (unposted t).gate.guardB = (unposted s).gate.guardB from congrArg (fun v : State => v.gate.guardB) h⟩

theorem finishHead_handed (h : handed who d s) : finishHead s = (headGone s, d) := by
  obtain ⟨a, n, q, hq, -, rfl⟩ := h
  unfold finishHead headGone
  rw [hq]
  rfl

/-- The completion of a read run is its owner's effect and the step's end, where no write is held. -/
theorem completeStep_handed {f : List Byte → State → State} (h : handed who d s)
    (hheld : (f d (headGone s)).gate.held = []) :
    completeStep f s = finish (waiting s) (f d (headGone s)) := by
  have body : complete f s = f d (headGone s) := by
    unfold complete
    rw [finishHead_handed h]
  have held : (finish (waiting s) (f d (headGone s))).gate.held = [] :=
    (held_of_steady (finish_steady _ _)).trans hheld
  rw [completeStep, stepWith, body]
  generalize finish (waiting s) (f d (headGone s)) = t at held
  rw [serveHeld, held]

theorem headGone_held (h : handed who d s) : (headGone s).gate.held = [] := by
  obtain ⟨-, -, -, -, hh, -⟩ := h
  exact hh

theorem headRead_handed (h : handed who d s) : headRead s = some who := by
  obtain ⟨a, n, q, hq, -⟩ := h
  rw [headRead, hq]

theorem startRead_handed {f : List Byte → State → State} (hr : s.sys.part = .starting)
    (h : handed who d s) (hheld : (f d (headGone s)).gate.held = []) :
    startRead who f s = finish (waiting s) (f d (headGone s)) := by
  rw [startRead, if_pos ⟨hr, headRead_handed h⟩, completeStep_handed h hheld]

/-- Behind the head that has left there is room. -/
theorem headGone_room (h : roomy s) :
    (headGone s).gate.waiters = [] ∧ (headGone s).gate.queue.length ≤ 8 := by
  refine ⟨h.1, ?_⟩
  show s.gate.queue.tail.length ≤ 8
  rw [List.length_tail]
  have := h.2
  omega

/-- Outside RUNNING the end of a step writes no event. -/
theorem finish_ev_still (n : Nat) (h : s.sys.part ≠ .running) : (finish n s).ev = s.ev := by
  have still : settle s = s := if_neg h
  have judged : (judgeReasons s).sys = s.sys := sys_of_steady (judgeReasons_steady s)
  have flushed : flushEvents (judgeReasons s) = judgeReasons s := if_neg (by rw [judged]; exact h)
  rw [finish_ev, still, flushed, judgeReasons_ev]

/-! ### The end of a stage (R179) -/

/-- Between `s` and `t` a stage may have ended: the stage, the start-up load and the bank guards apart, the
posts alone have changed, and they have grown. -/
structure Staged (s t : State) : Prop where
  kept : unposted t = unposted { s with
    sys := { s.sys with stage := t.sys.stage }, tariff := t.tariff,
    gate := { s.gate with guardA := t.gate.guardA, guardB := t.gate.guardB } }
  ev : t.ev = s.ev
  posts : grows s t

theorem Staged.refl (s : State) : Staged s s := ⟨rfl, rfl, grows_refl s⟩

theorem startLoad_staged (s : State) : Staged s (startLoad s) := by
  unfold startLoad
  split
  · exact .refl s
  · next p hp =>
    dsimp only
    have set : ∀ bank : Bank, ∃ x y, setBankGuard bank true s = { s with gate := { s.gate with
        guardA := x, guardB := y } } := fun bank => by
      cases bank
      · exact ⟨_, _, rfl⟩
      · exact ⟨_, _, rfl⟩
    obtain ⟨x, y, hset⟩ := set (startBank p s)
    rw [hset]
    generalize startBank p s = bank
    have un := offer_unposted .tariffUnit (bankRuns p bank) { s with
      gate := { s.gate with guardA := x, guardB := y }, sys := { s.sys with stage := .tariff },
      tariff := { s.tariff with startLoad := some bank, buf := [] } }
    have ev := offer_ev .tariffUnit (bankRuns p bank) { s with
      gate := { s.gate with guardA := x, guardB := y }, sys := { s.sys with stage := .tariff },
      tariff := { s.tariff with startLoad := some bank, buf := [] } }
    have posts := offer_grows .tariffUnit (bankRuns p bank) { s with
      gate := { s.gate with guardA := x, guardB := y }, sys := { s.sys with stage := .tariff },
      tariff := { s.tariff with startLoad := some bank, buf := [] } }
    refine ⟨?_, ev, grows_from posts rfl⟩
    have sys := sys_of_unposted un
    have tariff := tariff_of_unposted un
    obtain ⟨ga, gb⟩ := guards_of_unposted un
    generalize offer .tariffUnit (bankRuns p bank) _ = o at *
    rw [sys, tariff, ga, gb, un]

theorem leaveRecords_staged (s : State) : Staged s (leaveRecords s) := by
  have live : ∀ p : Profile, Staged s (offer .record (readRuns .live p.liveBase [64, 32])
      { s with sys := { s.sys with stage := .live } }) := by
    intro p
    have un := offer_unposted .record (readRuns .live p.liveBase [64, 32])
      { s with sys := { s.sys with stage := .live } }
    have ev := offer_ev .record (readRuns .live p.liveBase [64, 32])
      { s with sys := { s.sys with stage := .live } }
    have posts := offer_grows .record (readRuns .live p.liveBase [64, 32])
      { s with sys := { s.sys with stage := .live } }
    refine ⟨?_, ev, grows_from posts rfl⟩
    have sys := sys_of_unposted un
    have tariff := tariff_of_unposted un
    obtain ⟨ga, gb⟩ := guards_of_unposted un
    generalize offer .record (readRuns .live p.liveBase [64, 32]) _ = o at *
    rw [sys, tariff, ga, gb, un]
  unfold leaveRecords
  split
  · exact live _
  · exact live _
  · exact startLoad_staged s

theorem endRecords_staged (s : State) : Staged s (endRecords s) := by
  unfold endRecords
  split
  · exact leaveRecords_staged s
  · exact .refl s

theorem endLive_staged (s : State) : Staged s (endLive s) := by
  unfold endLive
  split
  · exact startLoad_staged s
  · exact .refl s

/-- What a stage's end leaves in each block. -/
theorem Staged.fields (h : Staged s t) : t.mem = s.mem ∧ t.cal = s.cal ∧ t.ring = s.ring
    ∧ t.tally = s.tally ∧ t.visit = s.visit ∧ t.coin = s.coin ∧ t.meter = s.meter ∧ t.call = s.call
    ∧ t.tamper = s.tamper ∧ t.orders = s.orders ∧ t.gate.held = s.gate.held
    ∧ t.gate.profile = s.gate.profile ∧ t.sys = { s.sys with stage := t.sys.stage } := by
  have un := h.kept
  have held := congrArg (fun v : State => v.gate.held) un
  refine ⟨(mem_of_unposted un).trans rfl, (cal_of_unposted un).trans rfl, (ring_of_unposted un).trans rfl,
    (tally_of_unposted un).trans rfl, (visit_of_unposted un).trans rfl, (coin_of_unposted un).trans rfl,
    (meter_of_unposted un).trans rfl, (call_of_unposted un).trans rfl, (tamper_of_unposted un).trans rfl,
    (orders_of_unposted un).trans rfl, ?_, (profile_of_unposted un).trans rfl, (sys_of_unposted un).trans rfl⟩
  exact held

end

end Sys2Proof.Proofs

/-! The slot scan and the ring headers (R27, R28, R166, R168). -/
namespace Sys2Proof.Proofs
open Sys2Proof.Machine Sys2Proof.Safety Sys2Proof.Laws

section
variable {s t u : State} {p : Profile} {d : List Byte}

/-! ### The slot scan (R27) -/

/-- The command of a slot's scan. -/
theorem exec_slotScan {n : Fin 16} (hr : s.sys.part = .starting) (h : handed (.slotState n) d s)
    (hheld : (scanEffect n d (headGone s)).gate.held = []) :
    exec .slotScan s = .next (finish (waiting s) (scanEffect n d (headGone s))) := by
  have run : exec .slotScan s = (match headRead s with
      | some (.slotState n) => .next (startRead (.slotState n) (scanEffect n) s)
      | _ => .next s) := rfl
  rw [run, headRead_handed h]
  exact congrArg Host.Outcome.next (startRead_handed hr h hheld)

/-- A slot's scan whose effect gives nothing. -/
theorem leads_scan {n : Fin 16} (hr : s.sys.part = .starting) (h : handed (.slotState n) d s)
    {x : SlotState} (he : scanEffect n d (headGone s) = setSlot n x (headGone s)) :
    leads .slotScan s { headGone s with orders := { s.orders with slots := s.orders.slots.set n x } } := by
  refine ⟨_, exec_slotScan hr h (by rw [he]; exact headGone_held h), (finish_steady _ _).trans ?_⟩
  rw [he]
  rfl

/-- A slot's scan whose effect gives one run. -/
theorem leadsWith_scan {n : Fin 16} {e : PostEntry} (hr : s.sys.part = .starting)
    (h : handed (.slotState n) d s) (hroom : roomy s) {x : SlotState}
    (he : scanEffect n d (headGone s) = offer .orderUnit [e] (setSlot n x (headGone s))) :
    leadsWith .slotScan s { headGone s with orders := { s.orders with slots := s.orders.slots.set n x } }
      (posted e (headGone s)) := by
  obtain ⟨hw, hq⟩ := headGone_room hroom
  have room := offer_room .orderUnit [e] (setSlot n x (headGone s)) hw
    (by rw [List.length_singleton]; exact Nat.succ_le_of_lt (Nat.lt_of_le_of_lt hq (by decide)))
  rw [room] at he
  refine ⟨_, exec_slotScan hr h (by
    rw [he]
    show (headGone s).gate.held = []
    exact headGone_held h), (finish_steady _ _).trans ?_, ?_⟩
  · rw [he]
    rfl
  · rw [he]
    exact posted_finish _ rfl

/-- The scan of a slot that is neither posted since acceptance nor the RESTART's own, by its state byte. -/
theorem scanEffect_cases {n : Fin 16} (hp : s.gate.profile = some p) (h1 : s.orders.slots[n] ≠ .posted)
    (h2 : s.orders.slots[n] ≠ .taken) (h3 : ∀ r, s.sys.restart = some r → r.slot ≠ n) :
    (d.getD 0 0 = 0 → scanEffect n d s = setSlot n .free s)
    ∧ (d.getD 0 0 = 3 → scanEffect n d s = setSlot n .done s)
    ∧ (d.getD 0 0 = 1 ∨ d.getD 0 0 = 2 → scanEffect n d s = offer .orderUnit
      [.write (p.slotsBase + 32 * n.val + 28) [8, BitVec.ofNat 8 (kindCode s.sys.kind), 0, 3] .plain]
      (setSlot n .done s))
    ∧ (3 < (d.getD 0 0).toNat → scanEffect n d s = offer .orderUnit
      [.write (p.slotsBase + 32 * n.val + 31) [0] .plain] (setSlot n .free s)) := by
  have open_ : ¬ (s.orders.slots[n] = .posted ∨ s.orders.slots[n] = .taken
      ∨ s.sys.restart.any (fun r => r.slot == n) = true) := by
    rintro (h | h | h)
    · exact h1 h
    · exact h2 h
    · cases hr : s.sys.restart with
      | none => rw [hr] at h; exact absurd h (by simp)
      | some r =>
        rw [hr] at h
        exact h3 r hr (by simpa using h)
  have aborted : b8 (orderOutcomeCode .aborted) :: leBytes 2 (kindCode s.sys.kind) ++ [3]
      = [8, BitVec.ofNat 8 (kindCode s.sys.kind), 0, 3] := by
    cases s.sys.kind <;> rfl
  have state : natAt d 0 = (d.getD 0 0).toNat := rfl
  have scan : ∀ k, natAt d 0 = k → scanEffect n d s = (match k with
      | 0 => setSlot n .free s
      | 3 => setSlot n .done s
      | 1 | 2 =>
        offer .orderUnit
          [.write (slotAddr p n 28)
            (b8 (orderOutcomeCode .aborted) :: leBytes 2 (kindCode s.sys.kind) ++ [3]) .plain]
          (setSlot n .done s)
      | _ => offer .orderUnit [.write (slotAddr p n 31) [0] .plain] (setSlot n .free s)) := by
    rintro k rfl
    unfold scanEffect
    rw [hp]
    exact (if_neg open_).trans rfl
  refine ⟨fun h => ?_, fun h => ?_, fun h => ?_, fun h => ?_⟩
  · exact scan 0 (by rw [state, h]; rfl)
  · exact scan 3 (by rw [state, h]; rfl)
  · rw [← aborted]
    obtain h | h := h
    · exact scan 1 (by rw [state, h]; rfl)
    · exact scan 2 (by rw [state, h]; rfl)
  · rw [scan _ rfl, state]
    split
    · omega
    · omega
    · omega
    · omega
    · rfl

/-! ### The ring headers (R28, R168) -/

theorem exec_eventHeader (hr : s.sys.part = .starting) (h : handed .eventHeader d s)
    (hheld : (eventHeaderEffect d (headGone s)).gate.held = []) : exec .eventRingHeaderRead s
      = .next (finish (waiting s) (eventHeaderEffect d (headGone s))) :=
  congrArg Host.Outcome.next (startRead_handed hr h hheld)

theorem exec_callHeader (hr : s.sys.part = .starting) (h : handed .callHeader d s)
    (hheld : (callHeaderEffect d (headGone s)).gate.held = []) : exec .callRingHeaderRead s
      = .next (finish (waiting s) (callHeaderEffect d (headGone s))) :=
  congrArg Host.Outcome.next (startRead_handed hr h hheld)

/-- The read index that a header gives: the write index where it shows more unread than there are
places. -/
def headerRead (places : Nat) (d : List Byte) : Byte :=
  if places < (d.getD 0 0 - d.getD 1 0).toNat then d.getD 0 0 else d.getD 1 0

/-- The Event Ring with its header taken (R28). -/
def eventsTaken (d : List Byte) (s : State) : State :=
  { s with
    ev := { s.ev with w := d.getD 0 0, r := headerRead 32 d, dropped := (d.getD 2 0).toNat,
                      lastW := d.getD 0 0 },
    sys := { s.sys with evDone := true } }

theorem eventsTaken_ev (d : List Byte) (s : State) : (eventsTaken d s).ev
    = { s.ev with w := d.getD 0 0, r := headerRead 32 d, dropped := (d.getD 2 0).toNat, lastW := d.getD 0 0 } :=
  rfl

theorem eventHeaderEffect_eq (hp : s.gate.profile = some p) : ∃ es, es.length ≤ 1
    ∧ eventHeaderEffect d s = endRecords (offer .record es (eventsTaken d s)) := by
  unfold eventHeaderEffect
  rw [hp]
  dsimp only
  by_cases hfull : 32 < (d.getD 0 0 - d.getD 1 0).toNat
  · have full : decide (32 < unread (byteAt d 0) (byteAt d 1)) = true := decide_eq_true hfull
    have read : headerRead 32 d = d.getD 0 0 := if_pos hfull
    rw [full]
    refine ⟨[.write (p.eventsBase + 1) [d.getD 0 0] .plain], Nat.le_refl _, ?_⟩
    rw [eventsTaken, read]
    rfl
  · have full : decide (32 < unread (byteAt d 0) (byteAt d 1)) = false := decide_eq_false hfull
    have read : headerRead 32 d = d.getD 1 0 := if_neg hfull
    rw [full]
    refine ⟨[], Nat.zero_le _, ?_⟩
    rw [eventsTaken, read]
    rfl

/-- The Call Record Ring with its header taken (R168). -/
def callsTaken (d : List Byte) (s : State) : State :=
  { s with
    ring := { s.ring with w := d.getD 0 0, r := headerRead 64 d, notKept := (d.getD 2 0).toNat },
    sys := { s.sys with callDone := true } }

theorem callHeaderEffect_eq (hp : s.gate.profile = some p) : ∃ es, es.length ≤ 1
    ∧ callHeaderEffect d s = endRecords (placePending (offer .record es (callsTaken d s))) := by
  unfold callHeaderEffect
  rw [hp]
  dsimp only
  by_cases hfull : 64 < (d.getD 0 0 - d.getD 1 0).toNat
  · have full : decide (64 < unread (byteAt d 0) (byteAt d 1)) = true := decide_eq_true hfull
    have read : headerRead 64 d = d.getD 0 0 := if_pos hfull
    rw [full]
    refine ⟨[.write (p.callsBase + 1) [d.getD 0 0] .plain], Nat.le_refl _, ?_⟩
    rw [callsTaken, read]
    rfl
  · have full : decide (64 < unread (byteAt d 0) (byteAt d 1)) = false := decide_eq_false hfull
    have read : headerRead 64 d = d.getD 1 0 := if_neg hfull
    rw [full]
    refine ⟨[], Nat.zero_le _, ?_⟩
    rw [callsTaken, read]
    rfl

/-- The records unread by a header taken: as many as there are places, or fewer. -/
theorem headerRead_unread (places : Nat) (d : List Byte) :
    (d.getD 0 0 - headerRead places d).toNat ≤ places
      ∧ ((d.getD 0 0 - headerRead places d).toNat = places ∧ places ≠ 0
        ↔ (d.getD 0 0 - d.getD 1 0).toNat = places ∧ places ≠ 0) := by
  unfold headerRead
  split
  · next h =>
    have zero : (d.getD 0 0 - d.getD 0 0).toNat = 0 := by simp
    rw [zero]
    omega
  · next h => exact ⟨Nat.not_lt.mp h, Iff.rfl⟩

/-- What a pending record does where a header has been taken: it is placed unless the ring is full. -/
theorem placePending_taken (hp : s.gate.profile = some p) :
    unposted (placePending s) = unposted { s with ring := (placePending s).ring }
      ∧ (placePending s).ev = s.ev ∧ grows s (placePending s)
      ∧ (placePending s).ring.seq = s.ring.seq ∧ (placePending s).ring.r = s.ring.r
      ∧ (placePending s).ring.notKept = s.ring.notKept
      ∧ (s.ring.slot = none ∨ (s.ring.w - s.ring.r).toNat = 64 →
        (placePending s).ring.w = s.ring.w ∧ (placePending s).ring.slot = s.ring.slot)
      ∧ ∀ c, s.ring.slot = some c → (s.ring.w - s.ring.r).toNat < 64 →
        (placePending s).ring.w = s.ring.w + 1 ∧ (placePending s).ring.slot = none
          ∧ (s.gate.waiters = [] → s.gate.queue.length ≤ 14 →
            (placePending s).gate.queue = s.gate.queue ++ recordRuns p c s.ring.w) := by
  cases hslot : s.ring.slot with
  | none =>
    rw [placePending_none hslot]
    exact ⟨rfl, rfl, grows_refl s, rfl, rfl, rfl, fun _ => ⟨rfl, hslot⟩, nofun⟩
  | some c =>
    by_cases hroom : (s.ring.w - s.ring.r).toNat < 64
    · have placed : placePending s = touchLive (offer .record (recordRuns p c s.ring.w)
          { s with ring := { s.ring with slot := none, w := s.ring.w + 1 } }) := by
        simp only [placePending, hslot, placeRecord, hp, recordRuns]
        exact if_pos hroom
      have un := offer_unposted .record (recordRuns p c s.ring.w)
        { s with ring := { s.ring with slot := none, w := s.ring.w + 1 } }
      have ev := offer_ev .record (recordRuns p c s.ring.w)
        { s with ring := { s.ring with slot := none, w := s.ring.w + 1 } }
      have posts := offer_grows .record (recordRuns p c s.ring.w)
        { s with ring := { s.ring with slot := none, w := s.ring.w + 1 } }
      have queue : s.gate.waiters = [] → s.gate.queue.length ≤ 14 →
          (offer .record (recordRuns p c s.ring.w)
            { s with ring := { s.ring with slot := none, w := s.ring.w + 1 } }).gate.queue
            = s.gate.queue ++ recordRuns p c s.ring.w := fun hw hq => by
        rw [offer_room .record (recordRuns p c s.ring.w)
          { s with ring := { s.ring with slot := none, w := s.ring.w + 1 } } hw
          (Nat.add_le_add_right hq 2)]
      rw [placed]
      have ring := ring_of_unposted un
      have touched : ∀ v : State, (touchLive v).ring = v.ring ∧ (touchLive v).ev = v.ev
          ∧ (touchLive v).gate = v.gate := fun _ => ⟨rfl, rfl, rfl⟩
      generalize offer .record (recordRuns p c s.ring.w) _ = v at *
      obtain ⟨t1, t2, t3⟩ := touched v
      rw [touchLive_unposted, t1, t2, t3, ring, un]
      refine ⟨rfl, ev, ?_, rfl, rfl, rfl, fun h => ?_, ?_⟩
      · exact grows_trans (grows_from posts rfl) (grows_same (congrArg Gate.queue t3))
      · obtain h | h := h
        · exact absurd h (by simp)
        · omega
      · intro c' hc' _
        obtain rfl := Option.some.inj hc'
        exact ⟨rfl, rfl, queue⟩
    · rw [placePending_full hslot (Nat.not_lt.mp hroom)]
      exact ⟨rfl, rfl, grows_refl s, rfl, rfl, rfl, fun _ => ⟨rfl, hslot⟩, fun _ _ h => absurd h hroom⟩

/-- What the end of a step outside RUNNING leaves: the closing reasons apart, the posts alone have changed. -/
structure Rested (s t : State) : Prop where
  kept : unposted t = unposted { s with coin := { s.coin with reasons := t.coin.reasons } }
  ev : t.ev = s.ev
  posts : grows s t

theorem finish_rested (n : Nat) (h : s.sys.part ≠ .running) : Rested s (finish n s) := by
  obtain ⟨r, hr⟩ := finish_still n h
  have ev := finish_ev_still n h
  have posts := finish_grows n s
  generalize finish n s = t at *
  have reasons : t.coin.reasons = r := congrArg Coin.reasons ((coin_of_unposted hr).trans rfl)
  exact ⟨by rw [reasons, hr], ev, posts⟩

theorem Rested.fields (h : Rested s t) : t.mem = s.mem ∧ t.sys = s.sys ∧ t.ring = s.ring
    ∧ t.tally = s.tally ∧ t.visit = s.visit ∧ t.cal = s.cal ∧ t.orders = s.orders ∧ t.call = s.call
    ∧ t.meter = s.meter ∧ t.tamper = s.tamper ∧ t.tariff = s.tariff
    ∧ t.gate.profile = s.gate.profile
    ∧ t.coin = { s.coin with reasons := t.coin.reasons } := by
  have un := h.kept
  exact ⟨(mem_of_unposted un).trans rfl, (sys_of_unposted un).trans rfl, (ring_of_unposted un).trans rfl,
    (tally_of_unposted un).trans rfl, (visit_of_unposted un).trans rfl, (cal_of_unposted un).trans rfl,
    (orders_of_unposted un).trans rfl, (call_of_unposted un).trans rfl, (meter_of_unposted un).trans rfl,
    (tamper_of_unposted un).trans rfl, (tariff_of_unposted un).trans rfl,
    (profile_of_unposted un).trans rfl, (coin_of_unposted un).trans rfl⟩

end

/-- Settles O21. -/
theorem slotsAndRingHeadersAreTaken : Obligations.SlotsAndRingHeadersAreTaken := by
  refine ⟨fun s p n d hr h hroom hp h1 h2 h3 => ?_, fun s p d hr hp => ⟨fun h => ?_, fun h => ?_⟩⟩
  · obtain ⟨c0, c3, c1, c4⟩ := scanEffect_cases (s := headGone s) (d := d) hp h1 h2 h3
    exact ⟨fun h0 => leads_scan hr h (c0 h0), fun h0 => leads_scan hr h (c3 h0),
      fun h0 => leadsWith_scan hr h hroom (c1 h0), fun h0 => leadsWith_scan hr h hroom (c4 h0)⟩
  · obtain ⟨es, -, he⟩ := eventHeaderEffect_eq (s := headGone s) (d := d) hp
    have un := offer_unposted .record es (eventsTaken d (headGone s))
    have ev := offer_ev .record es (eventsTaken d (headGone s))
    have xmem : _ = s.mem := (mem_of_unposted un).trans rfl
    have xring : _ = s.ring := (ring_of_unposted un).trans rfl
    have xtally : _ = s.tally := (tally_of_unposted un).trans rfl
    have xsys : _ = { s.sys with evDone := true } := (sys_of_unposted un).trans rfl
    have xheld : _ = [] := (held_of_steady (steady_of_unposted un)).trans (headGone_held h)
    have xev := ev.trans (eventsTaken_ev d (headGone s))
    generalize offer .record es (eventsTaken d (headGone s)) = x at *
    have staged := endRecords_staged x
    obtain ⟨ymem, -, yring, ytally, -, -, -, -, -, -, yheld, -, ysys⟩ := staged.fields
    have yev := staged.ev
    have run := exec_eventHeader hr h (by rw [he, yheld, xheld])
    rw [he] at run
    generalize endRecords x = y at *
    have ystart : y.sys.part ≠ .running := by rw [ysys, xsys]; simp [hr]
    have rested := finish_rested (waiting s) ystart
    obtain ⟨tmem, tsys, tring, ttally, -⟩ := rested.fields
    have tev := rested.ev
    generalize finish (waiting s) y = t at *
    rw [xev] at yev
    rw [yev] at tev
    refine ⟨t, run, by rw [tsys, ysys, xsys], by rw [tev], by rw [tev], by rw [tev]; rfl, by rw [tev]; rfl, ?_, ?_,
      ?_⟩
    · rw [tring, yring, xring]
    · rw [tmem, ymem, xmem]
    · rw [ttally, ytally, xtally]
  · obtain ⟨es, hes, he⟩ := callHeaderEffect_eq (s := headGone s) (d := d) hp
    have un := offer_unposted .record es (callsTaken d (headGone s))
    have ev := offer_ev .record es (callsTaken d (headGone s))
    have xmem : _ = s.mem := (mem_of_unposted un).trans rfl
    have xring : _ = { s.ring with w := d.getD 0 0, r := headerRead 64 d, notKept := (d.getD 2 0).toNat } :=
      (ring_of_unposted un).trans rfl
    have xtally : _ = s.tally := (tally_of_unposted un).trans rfl
    have xsys : _ = { s.sys with callDone := true } := (sys_of_unposted un).trans rfl
    have xheld : _ = [] := (held_of_steady (steady_of_unposted un)).trans (headGone_held h)
    have xprof : _ = some p := (profile_of_unposted un).trans hp
    have xev : _ = s.ev := ev.trans rfl
    have room : roomy s → (offer .record es (callsTaken d (headGone s))).gate.waiters = []
        ∧ ∃ l, (offer .record es (callsTaken d (headGone s))).gate.queue = (headGone s).gate.queue ++ l
          ∧ l.length ≤ 1 := fun hroom => by
      obtain ⟨hw, hq⟩ := headGone_room hroom
      rw [offer_room .record es (callsTaken d (headGone s)) hw (by
        show (headGone s).gate.queue.length + es.length ≤ 16
        omega)]
      exact ⟨hw, es, rfl, hes⟩
    generalize offer .record es (callsTaken d (headGone s)) = x at *
    obtain ⟨pkept, pev, pposts, pseq, pr, pnk, pstay, pplace⟩ := placePending_taken xprof
    have qmem : _ = x.mem := (mem_of_unposted pkept).trans rfl
    have qtally : _ = x.tally := (tally_of_unposted pkept).trans rfl
    have qsys : _ = x.sys := (sys_of_unposted pkept).trans rfl
    have qheld : _ = x.gate.held := (held_of_steady (steady_of_unposted pkept)).trans rfl
    generalize placePending x = q at *
    have staged := endRecords_staged q
    obtain ⟨ymem, -, yring, ytally, -, -, -, -, -, -, yheld, -, ysys⟩ := staged.fields
    have yev := staged.ev
    have yposts := staged.posts
    have run := exec_callHeader hr h (by rw [he, yheld, qheld, xheld])
    rw [he] at run
    generalize endRecords q = y at *
    have ystart : y.sys.part ≠ .running := by rw [ysys, qsys, xsys]; simp [hr]
    have rested := finish_rested (waiting s) ystart
    obtain ⟨tmem, tsys, tring, ttally, -⟩ := rested.fields
    have tev := rested.ev
    have tposts := rested.posts
    generalize finish (waiting s) y = t at *
    have ring : t.ring = q.ring := tring.trans yring
    obtain ⟨unread, full⟩ := headerRead_unread 64 d
    refine ⟨t, run, by rw [tsys, ysys, qsys, xsys], by rw [ring, pnk, xring], by rw [ring, pr, xring]; rfl,
      fun h0 => ?_, fun c hc h0 => ?_, by rw [ring, pseq, xring], by rw [tev, yev, pev, xev],
      by rw [tmem, ymem, qmem, xmem], by rw [ttally, ytally, qtally, xtally]⟩
    · rw [xring] at pstay
      have := pstay (h0.imp_right fun h64 => (full.mpr ⟨h64, by decide⟩).1)
      rw [ring, this.1, this.2]
      exact ⟨rfl, rfl⟩
    · rw [xring] at pplace
      have below : (d.getD 0 0 - headerRead 64 d).toNat < 64 :=
        Nat.lt_of_le_of_ne unread fun h64 => h0 (full.mp ⟨h64, by decide⟩).1
      obtain ⟨pw, pslot, pqueue⟩ := pplace c hc below
      refine ⟨by rw [ring, pw], by rw [ring, pslot], fun hroom => ?_⟩
      obtain ⟨xw, l, xq, xl⟩ := room hroom
      obtain ⟨-, hq⟩ := headGone_room hroom
      have queue := pqueue xw (by rw [xq, List.length_append]; omega)
      rw [xq] at queue
      exact postedTogether_of_append queue (grows_trans yposts tposts)

end Sys2Proof.Proofs

/-! The fields of an area read (section 13.1): each is the bytes at its offset; and the checks and the fields of
a profile (R4, R6, section 13.2). -/
namespace Sys2Proof.Proofs
open Sys2Proof.Machine Sys2Proof.Safety Sys2Proof.Laws

section
variable {bs : List Byte} {i k page : Nat}

/-! ### Fields -/

theorem fieldAt_zero (bs : List Byte) (i : Nat) : fieldAt bs i 0 = 0 := by
  rw [fieldAt, List.take_zero]
  rfl

theorem fieldAt_succ (bs : List Byte) (i k : Nat) :
    fieldAt bs i (k + 1) = u8 bs i + 256 * fieldAt bs (i + 1) k := by
  unfold fieldAt u8
  by_cases h : i < bs.length
  · rw [List.drop_eq_getElem_cons h, List.take_succ_cons, leNat, byte_inside h]
  · have beyond : bs.drop i = [] := List.drop_eq_nil_of_le (by omega)
    have after : bs.drop (i + 1) = [] := List.drop_eq_nil_of_le (by omega)
    rw [beyond, after, byte_beyond (by omega)]
    simp [leNat]

theorem fieldAt_two (bs : List Byte) (i : Nat) : fieldAt bs i 2 = u16 bs i := by
  simp only [fieldAt_succ, fieldAt_zero, u16]
  omega

theorem fieldAt_three (bs : List Byte) (i : Nat) : fieldAt bs i 3 = u24 bs i := by
  simp only [fieldAt_succ, fieldAt_zero, u24, u16, Nat.add_assoc, Nat.reduceAdd]
  omega

theorem fieldAt_four (bs : List Byte) (i : Nat) : fieldAt bs i 4 = u32 bs i := by
  simp only [fieldAt_succ, fieldAt_zero, u32, u16, Nat.add_assoc, Nat.reduceAdd]
  omega

theorem timeAt_eq (bs : List Byte) (i : Nat) : timeAt bs i = packedAt bs i := by
  rw [timeAt, fieldAt_four]
  simp [unpackTime, packedAt, bitsOf]

theorem u8_lt (bs : List Byte) (i : Nat) : u8 bs i < 256 := (bs.getD i 0).isLt

theorem sumBytes_eq (bs : List Byte) : sumBytes bs = (bs.map (·.toNat)).sum := by
  have fold : ∀ (l : List Byte) (n : Nat),
      l.foldl (fun n b => n + b.toNat) n = n + (l.map (·.toNat)).sum := by
    intro l
    induction l with
    | nil => exact fun n => rfl
    | cons b l ih =>
      intro n
      rw [List.foldl_cons, ih, List.map_cons, List.sum_cons]
      omega
  exact (fold bs 0).trans (Nat.zero_add _)

/-- The counted codes of a field of packed digits. -/
theorem codesAt_take {n : Nat} (h : i + k ≤ bs.length) (hn : n ≤ 2 * k) :
    (codesAt bs i k).take n = (List.range n).map (digitCode bs i) := by
  rw [codesAt_range h, ← List.map_take, List.take_range, Nat.min_eq_left hn]

theorem clamp_ne {r : Nat × Nat} {n : Nat} (h : r.1 ≤ r.2) : clamp r n ≠ n ↔ n < r.1 ∨ r.2 < n := by
  unfold clamp
  omega

/-! ### The checks of a profile (R4) -/

theorem areasOf_eq (bs : List Byte) : areasOf bs = areas bs := by
  simp [areasOf, areaSizes, areas, fieldAt_two, List.zipIdx]

theorem allApart_iff (l : List (Nat × Nat)) :
    allApart l = true ↔ l.Pairwise (fun x y => x.1 + x.2 ≤ y.1 ∨ y.1 + y.2 ≤ x.1) := by
  induction l with
  | nil => simp [allApart]
  | cons x l ih => simp [allApart, apart, ih]

theorem areasPlaced_iff (page : Nat) (bs : List Byte) : areasPlaced page bs = true ↔ areasFit page bs := by
  rw [areasPlaced, areasOf_eq, Bool.and_eq_true, allApart_iff]
  simp [areasFit]

theorem classesOf_eq (bs : List Byte) :
    classesOf bs = (List.range 6).map (fun i => (u16 bs (23 + 3 * i), u8 bs (25 + 3 * i) != 0)) :=
  List.map_congr_left fun i _ => by rw [fieldAt_two, natAt_eq]

theorem classesGood_iff (bs : List Byte) :
    (classesOf bs).all (fun c => !c.2 || decide (1 ≤ c.1 ∧ c.1 ≤ 5000)) = true ↔ classesFit bs := by
  rw [classesOf_eq, List.all_eq_true]
  constructor
  · intro h i hi hne
    have fits := h _ (List.mem_map.mpr ⟨i, List.mem_range.mpr hi, rfl⟩)
    simpa [hne] using fits
  · intro h x hx
    obtain ⟨i, hi, rfl⟩ := List.mem_map.mp hx
    by_cases hz : u8 bs (25 + 3 * i) = 0
    · simp [hz]
    · simpa [hz] using h i (List.mem_range.mp hi) hz

theorem stationOf_eq (h : bs.length = 256) : stationOf bs = (List.range 8).map (digitCode bs 1) :=
  codesAt_range (by omega)

theorem stationGood_iff (h : bs.length = 256) :
    (stationOf bs).all (fun d => decide (d ≤ 9)) = true ↔ stationFits bs := by
  rw [stationOf_eq h, List.all_eq_true]
  simp [stationFits]

theorem emergencyAt_taken (h : bs.length = 256) (hi : i < 4) (hc : u8 bs (70 + 4 * i) ≤ 6) :
    (emergencyAt bs i).2.take (emergencyAt bs i).1
      = (List.range (u8 bs (70 + 4 * i))).map (digitCode bs (71 + 4 * i)) :=
  codesAt_take (by omega) hc

theorem emergencyGood_iff (h : bs.length = 256) (hi : i < 4) : emergencyGood (emergencyAt bs i) = true ↔
    u8 bs (70 + 4 * i) = 0 ∨ (2 ≤ u8 bs (70 + 4 * i) ∧ u8 bs (70 + 4 * i) ≤ 6
      ∧ ∀ j < u8 bs (70 + 4 * i), digitCode bs (71 + 4 * i) j ≤ 9) := by
  have count : (emergencyAt bs i).1 = u8 bs (70 + 4 * i) := rfl
  unfold emergencyGood
  by_cases hc : u8 bs (70 + 4 * i) ≤ 6
  · rw [emergencyAt_taken h hi hc, count]
    simp [hc]
  · rw [count]
    simp [hc]

theorem emergenciesGood_iff (h : bs.length = 256) :
    (List.range 4).all (fun i => emergencyGood (emergencyAt bs i)) = true ↔ emergencyFits bs := by
  rw [List.all_eq_true]
  exact ⟨fun all i hi => (emergencyGood_iff h hi).mp (all i (List.mem_range.mpr hi)),
    fun all i hi => (emergencyGood_iff h (List.mem_range.mp hi)).mpr (all i (List.mem_range.mp hi))⟩

/-- The checks of R4 in their order. -/
theorem profileFault_checks (h : bs.length = 256) : profileFault page bs =
    if (bs.map (·.toNat)).sum % 256 ≠ 0 then some 0x82
    else if u8 bs 0 ≠ 1 then some 0x83
    else if ¬ areasFit page bs then some 0x84
    else if ¬ classesFit bs then some 0x85
    else if ¬ stationFits bs then some 0x86
    else if ¬ emergencyFits bs then some 0x87
    else none := by
  have version : byteAt bs 0 ≠ 1 ↔ u8 bs 0 ≠ 1 :=
    not_congr ⟨fun h => congrArg BitVec.toNat h, fun h => BitVec.eq_of_toNat_eq h⟩
  have refused : ∀ {b : Bool} {q : Prop}, (b = true ↔ q) → ((!b) = true ↔ ¬ q) := fun hb => by
    rw [Bool.not_eq_true', ← Bool.not_eq_true, hb]
  unfold profileFault
  simp only [sumBytes_eq, version, refused (areasPlaced_iff page bs), refused (classesGood_iff bs),
    refused (stationGood_iff h), refused (emergenciesGood_iff h)]

/-! ### The fields of a profile (R6) -/

theorem timing_eq (bs : List Byte) (i : Nat) :
    timing bs i = clamp (timingRanges.getD i (0, 0)) (u16 bs (86 + 2 * i)) := by
  rw [timing, timingRaw, fieldAt_two]

theorem reportRaw_eq (hi : i + 9 ≤ bs.length) :
    reportRaw bs i = (List.range (min 16 (u8 bs i))).map (digitCode bs (i + 1)) :=
  codesAt_take (by omega) (Nat.min_le_left _ _)

theorem reportNumber_eq (hi : i + 9 ≤ bs.length) : reportNumber bs i
    = (List.range (min 16 (u8 bs i))).map (fun j => min 12 (digitCode bs (i + 1) j)) := by
  rw [reportNumber, reportRaw_eq hi, List.map_map]
  refine List.map_congr_left fun j _ => ?_
  show (if 12 < digitCode bs (i + 1) j then 12 else digitCode bs (i + 1) j) = _
  split <;> omega

theorem timingBounds_eq :
    timingBounds = (List.range 12).map (fun i => (86 + 2 * i, timingRanges.getD i (0, 0))) := by decide

theorem timingOut_iff (bs : List Byte) : (List.range 12).any (fun i => timing bs i != timingRaw bs i) = true ↔
    ∃ x ∈ timingBounds, u16 bs x.1 < x.2.1 ∨ x.2.2 < u16 bs x.1 := by
  have range : ∀ i < 12, (timingRanges.getD i (0, 0)).1 ≤ (timingRanges.getD i (0, 0)).2 := by decide
  rw [timingBounds_eq, List.any_eq_true]
  simp only [List.mem_map, List.mem_range, bne_iff_ne]
  constructor
  · rintro ⟨i, hi, h⟩
    rw [timing, timingRaw, fieldAt_two] at h
    exact ⟨_, ⟨i, hi, rfl⟩, (clamp_ne (range i hi)).mp h⟩
  · rintro ⟨_, ⟨i, hi, rfl⟩, h⟩
    refine ⟨i, hi, ?_⟩
    rw [timing, timingRaw, fieldAt_two]
    exact (clamp_ne (range i hi)).mpr h

theorem reportOut_iff (hi : i + 9 ≤ bs.length) : (reportRaw bs i).any (fun d => decide (12 < d)) = true ↔
    ∃ j < min 16 (u8 bs i), 12 < digitCode bs (i + 1) j := by
  rw [reportRaw_eq hi, List.any_eq_true]
  simp only [List.mem_map, List.mem_range, decide_eq_true_iff]
  exact ⟨fun ⟨_, ⟨j, hj, hd⟩, h⟩ => ⟨j, hj, hd ▸ h⟩, fun ⟨j, hj, h⟩ => ⟨_, ⟨j, hj, rfl⟩, h⟩⟩

/-- A profile is clamped exactly when a field of R6 is out of its range. -/
theorem profileClamped_iff (h : bs.length = 256) : profileClamped bs = true ↔ someFieldOut bs := by
  have severities : (List.range 7).any (fun i => decide (3 < natAt bs (45 + i))) = true ↔
      ∃ i < 7, 3 < u8 bs (45 + i) := by
    simp only [List.any_eq_true, List.mem_range, decide_eq_true_iff]
    exact Iff.rfl
  have choice : ∀ j, (!(natAt bs j == 1 || natAt bs j == 2)) = true ↔ u8 bs j ≠ 1 ∧ u8 bs j ≠ 2 := by
    intro j
    rw [natAt_eq]
    simp
  unfold profileClamped
  simp only [Bool.or_eq_true, timingOut_iff, severities, choice, decide_eq_true_iff, or_assoc,
    reportOut_iff (i := 52) (bs := bs) (by omega), reportOut_iff (i := 61) (bs := bs) (by omega)]
  exact Iff.rfl

theorem emergency_get (h : bs.length = 256) (hi : i < 4) (hc : u8 bs (70 + 4 * i) ≤ 6) :
    (readProfile bs).emergency[i]?
      = some ((List.range (u8 bs (70 + 4 * i))).map (digitCode bs (71 + 4 * i))) := by
  show ((List.range 4).map (fun i => (emergencyAt bs i).2.take (emergencyAt bs i).1))[i]? = _
  rw [List.getElem?_map, List.getElem?_range hi, Option.map_some, emergencyAt_taken h hi hc]

end

end Sys2Proof.Proofs

/-! The anchor and the profile are judged (R2, R4 to R6, R179). -/
namespace Sys2Proof.Proofs
open Sys2Proof.Machine Sys2Proof.Safety Sys2Proof.Laws

section
variable {s t u : State} {p : Profile} {d bs : List Byte} {code : Byte}

/-! ### A full queue (R12) -/

theorem joinLine_full (q : Producer) (l : List Offer) (s : State) : placeFree (joinLine q l s) = false := by
  have some_wait : ∀ ws : List Waiter, ws ≠ [] → ws.isEmpty = false := fun ws h => by
    cases ws
    · exact absurd rfl h
    · rfl
  unfold joinLine
  split
  · next h =>
    have there : s.gate.waiters ≠ [] := fun h0 => by rw [h0] at h; exact absurd h (by simp)
    unfold placeFree
    dsimp only
    rw [some_wait _ (by simpa using there), Bool.false_and]
  · unfold placeFree
    dsimp only
    rw [some_wait _ (by simp), Bool.false_and]

/-- Sixteen entries leave no place. -/
theorem offer_fills (q : Producer) (es : List PostEntry) (h : 16 ≤ s.gate.queue.length + es.length) :
    placeFree (offer q es s) = false := by
  unfold offer
  induction es generalizing s with
  | nil =>
    have long : 16 ≤ s.gate.queue.length := h
    show (s.gate.waiters.isEmpty && decide (s.gate.queue.length < 16)) = false
    rw [decide_eq_false (by omega), Bool.and_false]
  | cons e es ih =>
    rw [List.map_cons, offerItems]
    split
    · refine ih ?_
      show 16 ≤ (s.gate.queue ++ [e]).length + es.length
      rw [List.length_append, List.length_singleton]
      rw [List.length_cons] at h
      omega
    · exact joinLine_full _ _ _

theorem giveRewrite_full (i : ImageId) (h : placeFree s = false) : placeFree (giveRewrite i s) = false := by
  have same : ∀ v : State, v.gate = s.gate → placeFree v = false := fun v hv => by
    unfold placeFree at h ⊢
    rwa [hv]
  unfold giveRewrite goOnImage
  dsimp only
  split
  · split
    · unfold pumpImage
      have full := same (startOwed i (setImage i { getImage i s with owed := true } s)) (by
        rw [startOwed_gate, setImage_gate])
      split
      · exact full
      · rw [if_neg (by rw [full]; exact Bool.false_ne_true)]
        exact joinLine_full _ _ _
    · exact h
    · exact h
    · exact same _ (setImage_gate _ _ _)
    · exact same _ (setImage_gate _ _ _)
  · exact h

theorem beginImage_full (i : ImageId) (h : placeFree s = false) : placeFree (beginImage i s) = false := by
  refine giveRewrite_full i ?_
  unfold placeFree at h ⊢
  rwa [setImage_gate]

/-- What is offered to a full queue waits. -/
theorem offer_joins (q : Producer) (e : PostEntry) (es : List PostEntry) (h : placeFree s = false) :
    waitsWith q (.entry e) (offer q (e :: es) s) := by
  have joined : offer q (e :: es) s = joinLine q (.entry e :: es.map .entry) s := by
    rw [offer, List.map_cons, offerItems, if_neg (by rw [h]; exact Bool.false_ne_true)]
  rw [joined]
  exact joinLine_waitsWith q List.mem_cons_self

theorem beginImage_waits {q : Producer} {x : Offer} (i : ImageId) (h : waitsWith q x s) :
    waitsWith q x (beginImage i s) :=
  giveRewrite_waits i (waits_same (by rw [setImage_gate]) h)

/-- While the Record Unit waits for a place the stage's posts are not all given. -/
theorem stage_waits {e : Offer} (h : waitsWith .record e s) : stagePostsGiven s = false := by
  obtain ⟨w, hw, hwho, -⟩ := h
  refine List.all_eq_false.mpr ⟨w, hw, ?_⟩
  rw [hwho]
  decide

/-! ### Stage 3 begins (R5, R179) -/

/-- Between `s` and `t` stage 3 has begun: the reads that are not to be made and the channels apart, the posts
alone have changed. -/
def begun (s t : State) : Prop := unposted t = unposted { s with
  sys := { s.sys with evDone := t.sys.evDone, callDone := t.sys.callDone, tallyDone := t.sys.tallyDone,
                      tamperDone := t.sys.tamperDone },
  tamper := t.tamper }

/-- The state `u` with the done flags and the tamper block of `t`. -/
def recordsAs (t u : State) : State :=
  { u with
    sys := { u.sys with evDone := t.sys.evDone, callDone := t.sys.callDone, tallyDone := t.sys.tallyDone,
                        tamperDone := t.sys.tamperDone },
    tamper := t.tamper }

theorem begun_of_unposted (h : unposted t = unposted s) : begun s t := by
  have sys := sys_of_unposted h
  have tamper := tamper_of_unposted h
  rw [begun, sys, tamper, h]

theorem beginImage_unposted (i : ImageId) (s : State) : unposted (beginImage i s) = unposted s :=
  (giveRewrite_unposted i _).trans (setImage_unposted i _ s)

/-- What stage 3 at a cold power-on takes as done. -/
def coldRecords (p : Profile) (s : State) : State :=
  { s with
    sys := { s.sys with evDone := true, callDone := true, tallyDone := true, tamperDone := true },
    tamper := { s.tamper with chans := freshChans p } }

theorem beginCold_eq (p : Profile) (s : State) : beginCold p s = beginImage .tally
    (offer .record [zeroHeader p.eventsBase, zeroHeader p.callsBase] (coldRecords p s)) := rfl

theorem beginCold_begun (h : placeFree s = false) :
    begun s (beginCold p s) ∧ stagePostsGiven (beginCold p s) = false := by
  have un := (beginImage_unposted .tally _).trans (offer_unposted .record
    [zeroHeader p.eventsBase, zeroHeader p.callsBase] (coldRecords p s))
  have waits := beginImage_waits .tally
    (offer_joins (s := coldRecords p s) .record (zeroHeader p.eventsBase) [zeroHeader p.callsBase] h)
  rw [beginCold_eq]
  refine ⟨?_, stage_waits waits⟩
  generalize beginImage .tally _ = v at *
  have sys := sys_of_unposted un
  have tamper := tamper_of_unposted un
  rw [begun, sys, tamper, un]
  rfl

theorem beginRestore_begun (h : placeFree s = false) :
    begun s (beginRestore p s) ∧ stagePostsGiven (beginRestore p s) = false := by
  have un := (offer_unposted .tamperUnit (readRuns .tamper p.tamperBase [64, 64, 16]) _).trans
    (offer_unposted .record (headerReads p ++ readRuns .tally p.tallyBase [64, 64, 64]) s)
  exact ⟨begun_of_unposted un, stage_waits (offer_waits .tamperUnit _ (offer_joins .record _ _ h))⟩

/-- What stage 3 at a soft restart takes as done. -/
def softRecords (shown : List Byte) (s : State) : State :=
  { s with
    sys := { s.sys with tallyDone := true, tamperDone := true },
    img := { s.img with tally := { s.img.tally with on := true, shown := shown } } }

theorem beginSoft_eq (old : Option Profile) (p : Profile) (s : State) : ∃ shown, beginSoft old p s
    = giveRewrite .tally (offer .record (headerReads p) (softRecords shown s)) := ⟨_, rfl⟩

theorem beginSoft_begun {old : Option Profile} (h : placeFree s = false) :
    begun s (beginSoft old p s) ∧ stagePostsGiven (beginSoft old p s) = false := by
  obtain ⟨shown, is⟩ := beginSoft_eq old p s
  have un := (giveRewrite_unposted .tally _).trans
    (offer_unposted .record (headerReads p) (softRecords shown s))
  have waits := giveRewrite_waits .tally
    (offer_joins (s := softRecords shown s) .record (.read p.eventsBase 16 .eventHeader)
      [.read p.callsBase 16 .callHeader] h)
  rw [is]
  refine ⟨?_, stage_waits waits⟩
  generalize giveRewrite .tally _ = v at *
  have sys := sys_of_unposted un
  have tamper := tamper_of_unposted un
  rw [begun, sys, tamper, un]
  rfl

/-! ### The profile is accepted (R5, R6) -/

/-- The fields that an accepted profile sets. -/
def accepted (bs : List Byte) (s : State) : State :=
  { s with
    gate := { s.gate with profile := some (readProfile bs), slotGuard := slotGuards s.orders.slots },
    sys := { s.sys with accepted := true, stage := .records,
                        status := if profileClamped bs then 2 else 1 },
    cal := { s.cal with note := false },
    coin := { s.coin with inhibits := inhibitsOf (readProfile bs) } }

/-- The slot scan's sixteen runs leave no place, so that stage 3 has not ended. -/
theorem acceptProfile_begun (bs : List Byte) (s : State) : begun (accepted bs s) (acceptProfile bs s) := by
  have full : placeFree (beginImage .clock (offer .orderUnit (scanRuns (readProfile bs)) (accepted bs s)))
      = false := beginImage_full .clock (offer_fills .orderUnit _ (by
    have sixteen : (scanRuns (readProfile bs)).length = 16 := by simp [scanRuns]
    rw [sixteen]
    exact Nat.le_add_left _ _))
  have un := (beginImage_unposted .clock _).trans
    (offer_unposted .orderUnit (scanRuns (readProfile bs)) (accepted bs s))
  have is : acceptProfile bs s = endRecords (match s.sys.kind with
      | .cold => beginCold (readProfile bs)
          (beginImage .clock (offer .orderUnit (scanRuns (readProfile bs)) (accepted bs s)))
      | .restoration | .hard => beginRestore (readProfile bs)
          (beginImage .clock (offer .orderUnit (scanRuns (readProfile bs)) (accepted bs s)))
      | .soft => beginSoft s.gate.profile (readProfile bs)
          (beginImage .clock (offer .orderUnit (scanRuns (readProfile bs)) (accepted bs s)))) := rfl
  rw [is]
  generalize beginImage .clock _ = v at *
  have sys := sys_of_unposted un
  have going : ∀ w, begun v w ∧ stagePostsGiven w = false → begun (accepted bs s) (endRecords w) := by
    rintro w ⟨kept, waits⟩
    have stays : endRecords w = w := if_neg (by simp [stageGiven, waits])
    rw [stays]
    exact kept.trans (congrArg (recordsAs w) un)
  split
  · exact going _ (beginCold_begun full)
  · exact going _ (beginRestore_begun full)
  · exact going _ (beginRestore_begun full)
  · exact going _ (beginSoft_begun full)

theorem begun.fields (h : begun s t) : t.mem = s.mem ∧ t.cal = s.cal ∧ t.orders = s.orders
    ∧ t.coin = s.coin ∧ t.meter = s.meter ∧ t.call = s.call ∧ t.tariff = s.tariff
    ∧ t.gate.profile = s.gate.profile ∧ t.gate.held = s.gate.held ∧ t.sys.part = s.sys.part
    ∧ t.sys.accepted = s.sys.accepted ∧ t.sys.status = s.sys.status ∧ t.sys.stage = s.sys.stage := by
  have sys := sys_of_unposted h
  exact ⟨(mem_of_unposted h).trans rfl, (cal_of_unposted h).trans rfl, (orders_of_unposted h).trans rfl,
    (coin_of_unposted h).trans rfl, (meter_of_unposted h).trans rfl, (call_of_unposted h).trans rfl,
    (tariff_of_unposted h).trans rfl, (profile_of_unposted h).trans rfl,
    (held_of_steady (steady_of_unposted h)).trans rfl, (congrArg Sys.part sys).trans rfl,
    (congrArg Sys.accepted sys).trans rfl, (congrArg Sys.status sys).trans rfl,
    (congrArg Sys.stage sys).trans rfl⟩

/-! ### The commands -/

theorem exec_anchorRead (hr : s.sys.part = .starting) (h : handed .anchor d s)
    (hheld : (anchorEffect d (headGone s)).gate.held = []) : exec .anchorRead s
      = .next (finish (waiting s) (anchorEffect d (headGone s))) :=
  congrArg Host.Outcome.next (startRead_handed hr h hheld)

theorem exec_profileCheck (hr : s.sys.part = .starting) (h : handed (.profile true) d s)
    (hheld : (profileEffect d (headGone s)).gate.held = []) : exec .profileCheck s
      = .next (finish (waiting s) (profileEffect d (headGone s))) :=
  congrArg Host.Outcome.next (startRead_handed hr h hheld)

/-- The state that a refused profile leaves, its status byte not yet posted. -/
def refused (code : Byte) (s : State) : State :=
  { s with
    sys := { s.sys with part := .unconfigured, accepted := false, status := code, heldRefused := 0 },
    gate := { s.gate with profile := none, slotGuard := 0 } }

/-- A refusal leaves the part UNCONFIGURED with no map, and posts the status byte (R4, R181). -/
theorem refuse_leads {c : Instr} (hroom : roomy s)
    (run : (refuseProfile code (headGone s)).gate.held = (headGone s).gate.held →
      exec c s = .next (finish (waiting s) (refuseProfile code (headGone s)))) :
    leadsWith c s (refused code (headGone s)) (posted (.write 0xFFFE [code] .plain) (headGone s)) := by
  obtain ⟨hw, hq⟩ := headGone_room hroom
  have room : refuseProfile code (headGone s) = _ := offer_room .gate [.write 0xFFFE [code] .plain] _ hw
    (Nat.le_trans (Nat.add_le_add_right hq 1) (by decide))
  rw [room] at run
  exact ⟨_, run rfl, (finish_steady _ _).trans rfl, posted_finish _ rfl⟩

end

/-- Settles O20. -/
theorem anchorAndProfileAreJudged : Obligations.AnchorAndProfileAreJudged := by
  refine ⟨fun s d hr h hroom => ⟨fun h1 h2 => ?_, fun h1 => ?_⟩, fun s d hr h hroom bs hbs =>
    ⟨fun code hf => ?_, fun hf => ?_⟩, fun page bs hl => ?_, fun bs p hl hp => ?_⟩
  · obtain ⟨hw, hq⟩ := headGone_room hroom
    have good : byteAt d 1 = byteAt d 0 ^^^ 0xFF ∧ natAt d 0 ≠ 0xFF :=
      ⟨h1, fun h => h2 (BitVec.eq_of_toNat_eq h)⟩
    have given : anchorEffect d (headGone s) = _ := (if_pos good).trans (offer_room .gate
      (readRuns .profile (natAt d 0 * 256) [64, 64, 64, 64]) _ hw
      (Nat.le_trans (Nat.add_le_add_right hq 4) (by decide)))
    have run := exec_anchorRead hr h (by rw [given]; exact headGone_held (s := s) h)
    rw [given] at run
    refine ⟨_, run, (finish_steady _ _).trans rfl, fun k hk => ?_⟩
    have grown := finish_grows (waiting s) (anchorEffect d (headGone s))
    rw [given] at grown
    obtain ⟨l, hl⟩ := grown
    rw [posted, ← hl]
    refine ⟨⟨_, (List.append_assoc _ _ _).symm⟩, ?_⟩
    rw [List.append_assoc, List.drop_left]
    refine List.mem_append_left l ?_
    obtain rfl | rfl | rfl | rfl : k = 0 ∨ k = 1 ∨ k = 2 ∨ k = 3 := by omega
    all_goals simp [readRuns, natAt, byteAt, Nat.add_assoc]
  · have bad : ¬ (byteAt d 1 = byteAt d 0 ^^^ 0xFF ∧ natAt d 0 ≠ 0xFF) := fun good =>
      h1.elim (fun h => h good.1) fun h => good.2 (congrArg BitVec.toNat h)
    have given : anchorEffect d (headGone s) = refuseProfile 0x81 (headGone s) := if_neg bad
    exact refuse_leads hroom fun hheld => given ▸ exec_anchorRead hr h
      (by rw [given, hheld]; exact headGone_held (s := s) h)
  · subst hbs
    have given : profileEffect d (headGone s) = refuseProfile code (headGone s) := by
      unfold profileEffect
      dsimp only
      rw [show profileFault (headGone s).gate.page ((headGone s).gate.profileBuf ++ d) = some code from hf]
    exact refuse_leads hroom fun hheld => given ▸ exec_profileCheck hr h
      (by rw [given, hheld]; exact headGone_held (s := s) h)
  · have given : profileEffect d (headGone s) = acceptProfile bs (headGone s) := by
      subst hbs
      unfold profileEffect
      dsimp only
      rw [show profileFault (headGone s).gate.page ((headGone s).gate.profileBuf ++ d) = none from hf]
      rfl
    obtain ⟨xmem, xcal, xorders, xcoin, xmeter, xcall, xtariff, xprof, xheld, xpart, xacc, xstatus, xstage⟩ :=
      (acceptProfile_begun bs (headGone s)).fields
    have run := exec_profileCheck hr h (by rw [given, xheld]; exact headGone_held (s := s) h)
    rw [given] at run
    generalize acceptProfile bs (headGone s) = x at *
    have part : x.sys.part = .starting := xpart.trans hr
    obtain ⟨tmem, tsys, -, -, -, tcal, torders, tcall, tmeter, -, ttariff, tprof, tcoin⟩ :=
      (finish_rested (waiting s) (by rw [part]; decide : x.sys.part ≠ .running)).fields
    generalize finish (waiting s) x = t at *
    refine ⟨t, run, by rw [tsys, part], by rw [tsys, xacc]; rfl, by rw [tprof, xprof]; rfl,
      by rw [tsys, xstatus]; rfl, by rw [tcoin, xcoin]; rfl, by rw [tsys, xstage]; rfl,
      by rw [ttariff, xtariff]; rfl, by rw [tmem, xmem]; rfl, by rw [tcal, xcal]; rfl,
      by rw [torders, xorders]; rfl, by rw [tcoin, xcoin]; rfl, by rw [tmeter, xmeter]; rfl,
      by rw [tcall, xcall]; rfl⟩
  · rw [profileFault_checks hl]
    exact ⟨fun h1 => if_pos h1, fun h1 => ⟨fun h2 => (if_neg (not_not_intro h1)).trans (if_pos h2), fun h2 => by
      rw [if_neg (not_not_intro h1), if_neg (not_not_intro h2)]
      exact ⟨fun h3 => if_pos h3, fun h3 => by
        rw [if_neg (not_not_intro h3)]
        exact ⟨fun h4 => if_pos h4, fun h4 => by
          rw [if_neg (not_not_intro h4)]
          exact ⟨fun h5 => if_pos h5, fun h5 => by
            rw [if_neg (not_not_intro h5)]
            exact ⟨fun h6 => if_pos h6, fun h6 => if_neg (not_not_intro h6)⟩⟩⟩⟩⟩⟩
  · subst hp
    exact ⟨fieldAt_two bs _, fieldAt_two bs _, fieldAt_two bs _, fieldAt_two bs _, fieldAt_two bs _,
      fieldAt_two bs _, fieldAt_two bs _, fieldAt_two bs _, fieldAt_two bs _, stationOf_eq hl, classesOf_eq bs,
      rfl, rfl, rfl, rfl, rfl, reportNumber_eq (by omega), reportNumber_eq (by omega),
      fun i hi hc => emergency_get hl hi hc, timing_eq bs 0, timing_eq bs 1, timing_eq bs 2, timing_eq bs 3,
      timing_eq bs 4, timing_eq bs 5, timing_eq bs 6, timing_eq bs 7, timing_eq bs 8, timing_eq bs 9,
      timing_eq bs 10, timing_eq bs 11, profileClamped_iff hl⟩

end Sys2Proof.Proofs

/-! Where what the part writes stands (R186, section 13.5): a list of bytes standing at an offset, and the Tamper
Area and the Tally Area field by field. -/
namespace Sys2Proof.Proofs
open Sys2Proof.Machine Sys2Proof.Safety Sys2Proof.Laws

/-! ### Bytes standing at an offset -/

/-- The bytes `p` stand at offset `o` of `f`. -/
def stands (p f : List Byte) (o : Nat) : Prop := ∀ k < p.length, u8 f (o + k) = u8 p k

/-- Each of the pieces stands behind the one before it, the first at offset `o`. -/
def standsInLine (f : List Byte) : Nat → List (List Byte) → Prop
  | _, [] => True
  | o, p :: ps => stands p f o ∧ standsInLine f (o + p.length) ps

section
variable {p q f : List Byte} {o n k i j : Nat}

theorem stands_behind (x : Byte) (f : List Byte) : stands f (x :: f) 1 := by
  intro k _
  unfold u8
  rw [Nat.add_comm, List.getD_cons_succ]

theorem stands_append (h : stands (p ++ q) f o) : stands p f o ∧ stands q f (o + p.length) := by
  refine ⟨fun k hk => ?_, fun k hk => ?_⟩
  · rw [h k (by rw [List.length_append]; omega), u8, u8, byte_append_left hk]
  · rw [Nat.add_assoc, h (p.length + k) (by rw [List.length_append]; omega), u8, u8, byte_append_right]

theorem standsInLine_flatten (ps : List (List Byte)) (h : stands ps.flatten f o) : standsInLine f o ps := by
  induction ps generalizing o with
  | nil => trivial
  | cons p ps ih =>
    rw [List.flatten_cons] at h
    exact ⟨(stands_append h).1, ih (stands_append h).2⟩

/-! ### Fields -/

theorem stands_byte {b : Byte} (h : stands [b] f o) : u8 f o = b.toNat := h 0 Nat.zero_lt_one

theorem stands_b8 (h : stands [b8 n] f o) (hn : n < 256) : u8 f o = n := (stands_byte h).trans (b8_small hn)

theorem stands_two (h : stands (leBytes 2 n) f o) : u16 f o = n % 65536 := by
  rw [← read_two, u16, h 1 (by rw [leBytes_length]; decide), show u8 f o = _ from h 0 (by
    rw [leBytes_length]; decide)]
  rfl

theorem stands_three (h : stands (leBytes 3 n) f o) : u24 f o = n % 16777216 := by
  rw [← read_three, u24, u16, h 1 (by rw [leBytes_length]; decide), h 2 (by rw [leBytes_length]; decide),
    show u8 f o = _ from h 0 (by rw [leBytes_length]; decide)]
  rfl

theorem stands_four (h : stands (leBytes 4 n) f o) : u32 f o = n % 4294967296 := by
  rw [← read_four, u32, u16, u16, h 1 (by rw [leBytes_length]; decide), h 2 (by rw [leBytes_length]; decide),
    Nat.add_assoc o 2 1, h (2 + 1) (by rw [leBytes_length]; decide),
    show u8 f o = _ from h 0 (by rw [leBytes_length]; decide)]
  rfl

theorem stands_count (h : stands (count2 n) f o) : u16 f o = min 65535 n := by
  rw [stands_two h]
  omega

theorem stands_money (h : stands (money3 n) f o) : u24 f o = min 16777215 n := by
  rw [stands_three h]
  omega

theorem stands_time {t : ShortTime} (h : stands (packTime t n) f o) : u32 f o = packedWord t n := by
  rw [stands_four h]
  unfold packedWord
  omega

theorem stands_digits {ds : List Nat} (h : stands (packDigits k ds) f o) (hj : j < 2 * k) :
    digitCode f o j = codeOr ds j := by
  have byte : u8 f (o + j / 2) = u8 (packDigits k ds) (j / 2) := h _ (by rw [packDigits_length]; omega)
  rw [← digitCode_packDigits k ds j hj, digitCode, digitCode, byte, Nat.zero_add]

theorem stands_zeros (h : stands (List.replicate n 0) f o) (hk : k < n) : u8 f (o + k) = 0 := by
  rw [h k (by rwa [List.length_replicate]), u8, byte_zeros]
  rfl

/-! ### Records, one behind another -/

variable {α : Type} {g : α → List Byte} {l : List α} {x : α}

theorem u8_append_left (h : k < p.length) : u8 (p ++ q) k = u8 p k := by rw [u8, u8, byte_append_left h]

theorem u8_append_right : u8 (p ++ q) (p.length + k) = u8 q k := by
  rw [u8, u8, byte_append_right]

theorem u8_beyond (h : p.length ≤ k) : u8 p k = 0 := by
  rw [u8, byte_beyond h]
  rfl

theorem u8_records (hg : ∀ x, (g x).length = n) (hx : l[i]? = some x) (hk : k < n) :
    u8 (l.flatMap g) (n * i + k) = u8 (g x) k := by
  induction l generalizing i with
  | nil => exact absurd hx (by simp)
  | cons y l ih =>
    rw [List.flatMap_cons]
    cases i with
    | zero =>
      obtain rfl : y = x := by simpa using hx
      rw [Nat.mul_zero, Nat.zero_add, u8_append_left (by rw [hg]; exact hk)]
    | succ i =>
      have at_ : n * (i + 1) + k = (g y).length + (n * i + k) := by rw [hg, Nat.mul_succ]; omega
      rw [at_, u8_append_right, ih (by simpa using hx)]

theorem stands_record (h : stands (l.flatMap g) f o) (hg : ∀ x, (g x).length = n) (hx : l[i]? = some x) :
    stands (g x) f (o + n * i) := by
  intro k hk
  rw [hg] at hk
  have inside : n * i + k < (l.flatMap g).length := by
    obtain ⟨hi, -⟩ := List.getElem?_eq_some_iff.mp hx
    rw [flatMap_length hg]
    calc n * i + k < n * i + n := by omega
      _ = n * (i + 1) := (Nat.mul_succ n i).symm
      _ ≤ n * l.length := Nat.mul_le_mul_left n hi
  rw [Nat.add_assoc, h _ inside, u8_records hg hx hk]

theorem u8_padTo (hk : k < n) : u8 (padTo n 0 p) k = u8 p k := by
  unfold padTo
  by_cases h : k < p.length
  · rw [u8, List.getD_eq_getElem?_getD, List.getElem?_take_of_lt hk, ← List.getD_eq_getElem?_getD]
    exact u8_append_left h
  · rw [u8, List.getD_eq_getElem?_getD, List.getElem?_take_of_lt hk, ← List.getD_eq_getElem?_getD,
      u8_beyond (p := p) (by omega)]
    obtain ⟨m, rfl⟩ : ∃ m, k = p.length + m := ⟨k - p.length, by omega⟩
    refine u8_append_right.trans ?_
    rw [u8, byte_zeros]
    rfl

/-- Records padded with zeros: those that are there stand in their places, and the other places are empty. -/
theorem stands_padded {top : Nat} (h : stands (padTo top 0 (l.flatMap g)) f o) (hg : ∀ x, (g x).length = n)
    (hi : n * (i + 1) ≤ top) :
    (∀ x, l[i]? = some x → stands (g x) f (o + n * i))
    ∧ (l[i]? = none → ∀ k < n, u8 f (o + n * i + k) = 0) := by
  have read : ∀ k < n, u8 f (o + n * i + k) = u8 (l.flatMap g) (n * i + k) := fun k hk => by
    have inside : n * i + k < top := by rw [Nat.mul_succ] at hi; omega
    rw [Nat.add_assoc, h _ (by rwa [padTo_length]), u8_padTo inside]
  refine ⟨fun x hx k hk => ?_, fun hx k hk => ?_⟩
  · rw [hg] at hk
    rw [read k hk, u8_records hg hx hk]
  · rw [read k hk, u8_beyond]
    rw [flatMap_length hg]
    exact Nat.le_add_right_of_le (Nat.mul_le_mul_left n (List.getElem?_eq_none_iff.mp hx))

end

/-! ### The Tamper Area -/

section
variable {s : State} {f : List Byte} {o : Nat}

/-- The channel of each code, in channel order. -/
theorem chans_get (s : State) (ch : Channel) :
    s.tamper.chans.toList[channelCode ch - 1]? = some (getChan ch s) := by cases ch <;> rfl

theorem chanBytes_stands {c : ChanRec} (h : stands ((chanBytes c).take 15) f o) :
    u8 f o = chanStateCode c.state ∧ u8 f (o + 1) = c.severity % 256 ∧ u16 f (o + 2) = min 65535 c.trips
      ∧ u32 f (o + 4) = packedWord c.first 0 ∧ u32 f (o + 8) = packedWord c.last 0
      ∧ u16 f (o + 12) = c.raw.toNat ∧ u8 f (o + 14) = repStatusCode c.status := by
  have pieces : (chanBytes c).take 15 = List.flatten [[b8 (chanStateCode c.state)], [b8 c.severity],
      count2 c.trips, packTime c.first 0, packTime c.last 0, leBytes 2 c.raw.toNat,
      [b8 (repStatusCode c.status)]] := rfl
  have line := standsInLine_flatten _ (pieces ▸ h)
  simp only [standsInLine, List.length_singleton, count2_length, packTime_length, leBytes_length,
    Nat.add_assoc, Nat.reduceAdd] at line
  obtain ⟨h0, h1, h2, h4, h8, h12, h14, -⟩ := line
  have state : chanStateCode c.state < 256 := by cases c.state <;> decide
  have status : repStatusCode c.status < 256 := by cases c.status <;> decide
  refine ⟨stands_b8 h0 state, (stands_byte h1).trans (b8_toNat _), stands_count h2, stands_time h4,
    stands_time h8, (stands_two h12).trans (Nat.mod_eq_of_lt c.raw.isLt), stands_b8 h14 status⟩

theorem chans_map (s : State) : s.tamper.chans.toList
    = [Channel.door, .case, .cord, .shock, .slot, .lane, .line, .force].map (getChan · s) := rfl

/-- The channels not QUIET are counted. -/
theorem unquiet_count (s : State) : s.tamper.chans.toList.countP (fun c => c.state != .quiet)
    = ([Channel.door, .case, .cord, .shock, .slot, .lane, .line, .force].filter
      (fun ch => (getChan ch s).state != .quiet)).length := by
  rw [chans_map, List.countP_map, List.countP_eq_length_filter]
  rfl

/-- What stands of the channel records, the last byte of the last left to the trailing change count. -/
theorem channel_stands (h : stands ((s.tamper.chans.toList.flatMap chanBytes).take 127) f 16) (ch : Channel) :
    stands ((chanBytes (getChan ch s)).take 15) f (16 * channelCode ch)
      ∧ (ch ≠ .force → u8 f (16 * channelCode ch + 15) = 0) := by
  have place : 16 * channelCode ch = 16 + 16 * (channelCode ch - 1) := by cases ch <;> rfl
  have whole : (s.tamper.chans.toList.flatMap chanBytes).length = 128 := flatMap_length chanBytes_length _
  have read : ∀ k, 16 * (channelCode ch - 1) + k < 127 → k < 16 →
      u8 f (16 * channelCode ch + k) = u8 (chanBytes (getChan ch s)) k := fun k hk h16 => by
    rw [place, Nat.add_assoc, h _ (by rw [List.length_take, whole]; omega), u8,
      List.getD_eq_getElem?_getD, List.getElem?_take_of_lt hk, ← List.getD_eq_getElem?_getD]
    exact u8_records chanBytes_length (chans_get s ch) h16
  have last : channelCode ch ≤ 8 := by cases ch <;> decide
  refine ⟨fun k hk => ?_, fun hne => ?_⟩
  · rw [List.length_take, chanBytes_length] at hk
    rw [read k (by omega) (by omega), u8, u8, List.getD_eq_getElem?_getD, List.getD_eq_getElem?_getD,
      List.getElem?_take_of_lt (by omega)]
  · have inner : channelCode ch < 8 := by
      cases ch with
      | force => exact absurd rfl hne
      | _ => decide
    rw [read 15 (by omega) (by decide)]
    rfl

/-- The Tamper Area's bytes hold its fields. -/
theorem tamperFields_laid (s : State) (x : Byte) : tamperLaid s (x :: tamperFields s) := by
  have pieces : tamperFields s = List.flatten [[b8 (min s.tamper.shockCount 255)],
      [bBool s.tamper.force.isSome], [b8 (s.tamper.chans.toList.countP (fun c => c.state != .quiet))],
      List.replicate 12 0, (s.tamper.chans.toList.flatMap chanBytes).take 127] := by
    simp [tamperFields]
  have length : (x :: tamperFields s).length = 143 := by rw [List.length_cons, tamperFields_length]
  have stood := stands_behind x (tamperFields s)
  generalize x :: tamperFields s = f at length stood ⊢
  have line := standsInLine_flatten _ (pieces ▸ stood)
  simp only [standsInLine, List.length_singleton, List.length_replicate, Nat.reduceAdd] at line
  obtain ⟨h1, h2, h3, h4, h16, -⟩ := line
  have few : s.tamper.chans.toList.countP (fun c => c.state != .quiet) < 256 :=
    Nat.lt_of_le_of_lt List.countP_le_length (by show 8 < 256; decide)
  refine ⟨length, (stands_b8 h1 (by omega)).trans (Nat.min_comm _ _), ?_,
    (stands_b8 h3 few).trans (unquiet_count s), fun k hk => stands_zeros h4 hk, fun ch o ho => ?_⟩
  · rw [stands_byte h2]
    cases s.tamper.force <;> rfl
  · subst ho
    obtain ⟨stood, zero⟩ := channel_stands h16 ch
    obtain ⟨c0, c1, c2, c4, c8, c12, c14⟩ := chanBytes_stands stood
    exact ⟨c0, c1, c2, c4, c8, c12, c14, zero⟩

/-! ### The Tally Area -/

theorem stands_flag {b : Bool} (h : stands [bBool b] f o) : u8 f o = if b then 1 else 0 := by
  rw [stands_byte h]
  cases b <;> rfl

theorem visitBytes_length (v : VisitRecord) : (visitBytes v).length = 16 := by
  simp only [visitBytes, List.length_append, packDigits_length, packTime_length, money3_length,
    count2_length, List.length_cons, List.length_nil]

theorem visitBytes_laid {v : VisitRecord} (h : stands (visitBytes v) f o) : visitLaid v f o := by
  have pieces : visitBytes v = List.flatten [
      [b8 (visitKindCode v.kind + 64 * nBool v.left + 128 * nBool v.lapsed)], packDigits 2 v.collector,
      packTime v.opened 0, packTime v.closed 0, money3 v.value, count2 v.coins] := by
    simp only [visitBytes, List.flatten_cons, List.flatten_nil, List.append_assoc, List.append_nil]
  have line := standsInLine_flatten _ (pieces ▸ h)
  simp only [standsInLine, List.length_singleton, packDigits_length, packTime_length, money3_length,
    Nat.add_assoc, Nat.reduceAdd] at line
  obtain ⟨h0, h1, h3, h7, h11, h14, -⟩ := line
  have kind : visitKindCode v.kind + (64 * nBool v.left + 128 * nBool v.lapsed) < 256 := by
    have : visitKindCode v.kind ≤ 2 := by cases v.kind <;> decide
    rw [nBool_ite, nBool_ite]
    split <;> split <;> omega
  refine ⟨(stands_b8 h0 kind).trans (by rw [nBool_ite, nBool_ite, Nat.add_assoc]), fun j hj => stands_digits h1 hj,
    stands_time h3, stands_time h7, stands_money h11, stands_count h14⟩

theorem tallyVisit_laid {v : Visit} (h : stands (tallyVisit v) f 98) : visitNowLaid v f := by
  have pieces : tallyVisit v = List.flatten [[b8 (visitStateCode v.state)],
      [b8 ((if v.state = .closed then 0 else visitKindCode v.kind) + 128 * nBool v.left)],
      packDigits 2 v.collector, packTime v.opened 0, money3 v.value, count2 v.coins,
      padTo 12 0 (v.noted.flatMap count2)] := by
    simp only [tallyVisit, List.flatten_cons, List.flatten_nil, List.append_assoc, List.append_nil,
      List.cons_append, List.nil_append]
  have line := standsInLine_flatten _ (pieces ▸ h)
  simp only [standsInLine, List.length_singleton, packDigits_length, count2_length, packTime_length,
    money3_length, Nat.reduceAdd] at line
  obtain ⟨h98, h99, h100, h102, h106, h109, h111, -⟩ := line
  have state : visitStateCode v.state < 256 := by cases v.state <;> decide
  have kind : (if v.state = .closed then 0 else visitKindCode v.kind) + 128 * nBool v.left < 256 := by
    have : visitKindCode v.kind ≤ 2 := by cases v.kind <;> decide
    rw [nBool_ite]
    split <;> split <;> omega
  refine ⟨stands_b8 h98 state, (stands_b8 h99 kind).trans (by rw [nBool_ite]), fun j hj => stands_digits h100 hj,
    stands_time h102, stands_money h106, stands_count h109, fun i hi => ?_⟩
  obtain ⟨there, empty⟩ := stands_padded h111 count2_length (i := i) (by omega)
  rw [List.getD_eq_getElem?_getD]
  cases hx : v.noted[i]? with
  | none => rw [u16, empty hx 1 (by decide), show u8 f (111 + 2 * i) = 0 from empty hx 0 (by decide)]; rfl
  | some n => exact stands_count (there n hx)

/-- The four counts of a class. -/
def classBytes (c : ClassCount) : List Byte :=
  count2 c.accepted ++ count2 c.collected ++ count2 c.returned ++ count2 c.cleared

theorem classBytes_laid {c : ClassCount} (h : stands (classBytes c) f o) :
    u16 f o = min 65535 c.accepted ∧ u16 f (o + 2) = min 65535 c.collected
      ∧ u16 f (o + 4) = min 65535 c.returned ∧ u16 f (o + 6) = min 65535 c.cleared := by
  have line := standsInLine_flatten [count2 c.accepted, count2 c.collected, count2 c.returned,
    count2 c.cleared] h
  simp only [standsInLine, count2_length, Nat.add_assoc, Nat.reduceAdd] at line
  obtain ⟨h0, h2, h4, h6, -⟩ := line
  exact ⟨stands_count h0, stands_count h2, stands_count h4, stands_count h6⟩

theorem toList_get {α : Type} {n : Nat} (v : Vector α n) (i : Fin n) : v.toList[i.val]? = some v[i] := by
  rw [List.getElem?_eq_getElem (by rw [Vector.length_toList]; exact i.isLt)]
  rfl

/-- The Tally Area's bytes hold its fields. -/
theorem tallyFields_laid (s : State) (x : Byte) : tallyLaid s (x :: tallyFields s) := by
  have pieces : tallyFields s = List.flatten [s.tally.classes.toList.flatMap classBytes,
      money3 s.tally.boxValue, count2 s.tally.boxCoins, count2 s.tally.stranded, count2 s.tally.foreign,
      count2 s.tally.refused, count2 s.tally.unattended, count2 s.tally.fault, count2 s.tally.flushed,
      [bBool s.coin.uncertain], s.tally.kinds.toList.flatMap count2, money3 s.tally.chargeTotal,
      money3 s.tally.forfeited, count2 s.tally.refusedHost, count2 s.tally.lineLost, count2 s.tally.stray,
      count2 s.tally.notKept, count2 s.tally.visits, [b8 (bankCode s.tally.bank)],
      leBytes 2 s.tally.edition, leBytes 2 s.ring.seq, tallyVisit s.visit,
      padTo 64 0 (s.tally.history.flatMap visitBytes), [0, 0, 0, 0]] := by
    unfold tallyFields
    dsimp only
    simp only [List.flatten_cons, List.flatten_nil, List.append_assoc, List.append_nil]
    rfl
  have length : (x :: tallyFields s).length = 191 := by rw [List.length_cons, tallyFields_length]
  have stood := stands_behind x (tallyFields s)
  generalize x :: tallyFields s = f at length stood ⊢
  have classLength : ∀ c, (classBytes c).length = 8 := fun c => by simp [classBytes]
  have classes : (s.tally.classes.toList.flatMap classBytes).length = 48 := by
    rw [flatMap_length classLength, Vector.length_toList]
  have kinds : (s.tally.kinds.toList.flatMap count2).length = 10 := by
    rw [flatMap_length count2_length, Vector.length_toList]
  have line := standsInLine_flatten _ (pieces ▸ stood)
  simp only [standsInLine, List.length_singleton, count2_length, money3_length, leBytes_length, classes, kinds,
    tallyVisit_length, padTo_length, Nat.reduceAdd] at line
  obtain ⟨h1, h49, h52, h54, h56, h58, h60, h62, h64, h66, h67, h77, h80, h83, h85, h87, h89, h91, h93, h94,
    h96, h98, h123, h187, -⟩ := line
  have bank : bankCode s.tally.bank < 256 := by
    cases s.tally.bank with
    | none => decide
    | some x => cases x <;> decide
  refine ⟨length, fun i => ?_, stands_money h49, stands_count h52, stands_count h54, stands_count h56,
    stands_count h58, stands_count h60, stands_count h62, stands_count h64, stands_flag h66, fun i => ?_,
    stands_money h77, stands_money h80, stands_count h83, stands_count h85, stands_count h87, stands_count h89,
    stands_count h91, stands_b8 h93 bank, stands_two h94, stands_two h96, tallyVisit_laid h98, fun i hi => ?_,
    fun k hk => stands_zeros (n := 4) h187 hk⟩
  · obtain ⟨c0, c2, c4, c6⟩ := classBytes_laid (stands_record h1 classLength (toList_get s.tally.classes i))
    exact ⟨c0, Nat.add_right_comm 1 2 _ ▸ c2, Nat.add_right_comm 1 4 _ ▸ c4, Nat.add_right_comm 1 6 _ ▸ c6⟩
  · exact stands_count (stands_record h67 count2_length (toList_get s.tally.kinds i))
  · obtain ⟨there, empty⟩ := stands_padded h123 visitBytes_length (i := i) (by omega)
    exact ⟨empty, fun v hv => visitBytes_laid (there v hv)⟩

end

end Sys2Proof.Proofs

/-! The Tally Area and the Tamper Area are taken at start-up (R149, R169, R171). -/
namespace Sys2Proof.Proofs
open Sys2Proof.Machine Sys2Proof.Safety Sys2Proof.Laws

section
variable {s t x : State} {p : Profile} {d bs : List Byte}

/-- What stands behind a read of stage 3 once the step has ended: of the stage's end and the step's end only the
posts, the stage, the load and the closing reasons. -/
theorem endRecords_finish (n : Nat) (h : x.sys.part ≠ .running) :
    (finish n (endRecords x)).mem = x.mem
    ∧ (finish n (endRecords x)).sys = { x.sys with stage := (endRecords x).sys.stage }
    ∧ (finish n (endRecords x)).ring = x.ring ∧ (finish n (endRecords x)).tally = x.tally
    ∧ (finish n (endRecords x)).visit = x.visit ∧ (finish n (endRecords x)).tamper = x.tamper
    ∧ (finish n (endRecords x)).ev = x.ev
    ∧ (finish n (endRecords x)).coin
      = { x.coin with reasons := (finish n (endRecords x)).coin.reasons } := by
  have staged := endRecords_staged x
  obtain ⟨ymem, -, yring, ytally, yvisit, ycoin, -, -, ytamper, -, -, -, ysys⟩ := staged.fields
  have yev := staged.ev
  generalize endRecords x = y at *
  have rested := finish_rested n (s := y) (by rw [ysys]; exact h)
  obtain ⟨tmem, tsys, tring, ttally, tvisit, -, -, -, -, ttamper, -, -, tcoin⟩ := rested.fields
  have tev := rested.ev
  generalize finish n y = t at *
  exact ⟨tmem.trans ymem, tsys.trans ysys, tring.trans yring, ttally.trans ytally, tvisit.trans yvisit,
    ttamper.trans ytamper, tev.trans yev, by rw [tcoin, ycoin]⟩

theorem exec_tallyRead (hr : s.sys.part = .starting) (h : handed (.tally true) d s) : exec .tallyRead s
    = .next (finish (waiting s) (endRecords (restoreTally (s.sys.tallyBuf ++ d) (headGone s)))) :=
  congrArg Host.Outcome.next (startRead_handed hr h (f := tallyEffect) (by
    obtain ⟨-, -, -, -, -, -, -, -, -, -, held, -⟩ :=
      (endRecords_staged (restoreTally (s.sys.tallyBuf ++ d) (headGone s))).fields
    exact held.trans (headGone_held h)))

theorem exec_tamperRead (hr : s.sys.part = .starting) (h : handed (.tamper true) d s) : exec .tamperAreaRead s
    = .next (finish (waiting s) (endRecords (restoreTamper (s.sys.tamperBuf ++ d) (headGone s)))) :=
  congrArg Host.Outcome.next (startRead_handed hr h (f := tamperEffect) (by
    obtain ⟨-, -, -, -, -, -, -, -, -, -, held, -⟩ :=
      (endRecords_staged (restoreTamper (s.sys.tamperBuf ++ d) (headGone s))).fields
    exact held.trans (headGone_held h)))

/-! ### The areas' fields (section 13.5) -/

theorem countsAgree_iff (bs : List Byte) (n : Nat) :
    countsAgree bs n = true ↔ bs.getD 0 0 = bs.getD n 0 ∧ (bs.getD 0 0).toNat % 2 = 0 := by
  rw [countsAgree, Bool.and_eq_true, beq_iff_eq, beq_iff_eq]
  rfl

theorem topBit (n : Nat) (h : n < 256) : bitSet n 7 = decide (128 ≤ n) := by
  rw [bitSet, Bool.eq_iff_iff, beq_iff_eq, decide_eq_true_iff]
  omega

/-- The counts and the newest visit record of a Tally Area stand at the places of section 13.5. -/
theorem readTally_fields (bs : List Byte) : (∀ i : Fin 6, (readTally bs).classes[i]
      = ⟨u16 bs (1 + 8 * i.val), u16 bs (3 + 8 * i.val), u16 bs (5 + 8 * i.val), u16 bs (7 + 8 * i.val)⟩)
    ∧ (∀ i : Fin 5, (readTally bs).kinds[i] = u16 bs (67 + 2 * i.val))
    ∧ (u8 bs 123 % 64 = 1 ∨ u8 bs 123 % 64 = 2 → (readTally bs).history.head? = readVisit bs 0) := by
  have class_ : ∀ i, readClass bs i = ⟨u16 bs (1 + 8 * i), u16 bs (3 + 8 * i), u16 bs (5 + 8 * i),
      u16 bs (7 + 8 * i)⟩ := fun i => by
    rw [readClass, fieldAt_two, fieldAt_two, fieldAt_two, fieldAt_two]
  refine ⟨fun i => ?_, fun i => ?_, fun h => ?_⟩
  · refine Eq.trans ?_ (class_ i.val)
    match i with
    | 0 | 1 | 2 | 3 | 4 | 5 => rfl
  · refine Eq.trans ?_ (fieldAt_two bs (67 + 2 * i.val))
    match i with
    | 0 | 1 | 2 | 3 | 4 => rfl
  · have there : readVisit bs 0 ≠ none := by
      unfold readVisit
      rw [if_neg (by show ¬ u8 bs 123 % 64 = 0; omega)]
      exact nofun
    obtain ⟨v, hv⟩ := Option.ne_none_iff_exists'.mp there
    show (List.filterMap id [readVisit bs 0, readVisit bs 1, readVisit bs 2, readVisit bs 3]).head? = _
    rw [hv]
    rfl

theorem readVisit_newest (h : u8 bs 123 % 64 = 1 ∨ u8 bs 123 % 64 = 2) : ∃ v, readVisit bs 0 = some v
    ∧ v.kind = (if u8 bs 123 % 64 = 1 then .collection else .service)
    ∧ v.left = (u8 bs 123 / 64 % 2 == 1) ∧ v.lapsed = decide (128 ≤ u8 bs 123)
    ∧ v.opened = packedAt bs 126 ∧ v.closed = packedAt bs 130 ∧ v.value = u24 bs 134
    ∧ v.coins = u16 bs 137 := by
  have there : ¬ natAt bs (123 + 16 * 0) % 64 = 0 := by
    show ¬ u8 bs 123 % 64 = 0
    omega
  refine ⟨_, if_neg there, ?_, rfl, topBit _ (u8_lt bs 123), timeAt_eq bs 126, timeAt_eq bs 130,
    fieldAt_three bs 134, fieldAt_two bs 137⟩
  show visitKindOf (u8 bs 123 % 64) = _
  obtain h | h := h <;> rw [h] <;> rfl

theorem tamperGood_iff (bs : List Byte) : tamperGood bs = true ↔
    (u8 bs 0 = u8 bs 143 ∧ u8 bs 0 % 2 = 0
      ∧ ∀ i < 8, u8 bs (16 + 16 * i) ≤ 2 ∧ u8 bs (17 + 16 * i) ≤ 3 ∧ u8 bs (30 + 16 * i) ≤ 3) := by
  have same : bs.getD 0 0 = bs.getD 143 0 ↔ u8 bs 0 = u8 bs 143 :=
    ⟨fun h => congrArg BitVec.toNat h, fun h => BitVec.eq_of_toNat_eq h⟩
  have chan : ∀ i, chanGood bs i = true ↔
      u8 bs (16 + 16 * i) ≤ 2 ∧ u8 bs (17 + 16 * i) ≤ 3 ∧ u8 bs (30 + 16 * i) ≤ 3 := fun i => by
    rw [chanGood, Bool.and_eq_true, Bool.and_eq_true, decide_eq_true_iff, decide_eq_true_iff,
      decide_eq_true_iff, and_assoc, Nat.add_right_comm 16 (16 * i) 1, Nat.add_right_comm 16 (16 * i) 14]
    rfl
  rw [tamperGood, Bool.and_eq_true, countsAgree_iff, List.all_eq_true, same, and_assoc]
  simp only [List.mem_range, chan]
  rfl

theorem readChans_get (bs : List Byte) (ch : Channel) :
    (readChans bs).get ch = readChan bs (channelCode ch - 1) := by cases ch <;> rfl

/-- A channel's record is read at the places of section 13.5. -/
theorem readChan_fields (bs : List Byte) (ch : Channel) (x : ChanRec) (o : Nat) (hx : x = (readChans bs).get ch)
    (ho : o = 16 * channelCode ch) : (u8 bs o = 0 → x.state = .quiet) ∧ (u8 bs o = 1 → x.state = .active)
    ∧ (u8 bs o = 2 → x.state = .latched) ∧ x.severity = u8 bs (o + 1)
    ∧ x.trips = u16 bs (o + 2) ∧ x.first = packedAt bs (o + 4) ∧ x.last = packedAt bs (o + 8)
    ∧ x.raw = BitVec.ofNat 16 (u16 bs (o + 12))
    ∧ (u8 bs (o + 14) = 0 → x.status = .idle) ∧ (u8 bs (o + 14) = 1 → x.status = .queued)
    ∧ (u8 bs (o + 14) = 2 → x.status = .sent) ∧ (u8 bs (o + 14) = 3 → x.status = .failed) := by
  have place : 16 + 16 * (channelCode ch - 1) = 16 * channelCode ch := by cases ch <;> rfl
  have read : x = ⟨chanStateOf (u8 bs o), u8 bs (o + 1), u16 bs (o + 2), packedAt bs (o + 4),
      packedAt bs (o + 8), BitVec.ofNat 16 (u16 bs (o + 12)), repStatusOf (u8 bs (o + 14))⟩ := by
    rw [hx, readChans_get, readChan, place, ← ho, fieldAt_two, fieldAt_two, timeAt_eq, timeAt_eq]
    rfl
  subst read
  exact ⟨fun h => congrArg chanStateOf h, fun h => congrArg chanStateOf h, fun h => congrArg chanStateOf h, rfl,
    rfl, rfl, rfl, rfl, fun h => congrArg repStatusOf h, fun h => congrArg repStatusOf h,
    fun h => congrArg repStatusOf h, fun h => congrArg repStatusOf h⟩

end

/-- Settles O22. -/
theorem tallyAndTamperAreaAreTaken : Obligations.TallyAndTamperAreaAreTaken := by
  refine ⟨fun s d hr h bs hbs => ⟨fun good => ?_, fun bad => ?_⟩,
    fun s p d hr h hp bs hbs => ⟨fun good => ?_, fun bad => ?_⟩, fun bs x hx => ?_, tamperGood_iff,
    readChan_fields, tallyFields_laid, tamperFields_laid⟩
  · have agree := (countsAgree_iff bs 191).mpr good
    have run := exec_tallyRead hr h
    rw [← hbs] at run
    obtain ⟨tmem, tsys, tring, ttally, tvisit, -, tev, tcoin⟩ := endRecords_finish (waiting s)
      (x := restoreTally bs (headGone s)) (by show s.sys.part ≠ .running; rw [hr]; decide)
    generalize finish (waiting s) _ = t at *
    have tally : t.tally = { readTally bs with
        refusedHost := min 65535 ((readTally bs).refusedHost + s.sys.heldRefused) } := by
      rw [ttally, restoreTally, agree]
      rfl
    have visit : t.visit = readVisitOpen bs := by
      rw [tvisit, restoreTally, agree]
      rfl
    refine ⟨t, run, ?_, ?_, tally, ?_, ?_, ?_, ?_, ?_, ?_, ?_, ?_, ?_, ?_, ?_, ?_, ?_, ?_, ?_⟩
    · rw [tsys, restoreTally, agree]
      rfl
    · rw [tsys, restoreTally]
    · exact fun h0 => visit ▸ congrArg visitStateOf h0
    · exact fun h0 => visit ▸ congrArg visitStateOf h0
    · exact fun h0 => visit ▸ congrArg visitStateOf h0
    · exact fun h0 => visit ▸ congrArg visitStateOf h0
    · exact fun h0 => visit ▸ congrArg visitKindOf h0
    · exact fun h0 => visit ▸ congrArg visitKindOf h0
    · exact visit ▸ topBit _ (u8_lt bs 99)
    · exact visit ▸ timeAt_eq bs 102
    · exact visit ▸ fieldAt_three bs 106
    · exact visit ▸ fieldAt_two bs 109
    · rw [tring, restoreTally, agree]
      exact fieldAt_two bs 96
    · rw [tsys, restoreTally, agree]
      rfl
    · exact tmem
    · rw [tcoin]
      rfl
    · exact tev
  · have differ : countsAgree bs 191 = false := Bool.eq_false_iff.mpr fun h =>
      bad ((countsAgree_iff bs 191).mp h)
    have run := exec_tallyRead hr h
    rw [← hbs] at run
    obtain ⟨tmem, tsys, tring, ttally, tvisit, -, tev, -⟩ := endRecords_finish (waiting s)
      (x := restoreTally bs (headGone s)) (by show s.sys.part ≠ .running; rw [hr]; decide)
    generalize finish (waiting s) _ = t at *
    refine ⟨t, run, ?_, ?_, ?_, ?_, ?_, tmem, tev⟩
    · rw [tsys, restoreTally, differ]
      rfl
    · rw [tsys, restoreTally]
    · rw [ttally, restoreTally, differ]
      exact congrArg (fun n => { Tally.zero with refusedHost := min 65535 n }) (Nat.zero_add _)
    · rw [tvisit, restoreTally, differ]
      rfl
    · rw [tring, restoreTally, differ]
      rfl
  · have run := exec_tamperRead hr h
    rw [← hbs] at run
    obtain ⟨tmem, tsys, -, ttally, -, ttamper, -⟩ := endRecords_finish (waiting s)
      (x := restoreTamper bs (headGone s)) (by show s.sys.part ≠ .running; rw [hr]; decide)
    generalize finish (waiting s) _ = t at *
    refine ⟨t, run, ?_, ?_, tmem, ttally⟩
    · rw [ttamper]
      exact if_pos good
    · rw [tsys, restoreTamper]
  · have run := exec_tamperRead hr h
    rw [← hbs] at run
    obtain ⟨tmem, tsys, -, ttally, -, ttamper, -⟩ := endRecords_finish (waiting s)
      (x := restoreTamper bs (headGone s)) (by show s.sys.part ≠ .running; rw [hr]; decide)
    generalize finish (waiting s) _ = t at *
    have chans : t.tamper.chans = freshChans p := by
      rw [ttamper]
      refine (if_neg (by rw [bad]; exact Bool.false_ne_true)).trans ?_
      rw [show (headGone s).gate.profile = some p from hp]
    refine ⟨t, run, by rw [tsys, restoreTamper], tmem, ttally, fun ch => ?_⟩
    rw [getChan, chans]
    cases ch <;> exact ⟨rfl, rfl, rfl, rfl, rfl, rfl, rfl⟩
  · subst hx
    obtain ⟨classes, kinds, newest⟩ := readTally_fields bs
    refine ⟨classes, fieldAt_three bs 49, fieldAt_two bs 52, fieldAt_two bs 54, fieldAt_two bs 56,
      fieldAt_two bs 58, fieldAt_two bs 60, fieldAt_two bs 62, fieldAt_two bs 64, kinds, fieldAt_three bs 77,
      fieldAt_three bs 80, fieldAt_two bs 83, fieldAt_two bs 85, fieldAt_two bs 87, fieldAt_two bs 89,
      fieldAt_two bs 91, fieldAt_two bs 94, ?_, fun h => ?_⟩
    · show bankOf (u8 bs 93) = _
      generalize u8 bs 93 = n
      match n with
      | 0 => rfl
      | 1 => rfl
      | 2 => rfl
      | n + 3 => exact ((if_neg (by omega)).trans (if_neg (by omega))).symm
    · obtain ⟨v, hv, facts⟩ := readVisit_newest h
      exact ⟨v, (newest h).trans hv, facts⟩

end Sys2Proof.Proofs

/-! The checks and the fields of a tariff bank (R51, R55, R56, section 13.6). -/
namespace Sys2Proof.Proofs
open Sys2Proof.Machine Sys2Proof.Safety Sys2Proof.Laws

section
variable {bs : List Byte} {i j n : Nat} {good : Nat → Bool}

/-! ### The first entry that fails -/

theorem firstBad_first (hi : i < n) (hfirst : ∀ j < i, good j = true) (hbad : good i = false) :
    firstBad good n = some i := by
  refine List.find?_range_eq_some.mpr ⟨by rw [hbad]; rfl, List.mem_range.mpr hi, fun j hj => ?_⟩
  rw [hfirst j hj]
  rfl

theorem firstBad_none : firstBad good n = none ↔ ∀ i < n, good i = true := by
  rw [firstBad, List.find?_eq_none]
  simp

/-! ### The checks (R55) -/

theorem bankSum_eq (bs : List Byte) :
    bankSum bs = ((bs.take 8 ++ bs.drop 10).map (·.toNat)).sum % 65536 := by
  rw [bankSum, sumBytes_eq, sumBytes_eq, List.map_append, List.sum_append]

theorem zoneKind_known (n : Nat) : (zoneKindOf n).isSome = true ↔ 1 ≤ n ∧ n ≤ 4 := by
  match n with
  | 0 => decide
  | 1 => decide
  | 2 => decide
  | 3 => decide
  | 4 => decide
  | n + 5 => exact ⟨fun h => absurd h Bool.false_ne_true, fun h => absurd h.2 (by omega)⟩

theorem zoneGood_iff (bs : List Byte) (i : Nat) : zoneGood bs i = true ↔ zoneFits bs i := by
  unfold zoneGood
  simp only [Bool.and_eq_true, zoneKind_known, decide_eq_true_iff, fieldAt_two, natAt_eq, and_assoc,
    Nat.add_right_comm 16 (12 * i), Nat.reduceAdd, zoneFits]

theorem prefixDigits_eq (hl : bs.length = 2048) (hi : i < 128) (hn : u8 bs (208 + 6 * i) ≤ 8) :
    prefixDigits bs i = (List.range (u8 bs (208 + 6 * i))).map (digitCode bs (209 + 6 * i)) :=
  codesAt_take (by omega) hn

theorem prefixGood_iff (hl : bs.length = 2048) (hi : i < 128) : prefixGood bs i = true ↔ prefixFits bs i := by
  rw [prefixGood, Bool.and_eq_true, Bool.and_eq_true, decide_eq_true_iff, decide_eq_true_iff, natAt_eq]
  by_cases hn : u8 bs (208 + 6 * i) ≤ 8
  · rw [prefixDigits_eq hl hi hn, List.all_eq_true]
    simp [natAt_eq, and_assoc]
  · exact ⟨fun h => absurd h.1.1.2 hn, fun h => absurd h.2.1 hn⟩

/-- Two entries of at most eight digits have the same digits exactly when they are equal entries. -/
theorem prefixDigits_same (hl : bs.length = 2048) (hi : i < 128) (hj : j < 128)
    (hni : u8 bs (208 + 6 * i) ≤ 8) (hnj : u8 bs (208 + 6 * j) ≤ 8) :
    prefixDigits bs i = prefixDigits bs j ↔ prefixesEqual bs i j := by
  rw [prefixDigits_eq hl hi hni, prefixDigits_eq hl hj hnj]
  constructor
  · intro h
    have count : u8 bs (208 + 6 * i) = u8 bs (208 + 6 * j) := by simpa using congrArg List.length h
    refine ⟨count, fun k hk => ?_⟩
    have at_ := congrArg (fun l : List Nat => l[k]?) h
    simpa [hk, count ▸ hk] using at_
  · rintro ⟨count, same⟩
    rw [← count]
    exact List.map_congr_left fun k hk => same k (List.mem_range.mp hk)

/-- An entry is new where it equals none before it. -/
theorem prefixNew_iff (hl : bs.length = 2048) (hi : i < 128) (hall : ∀ j ≤ i, u8 bs (208 + 6 * j) ≤ 8) :
    prefixNew bs i = true ↔ ∀ k < i, ¬ prefixesEqual bs k i := by
  have same : ∀ k < i, (prefixDigits bs k = prefixDigits bs i ↔ prefixesEqual bs k i) := fun k hk =>
    prefixDigits_same hl (Nat.lt_trans hk hi) hi (hall k (Nat.le_of_lt hk)) (hall i (Nat.le_refl i))
  rw [prefixNew, Bool.not_eq_true', ← Bool.not_eq_true, List.any_eq_true]
  constructor
  · exact fun h k hk he => h ⟨k, List.mem_range.mpr hk, decide_eq_true ((same k hk).mpr he)⟩
  · rintro h ⟨k, hk, he⟩
    have hk := List.mem_range.mp hk
    exact h k hk ((same k hk).mp (of_decide_eq_true he))

theorem bandGood_iff (bs : List Byte) (i : Nat) : bandGood bs i = true ↔ bandFits bs i := by
  unfold bandGood
  simp only [Bool.and_eq_true, decide_eq_true_iff, fieldAt_two, and_assoc, Nat.add_right_comm 976 (8 * i),
    Nat.reduceAdd]
  exact Iff.rfl

/-- A check that passes leaves the checks behind it. -/
theorem check_passes {α : Type} {c : Prop} [Decidable c] {a : α} {o : Option α} :
    (if c then some a else o) = none ↔ ¬ c ∧ o = none := by
  by_cases h : c <;> simp [h]

theorem headerFault_none_iff (bs : List Byte) : headerFault bs = none ↔ headerFits bs := by
  unfold headerFault
  rw [check_passes, check_passes, check_passes, check_passes, check_passes]
  simp only [natAt_eq, headerFits, eq_self, and_true]
  omega

/-! ### The sections in their order (R55) -/

theorem bankFault_sum (h : bankSum bs ≠ fieldAt bs 8 2) : bankFault bs = some (1, 0) := if_pos h

theorem bankFault_header (hs : bankSum bs = fieldAt bs 8 2) (h : headerFault bs = some i) :
    bankFault bs = some (2, i) := by
  rw [bankFault, if_neg (not_not_intro hs), h]

theorem bankFault_zone (hs : bankSum bs = fieldAt bs 8 2) (hh : headerFault bs = none)
    (h : firstBad (zoneGood bs) (natAt bs 2) = some i) : bankFault bs = some (3, i) := by
  simp only [bankFault, hs, hh, h, ne_eq, not_true_eq_false, if_false]

theorem bankFault_prefix (hs : bankSum bs = fieldAt bs 8 2) (hh : headerFault bs = none)
    (hz : firstBad (zoneGood bs) (natAt bs 2) = none)
    (h : firstBad (prefixGood bs) (natAt bs 3) = some i) : bankFault bs = some (4, i) := by
  simp only [bankFault, hs, hh, hz, h, ne_eq, not_true_eq_false, if_false]

theorem bankFault_equal (hs : bankSum bs = fieldAt bs 8 2) (hh : headerFault bs = none)
    (hz : firstBad (zoneGood bs) (natAt bs 2) = none) (hp : firstBad (prefixGood bs) (natAt bs 3) = none)
    (h : firstBad (prefixNew bs) (natAt bs 3) = some i) : bankFault bs = some (5, i) := by
  simp only [bankFault, hs, hh, hz, hp, h, ne_eq, not_true_eq_false, if_false]

theorem bankFault_band (hs : bankSum bs = fieldAt bs 8 2) (hh : headerFault bs = none)
    (hz : firstBad (zoneGood bs) (natAt bs 2) = none) (hp : firstBad (prefixGood bs) (natAt bs 3) = none)
    (hn : firstBad (prefixNew bs) (natAt bs 3) = none) :
    bankFault bs = (firstBad (bandGood bs) (natAt bs 4)).map (fun i => (6, i)) := by
  simp only [bankFault, hs, hh, hz, hp, hn, ne_eq, not_true_eq_false, if_false]
  cases firstBad (bandGood bs) (natAt bs 4) <;> rfl

/-- A bank that passes has its header and the entries of its analysis table in their ranges. -/
theorem bankFault_passes (h : bankFault bs = none) :
    headerFits bs ∧ firstBad (prefixGood bs) (natAt bs 3) = none := by
  by_cases hs : bankSum bs = fieldAt bs 8 2
  · cases hh : headerFault bs with
    | some i => exact absurd ((bankFault_header hs hh).symm.trans h) nofun
    | none =>
      refine ⟨(headerFault_none_iff bs).mp hh, ?_⟩
      cases hz : firstBad (zoneGood bs) (natAt bs 2) with
      | some i => exact absurd ((bankFault_zone hs hh hz).symm.trans h) nofun
      | none =>
        cases hp : firstBad (prefixGood bs) (natAt bs 3) with
        | some i => exact absurd ((bankFault_prefix hs hh hz hp).symm.trans h) nofun
        | none => rfl
  · exact absurd ((bankFault_sum hs).symm.trans h) nofun

/-- The checks of R55 in their order. -/
theorem bankFault_checks (hl : bs.length = 2048) :
    (((bs.take 8 ++ bs.drop 10).map (·.toNat)).sum % 65536 ≠ u16 bs 8 → bankFault bs = some (1, 0))
    ∧ (((bs.take 8 ++ bs.drop 10).map (·.toNat)).sum % 65536 = u16 bs 8 →
      (u8 bs 2 < 1 ∨ 16 < u8 bs 2 → bankFault bs = some (2, 1))
      ∧ (1 ≤ u8 bs 2 → u8 bs 2 ≤ 16 →
        (128 < u8 bs 3 → bankFault bs = some (2, 2))
        ∧ (u8 bs 3 ≤ 128 → (16 < u8 bs 4 → bankFault bs = some (2, 3))
          ∧ (u8 bs 4 ≤ 16 → (u8 bs 6 < 1 ∨ 250 < u8 bs 6 → bankFault bs = some (2, 4))
            ∧ (1 ≤ u8 bs 6 → u8 bs 6 ≤ 250 → u8 bs 2 ≤ u8 bs 5 → bankFault bs = some (2, 5)))))
      ∧ (headerFits bs →
        (∀ i < u8 bs 2, (∀ j < i, zoneFits bs j) → ¬ zoneFits bs i → bankFault bs = some (3, i))
        ∧ ((∀ i < u8 bs 2, zoneFits bs i) →
          (∀ i < u8 bs 3, (∀ j < i, prefixFits bs j) → ¬ prefixFits bs i → bankFault bs = some (4, i))
          ∧ ((∀ i < u8 bs 3, prefixFits bs i) →
            (∀ i < u8 bs 3, (∀ j < i, ∀ k < j, ¬ prefixesEqual bs k j) →
              (∃ k < i, prefixesEqual bs k i) → bankFault bs = some (5, i))
            ∧ ((∀ i < u8 bs 3, ∀ k < i, ¬ prefixesEqual bs k i) →
              (∀ i < u8 bs 4, (∀ j < i, bandFits bs j) → ¬ bandFits bs i → bankFault bs = some (6, i))
              ∧ ((∀ i < u8 bs 4, bandFits bs i) → bankFault bs = none)))))) := by
  rw [← bankSum_eq, ← fieldAt_two]
  refine ⟨bankFault_sum, fun hs => ⟨fun h => bankFault_header hs (if_pos h), fun h1 h2 =>
    ⟨fun h => bankFault_header hs ?_, fun h3 => ⟨fun h => bankFault_header hs ?_, fun h4 =>
      ⟨fun h => bankFault_header hs ?_, fun h5 h6 h => bankFault_header hs ?_⟩⟩⟩, fun hh => ?_⟩⟩
  · exact (if_neg (by rw [natAt_eq]; omega)).trans (if_pos h)
  · exact (if_neg (by rw [natAt_eq]; omega)).trans ((if_neg (by rw [natAt_eq]; omega)).trans (if_pos h))
  · exact (if_neg (by rw [natAt_eq]; omega)).trans ((if_neg (by rw [natAt_eq]; omega)).trans
      ((if_neg (by rw [natAt_eq]; omega)).trans (if_pos h)))
  · exact (if_neg (by rw [natAt_eq]; omega)).trans ((if_neg (by rw [natAt_eq]; omega)).trans
      ((if_neg (by rw [natAt_eq]; omega)).trans ((if_neg (by rw [natAt_eq]; omega)).trans (if_pos h))))
  · have header := (headerFault_none_iff bs).mpr hh
    have prefixes : u8 bs 3 ≤ 128 := hh.2.2.1
    have fails : ∀ {b : Bool} {q : Prop}, (b = true ↔ q) → ¬ q → b = false := fun hb hq =>
      Bool.eq_false_iff.mpr fun h => hq (hb.mp h)
    refine ⟨fun i hi hfirst hbad => bankFault_zone hs header (firstBad_first hi
      (fun j hj => (zoneGood_iff bs j).mpr (hfirst j hj)) (fails (zoneGood_iff bs i) hbad)), fun hz => ?_⟩
    have zones := firstBad_none.mpr fun i hi => (zoneGood_iff bs i).mpr (hz i hi)
    refine ⟨fun i hi hfirst hbad => bankFault_prefix hs header zones (firstBad_first hi
      (fun j hj => (prefixGood_iff hl (by omega)).mpr (hfirst j hj))
      (fails (prefixGood_iff hl (by omega)) hbad)), fun hp => ?_⟩
    have entries : firstBad (prefixGood bs) (natAt bs 3) = none :=
      firstBad_none.mpr fun i hi => (prefixGood_iff hl (Nat.lt_of_lt_of_le hi prefixes)).mpr (hp i hi)
    have new : ∀ i < u8 bs 3, (prefixNew bs i = true ↔ ∀ k < i, ¬ prefixesEqual bs k i) := fun i hi =>
      prefixNew_iff hl (by omega) fun j hj => (hp j (by omega)).2.1
    refine ⟨fun i hi hfirst hbad => bankFault_equal hs header zones entries (firstBad_first hi
      (fun j hj => (new j (by omega)).mpr (hfirst j hj)) (fails (new i hi) (by simpa using hbad))),
      fun hn => ?_⟩
    have news := firstBad_none.mpr fun i hi => (new i hi).mpr (hn i hi)
    rw [bankFault_band hs header zones entries news]
    refine ⟨fun i hi hfirst hbad => ?_, fun hb => ?_⟩
    · exact congrArg (Option.map _) (firstBad_first hi (fun j hj => (bandGood_iff bs j).mpr (hfirst j hj))
        (fails (bandGood_iff bs i) hbad))
    · exact congrArg (Option.map _) (firstBad_none.mpr fun i hi => (bandGood_iff bs i).mpr (hb i hi))

/-! ### The fields (R56, section 13.6) -/

theorem clampMult_changes (n : Nat) : (clampMult n != n) = (decide (n < 25) || decide (400 < n)) := by
  rw [Bool.eq_iff_iff, bne_iff_ne, Bool.or_eq_true, decide_eq_true_iff, decide_eq_true_iff]
  exact clamp_ne (r := (25, 400)) (by decide)

theorem multsClamped_eq (bs : List Byte) : multsClamped bs = ((List.range 8).filter (fun i =>
    u16 bs (1104 + 2 * i) < 25 || 400 < u16 bs (1104 + 2 * i))).length := by
  rw [multsClamped, List.countP_eq_length_filter]
  simp only [clampMult_changes, multRaw, fieldAt_two]

theorem readMults_eq (bs : List Byte) :
    (readTables bs).mults = (List.range 8).map (fun i => max 25 (min 400 (u16 bs (1104 + 2 * i)))) :=
  List.map_congr_left fun i _ => by rw [multRaw, fieldAt_two]; rfl

theorem zoneKind_read (n : Nat) : (zoneKindOf n).getD .barred = (if n = 1 then .timed
    else if n = 2 then .pulsed else if n = 3 then .free else .barred) := by
  match n with
  | 0 => rfl
  | 1 => rfl
  | 2 => rfl
  | 3 => rfl
  | 4 => rfl
  | n + 5 =>
    rw [if_neg (by omega), if_neg (by omega), if_neg (by omega)]
    rfl

/-- An entry read by its index. -/
theorem range_map_get {α : Type} {f : Nat → α} {n i : Nat} {x : α}
    (h : ((List.range n).map f)[i]? = some x) : i < n ∧ x = f i := by
  rw [List.getElem?_map] at h
  by_cases hi : i < n
  · rw [List.getElem?_range hi] at h
    exact ⟨hi, (Option.some.inj h).symm⟩
  · rw [List.getElem?_eq_none (by simpa using hi)] at h
    exact absurd h nofun

theorem readZone_fields {z : Zone} (h : (readTables bs).zones[i]? = some z) :
    z.s = u16 bs (17 + 12 * i) ∧ z.u = u16 bs (19 + 12 * i) ∧ z.l = u16 bs (21 + 12 * i)
    ∧ z.f = u16 bs (23 + 12 * i) ∧ z.maxLen = u8 bs (25 + 12 * i)
    ∧ z.kind = (if u8 bs (16 + 12 * i) = 1 then .timed else if u8 bs (16 + 12 * i) = 2 then .pulsed
        else if u8 bs (16 + 12 * i) = 3 then .free else .barred) := by
  obtain ⟨-, rfl⟩ := range_map_get h
  simp only [fieldAt_two, natAt_eq, zoneKind_read, Nat.add_right_comm 16 (12 * i), Nat.reduceAdd, and_self]

theorem readBand_fields {e : BandEntry} (h : (readTables bs).bands[i]? = some e) :
    e.days = BitVec.ofNat 7 (u8 bs (976 + 8 * i)) ∧ e.day = u8 bs (977 + 8 * i)
    ∧ e.month = u8 bs (978 + 8 * i) ∧ e.start = u16 bs (979 + 8 * i) ∧ e.stop = u16 bs (981 + 8 * i)
    ∧ e.band = u8 bs (983 + 8 * i) := by
  obtain ⟨-, rfl⟩ := range_map_get h
  simp only [fieldAt_two, natAt_eq, Nat.add_right_comm 976 (8 * i), Nat.reduceAdd, and_self]

theorem readPrefix_fields (hl : bs.length = 2048) (hpass : bankFault bs = none) {e : Prefix}
    (h : (readTables bs).prefixes[i]? = some e) : e.zone = u8 bs (213 + 6 * i)
    ∧ e.digits = (List.range (u8 bs (208 + 6 * i))).map (digitCode bs (209 + 6 * i)) := by
  obtain ⟨header, entries⟩ := bankFault_passes hpass
  obtain ⟨hi, rfl⟩ := range_map_get h
  have few : i < 128 := Nat.lt_of_lt_of_le hi header.2.2.1
  obtain ⟨-, short, -⟩ := (prefixGood_iff hl few).mp (firstBad_none.mp entries i hi)
  exact ⟨rfl, prefixDigits_eq hl few short⟩

end

end Sys2Proof.Proofs

/-! An image begun in full (R14, R41, R171, R179): the runs of its first rewrite. -/
namespace Sys2Proof.Proofs
open Sys2Proof.Machine Sys2Proof.Safety Sys2Proof.Laws

section
variable {i : ImageId} {s : State} {p : Profile} {bs : List Byte} {x : Image} {m n k : Nat}

/-! ### Nothing of an image given but its first bytes -/

theorem runLength_congr {f g : Span → Bool} {l : List Span} (h : ∀ x ∈ l, f x = g x) (n : Nat) :
    runLength f n l = runLength g n l := by
  induction l generalizing n with
  | nil => rfl
  | cons y l ih =>
    have rest := ih fun z hz => h z (List.mem_cons_of_mem y hz)
    rw [runLength, runLength, h y List.mem_cons_self, rest]

theorem firstRun_congr {f g : Span → Bool} {l : List Span} (h : ∀ x ∈ l, f x = g x) :
    firstRun f l = firstRun g l := by
  induction l with
  | nil => rfl
  | cons y l ih =>
    have rest : ∀ z ∈ l, f z = g z := fun z hz => h z (List.mem_cons_of_mem y hz)
    rw [firstRun, firstRun, h y List.mem_cons_self, runLength_congr rest, ih rest]

/-- `m` is where one of an image's fields ends, or its start. -/
def cutsFields (i : ImageId) (m : Nat) : Prop :=
  ∀ x ∈ spansFrom 0 (fieldLens i), 0 < x.2 ∧ x.1 + x.2 ≤ imageLen i ∧ (x.1 + x.2 ≤ m ∨ m ≤ x.1)

/-- With the first `m` bytes given alone, the fields behind them differ. -/
theorem changedRun_given (hl : bs.length = imageLen i) (hm : cutsFields i m) :
    changedRun i (bs.take m) bs = firstRun (fun x => decide (m ≤ x.1)) (spansFrom 0 (fieldLens i)) := by
  refine firstRun_congr fun x hx => ?_
  obtain ⟨pos, within, cut⟩ := hm x hx
  rw [Bool.eq_iff_iff, bne_iff_ne, decide_eq_true_iff]
  obtain below | above := cut
  · have same : spanOf (bs.take m) x = spanOf bs x :=
      span_of_take (shown := bs.take m) (m := m) (by rw [List.take_take, Nat.min_self]) below
    exact ⟨fun h => absurd same h, fun h => by omega⟩
  · refine ⟨fun _ => above, fun _ h => ?_⟩
    have lens := congrArg List.length h
    rw [spanOf, spanOf, List.length_take, List.length_take, List.length_drop, List.length_drop,
      List.length_take] at lens
    omega

/-- The next fields run, and what has then been given. -/
theorem afterRun_given (hl : (imageFields i s).length = imageLen i) (hx : x.shown = (imageFields i s).take m)
    (hm : cutsFields i m)
    (hrun : firstRun (fun x => decide (m ≤ x.1)) (spansFrom 0 (fieldLens i)) = some (m, n))
    (hn : cutsFields i (m + n)) :
    (afterRun i x .fields s).shown = (imageFields i s).take (m + n)
    ∧ (afterRun i x .fields s).pos = some (if (firstRun (fun x => decide (m + n ≤ x.1))
        (spansFrom 0 (fieldLens i))).isNone then .trail else .fields) := by
  have run : fieldsRun i x.shown (imageFields i s) = (m, n) := by
    rw [fieldsRun, hx, changedRun_given hl hm, hrun]
    rfl
  have given : showSpan x.shown (imageFields i s) (m, n) = (imageFields i s).take (m + n) := by
    have first : x.shown.take m = (imageFields i s).take m := by rw [hx, List.take_take, Nat.min_self]
    rw [showSpan_eq first, hx, List.drop_take, show m - (m + n) = 0 by omega, List.take_zero, List.append_nil]
  refine ⟨?_, ?_⟩
  · rw [← given, ← run]
    rfl
  · rw [← changedRun_given hl hn, ← given, ← run]
    rfl

/-- A further fields run, with more to come. -/
theorem doneWithin_next (hpos : x.pos = some .fields) (hx : x.shown = (imageFields i s).take m)
    (hm : cutsFields i m)
    (hrun : firstRun (fun x => decide (m ≤ x.1)) (spansFrom 0 (fieldLens i)) = some (m, n))
    (hn : cutsFields i (m + n))
    (hmore : (firstRun (fun x => decide (m + n ≤ x.1)) (spansFrom 0 (fieldLens i))).isNone = false)
    (ih : ∀ y : Image, y.pos = some .fields → y.shown = (imageFields i s).take (m + n) → doneWithin i s k y) :
    doneWithin i s (k + 1) x := by
  intro st hst
  obtain rfl : st = .fields := by
    rw [hpos] at hst
    exact (Option.some.inj hst).symm
  obtain ⟨shown, pos⟩ := afterRun_given (imageFields_length i s) hx hm hrun hn
  rw [hmore] at pos
  exact ih _ pos shown

/-- The last fields run. -/
theorem doneWithin_last (hpos : x.pos = some .fields) (hx : x.shown = (imageFields i s).take m)
    (hm : cutsFields i m)
    (hrun : firstRun (fun x => decide (m ≤ x.1)) (spansFrom 0 (fieldLens i)) = some (m, n))
    (hn : cutsFields i (m + n))
    (hdone : (firstRun (fun x => decide (m + n ≤ x.1)) (spansFrom 0 (fieldLens i))).isNone = true) :
    doneWithin i s 3 x := by
  intro st hst
  obtain rfl : st = .fields := by
    rw [hpos] at hst
    exact (Option.some.inj hst).symm
  obtain ⟨-, pos⟩ := afterRun_given (imageFields_length i s) hx hm hrun hn
  rw [hdone] at pos
  exact doneWithin_trail pos 0

/-! ### The Live Image and the Tally Area -/

theorem cuts_live : cutsFields .live 0 ∧ cutsFields .live 39 ∧ cutsFields .live 76 ∧ cutsFields .live 94 := by
  unfold cutsFields
  decide

theorem cuts_tally : cutsFields .tally 0 ∧ cutsFields .tally 40 ∧ cutsFields .tally 79
    ∧ cutsFields .tally 118 ∧ cutsFields .tally 154 ∧ cutsFields .tally 190 := by
  unfold cutsFields
  decide

/-- The Live Image begun in full has three runs of fields, so six in all. -/
theorem doneWithin_live (hpos : x.pos = some .lead) (hx : x.shown = []) (s : State) :
    doneWithin .live s 6 x := by
  obtain ⟨c0, c39, c76, c94⟩ := cuts_live
  intro st hst
  obtain rfl : st = .lead := by
    rw [hpos] at hst
    exact (Option.some.inj hst).symm
  exact doneWithin_next (m := 0) (n := 39) rfl hx c0 (by decide) c39 (by decide) fun y hy1 hy2 =>
    doneWithin_next (n := 37) hy1 hy2 c39 (by decide) c76 (by decide) fun y hy1 hy2 =>
      doneWithin_last (n := 18) hy1 hy2 c76 (by decide) c94 (by decide)

/-- The Tally Area begun in full has five runs of fields, so eight in all. -/
theorem doneWithin_tally (hpos : x.pos = some .lead) (hx : x.shown = []) (s : State) :
    doneWithin .tally s 8 x := by
  obtain ⟨c0, c40, c79, c118, c154, c190⟩ := cuts_tally
  intro st hst
  obtain rfl : st = .lead := by
    rw [hpos] at hst
    exact (Option.some.inj hst).symm
  exact doneWithin_next (m := 0) (n := 40) rfl hx c0 (by decide) c40 (by decide) fun y hy1 hy2 =>
    doneWithin_next (n := 39) hy1 hy2 c40 (by decide) c79 (by decide) fun y hy1 hy2 =>
      doneWithin_next (n := 39) hy1 hy2 c79 (by decide) c118 (by decide) fun y hy1 hy2 =>
        doneWithin_next (n := 36) hy1 hy2 c118 (by decide) c154 (by decide) fun y hy1 hy2 =>
          doneWithin_last (n := 36) hy1 hy2 c154 (by decide) c190 (by decide)

/-- An image begun in full leaves nobody waiting where there is room for its runs. -/
theorem beginImage_room (hp : s.gate.profile = some p) (hw : s.gate.waiters = [])
    (hk : ∀ (y : Image) (v : State), y.pos = some .lead → y.shown = [] → doneWithin i v k y)
    (hq : s.gate.queue.length + k ≤ 16) : (beginImage i s).gate.waiters = []
      ∧ (beginImage i s).gate.queue.length ≤ s.gate.queue.length + k := by
  have same := setImage_gate i ⟨0, none, false, true, []⟩ s
  have room := giveRewrite_room (i := i) (s := setImage i ⟨0, none, false, true, []⟩ s) k (by rw [same, hp])
    (by rw [same, hw]) (hk _ _ rfl (by rw [getImage_setImage])) (by rw [same]; exact hq)
  rw [same] at room
  exact room

theorem beginLive_room (hp : s.gate.profile = some p) (hw : s.gate.waiters = [])
    (hq : s.gate.queue.length + 6 ≤ 16) : (beginImage .live s).gate.waiters = []
      ∧ (beginImage .live s).gate.queue.length ≤ s.gate.queue.length + 6 :=
  beginImage_room hp hw (fun _ v h1 h2 => doneWithin_live h1 h2 v) hq

theorem beginTally_room (hp : s.gate.profile = some p) (hw : s.gate.waiters = [])
    (hq : s.gate.queue.length + 8 ≤ 16) : (beginImage .tally s).gate.waiters = []
      ∧ (beginImage .tally s).gate.queue.length ≤ s.gate.queue.length + 8 :=
  beginImage_room hp hw (fun _ v h1 h2 => doneWithin_tally h1 h2 v) hq

end

end Sys2Proof.Proofs

/-! Entry to RUNNING (R177, R179, R180): what it keeps of memory, the tariff, the lane and the Live Image. -/
namespace Sys2Proof.Proofs
open Sys2Proof.Machine Sys2Proof.Safety Sys2Proof.Laws

section
variable {s t u v w : State} {i : ImageId}

/-- What the entry to RUNNING leaves as it is. -/
def entryCore (s : State) := (s.mem, s.tariff, s.sys.part, s.gate.held, s.gate.profile, s.img.live)

/-- What of the lane the judgment of the channels and the records leave. -/
def laneKept (c : Coin) := (c.lane, c.gatePos, c.flushTimer, c.escrow, c.mustFlush, c.started)

/-- The Live Image's own state, and whether a change has been handed over for it. -/
def liveImage (x : Images) := (x.live, x.liveDirty)

/-- From `s` to `t` memory, the tariff, the part's state, the Live Image's own state and the lane stand, the
Post Queue only grew, and no change handed over for the Live Image is forgotten. -/
structure Stays (t s : State) : Prop where
  core : entryCore t = entryCore s
  lane : laneKept t.coin = laneKept s.coin
  posts : grows s t
  touched : s.img.liveDirty = true → t.img.liveDirty = true

theorem Stays.same (h : entryCore t = entryCore s) (hl : laneKept t.coin = laneKept s.coin)
    (hq : t.gate.queue = s.gate.queue) (ht : s.img.liveDirty = true → t.img.liveDirty = true := by exact id) :
    Stays t s := ⟨h, hl, grows_same hq, ht⟩

theorem Stays.refl (s : State) : Stays s s := .same rfl rfl rfl

theorem Stays.trans (h : Stays t u) (h' : Stays u s) : Stays t s :=
  ⟨h.core.trans h'.core, h.lane.trans h'.lane, grows_trans h'.posts h.posts,
    fun ht => h.touched (h'.touched ht)⟩

theorem stays_of_unposted (h : unposted t = unposted s) (hl : liveImage t.img = liveImage s.img) (hg : grows s t) :
    Stays t s := by
  have coin : t.coin = s.coin := show (unposted t).coin = (unposted s).coin from congrArg State.coin h
  have live : t.img.live = s.img.live := congrArg Prod.fst hl
  have dirty : t.img.liveDirty = s.img.liveDirty := congrArg Prod.snd hl
  refine ⟨?_, congrArg laneKept coin, hg, dirty.trans⟩
  unfold entryCore
  rw [mem_of_unposted h, tariff_of_unposted h, sys_of_unposted h, held_of_steady (steady_of_unposted h),
    profile_of_unposted h, live]

/-! ### Posts, images and events -/

theorem offer_img (q : Producer) (es : List PostEntry) (s : State) : (offer q es s).img = s.img := by
  unfold offer
  induction es generalizing s with
  | nil => rfl
  | cons e es ih =>
    rw [List.map_cons, offerItems]
    split
    · exact ih (append e s)
    · unfold joinLine
      split <;> rfl

theorem offer_stays (q : Producer) (es : List PostEntry) (s : State) : Stays (offer q es s) s :=
  stays_of_unposted (offer_unposted q es s) (congrArg liveImage (offer_img q es s)) (offer_grows q es s)

theorem raise_stays (b : Block) (code : Nat) (d : List Byte) (s : State) : Stays (raise b code d s) s := by
  unfold raise
  split <;> exact .same rfl rfl rfl

theorem setImage_live (x : Image) (s : State) (h : i ≠ .live) :
    liveImage (setImage i x s).img = liveImage s.img := by
  cases i with
  | live => exact absurd rfl h
  | clock => rfl
  | tally => rfl
  | tamper => rfl

theorem startOwed_live (s : State) (h : i ≠ .live) : liveImage (startOwed i s).img = liveImage s.img := by
  unfold startOwed
  dsimp only
  split
  · exact setImage_live _ _ h
  · rfl

theorem appendRun_live (s : State) (h : i ≠ .live) : liveImage (appendRun i s).img = liveImage s.img := by
  unfold appendRun
  dsimp only
  split
  · exact (startOwed_live _ h).trans (setImage_live _ _ h)
  · exact setImage_live _ _ h

theorem pumpImage_live (n : Nat) (s : State) (h : i ≠ .live) :
    liveImage (pumpImage i n s).img = liveImage s.img := by
  induction n generalizing s with
  | zero => rfl
  | succ n ih =>
    unfold pumpImage
    split
    · rfl
    · split
      · exact (ih _).trans (appendRun_live s h)
      · unfold joinLine
        split <;> rfl

theorem giveRewrite_live (s : State) (h : i ≠ .live) : liveImage (giveRewrite i s).img = liveImage s.img := by
  unfold giveRewrite goOnImage
  dsimp only
  split
  · split
    · exact (pumpImage_live 20 _ h).trans ((startOwed_live _ h).trans (setImage_live _ _ h))
    · rfl
    · rfl
    · exact setImage_live _ _ h
    · exact setImage_live _ _ h
  · rfl

theorem giveRewrite_stays (s : State) (h : i ≠ .live) : Stays (giveRewrite i s) s :=
  stays_of_unposted (giveRewrite_unposted i s) (giveRewrite_live s h) (giveRewrite_grows i s)

theorem beginImage_grows (i : ImageId) (s : State) : grows s (beginImage i s) :=
  grows_from (giveRewrite_grows i _) (congrArg Gate.queue (setImage_gate i _ s))

theorem beginImage_stays (s : State) (h : i ≠ .live) : Stays (beginImage i s) s :=
  stays_of_unposted (beginImage_unposted i s) ((giveRewrite_live _ h).trans (setImage_live _ _ h))
    (beginImage_grows i s)

theorem writeEvent_stays (e : Event) (s : State) : Stays (writeEvent e s) s := by
  unfold writeEvent
  split
  · exact .refl s
  · dsimp only
    split
    · exact (offer_stays _ _ _).trans (.same rfl rfl rfl)
    · split
      · exact (offer_stays _ _ _).trans (.same rfl rfl rfl)
      · exact .same rfl rfl rfl

theorem finishDeferred_stays (d : Deferred) (code : Nat) (o : OrderOutcome) (detail : Nat) (s : State) :
    Stays (finishDeferred d code o detail s) s := by
  have offered : ∀ (e : PostEntry) (x : List Byte) (v : State),
      Stays (offerItems .orderUnit [.entry e, .finished x] v) v := by
    intro e x v
    unfold offerItems
    split
    · exact (raise_stays _ _ _ _).trans ⟨rfl, rfl, append_grows e v, id⟩
    · unfold joinLine
      split <;> exact .same rfl rfl rfl
  unfold finishDeferred
  split
  · exact .refl s
  · exact offered _ _ s

/-! ### The call ended by a CORD trip, and its record -/

theorem placeRecord_stays (c : CallRecord) (s : State) : Stays (placeRecord c s) s := by
  unfold placeRecord
  split
  · exact .refl s
  · exact (offer_stays _ _ _).trans (.same rfl rfl rfl)

theorem placePending_stays (s : State) : Stays (placePending s) s := by
  unfold placePending
  split
  · exact .refl s
  · next c _ =>
    split
    · refine .trans (u := placeRecord c { s with ring := { s.ring with slot := none } })
        (.same rfl rfl rfl fun _ => rfl) ?_
      exact (placeRecord_stays _ _).trans (.same rfl rfl rfl)
    · exact .refl s

theorem dropRecord_stays (s : State) : Stays (dropRecord s) s := by
  unfold dropRecord
  dsimp only
  split
  · exact .same rfl rfl rfl
  · split
    · exact (offer_stays _ _ _).trans (.same rfl rfl rfl)
    · exact .same rfl rfl rfl

theorem fillSlot_stays (c : CallRecord) (s : State) : Stays (fillSlot c s) s := .same rfl rfl rfl fun _ => rfl

theorem handRecord_stays (c : CallRecord) (s : State) : Stays (handRecord c s).1 s := by
  refine .trans ?_ (placePending_stays s)
  unfold handRecord
  dsimp only
  generalize placePending s = v
  have counted : Stays (updTally (countKind c.kind)
      { v with ring := { v.ring with seq := (v.ring.seq + 1) % 65536 } }) v := .same rfl rfl rfl
  split
  · split
    · exact (placeRecord_stays _ _).trans counted
    · exact (fillSlot_stays _ _).trans counted
  · split
    · exact (fillSlot_stays _ _).trans ((dropRecord_stays _).trans counted)
    · exact (dropRecord_stays _).trans counted

theorem callReleased_stays (c : CallInfo) (s : State) : Stays (callReleased c s) s := by
  unfold callReleased takeEnd beginSettlement
  split
  · split
    · exact .same rfl rfl rfl fun _ => rfl
    · exact .same rfl rfl rfl
  · exact .same rfl rfl rfl

theorem endCall_stays (o : CallOutcome) (x : Station) (s : State) : Stays (endCall o x s) s := by
  cases h : s.call.cur with
  | none =>
    rw [endCall, h]
    exact .refl s
  | some c =>
    rw [endCall_released o x h]
    refine .trans (u := if c.seized = true then _ else _) (.same rfl rfl rfl fun _ => rfl) ?_
    split
    · exact (raise_stays _ _ _ _).trans ((handRecord_stays _ _).trans (callReleased_stays c s))
    · exact callReleased_stays c s

/-! ### The channels judged for the first time (R149, R163) -/

theorem handStatuses_stays (x : RepStatus) (codes : List Nat) (s : State) :
    Stays (handStatuses x codes s) s := by
  have one : ∀ (c : Nat) (v : State), Stays (handStatus c x v) v := by
    intro c v
    unfold handStatus
    split
    · exact .refl v
    · exact (giveRewrite_stays _ (by decide)).trans (.same rfl rfl rfl)
  unfold handStatuses
  induction codes generalizing s with
  | nil => exact .refl s
  | cons c codes ih => exact (ih _).trans (one c s)

theorem requeueFailed_stays (s : State) : Stays (requeueFailed s) s :=
  (handStatuses_stays _ _ _).trans (.same rfl rfl rfl)

theorem joinReport_stays (code sev : Nat) (time : ShortTime) (s : State) :
    Stays (joinReport code sev time s) s := by
  unfold joinReport startRound
  dsimp only
  split
  · exact .same rfl rfl rfl
  · exact .trans (u := requeueFailed _) (.same rfl rfl rfl)
      ((requeueFailed_stays _).trans (.same rfl rfl rfl))

theorem tripOne_stays (ch : Channel) (s : State) : Stays (tripOne ch s) s := by
  unfold tripOne
  split
  · exact .refl s
  · next p _ =>
    dsimp only
    refine (giveRewrite_stays _ (by decide)).trans ?_
    generalize trippedRec p ch (now s) (getChan ch s) = x
    generalize hv : (if callsReport p x.severity = true then
      joinReport (channelCode ch) x.severity x.last (setChan ch x s) else setChan ch x s) = v
    have joined : Stays v s := by
      rw [← hv]
      split
      · exact (joinReport_stays _ _ _ _).trans (.same rfl rfl rfl)
      · exact .same rfl rfl rfl
    generalize hw : raise .tamper 16 _ v = w
    have raised : Stays w s := by
      rw [← hw]
      exact (raise_stays _ _ _ _).trans joined
    have ended : Stays (if ch = .cord ∧ inCall w.call.station = true then endCall .cord .ready w else w) s := by
      split
      · exact (endCall_stays _ _ _).trans raised
      · exact raised
    generalize (if ch = .cord ∧ inCall w.call.station = true then endCall .cord .ready w else w) = z at ended
    split
    · exact .trans (u := z) (.same rfl rfl rfl) ended
    · exact ended

theorem condAppears_stays (ch : Channel) (s : State) : Stays (condAppears ch s) s := by
  unfold condAppears
  split
  · exact .refl s
  · dsimp only
    split
    · exact (tripOne_stays _ _).trans (tripOne_stays _ _)
    · exact tripOne_stays _ _

theorem firstJudge_stays (ch : Channel) (present : Bool) (s : State) : Stays (firstJudge ch present s) s := by
  unfold firstJudge
  dsimp only
  split
  · split
    · exact .refl s
    · exact .same rfl rfl rfl
  · split
    · exact condAppears_stays _ _
    · exact .refl s

theorem rebuildReports_stays (s : State) : Stays (rebuildReports s) s := by
  unfold rebuildReports
  dsimp only
  split
  · exact .same rfl rfl rfl
  · split
    · exact .trans (u := requeueFailed _) (.same rfl rfl rfl)
        ((requeueFailed_stays _).trans (.same rfl rfl rfl))
    · exact .same rfl rfl rfl

theorem startTamper_stays (s : State) : Stays (startTamper s) s := by
  unfold startTamper
  dsimp only
  refine (beginImage_stays _ (by decide)).trans ((rebuildReports_stays _).trans ?_)
  refine (firstJudge_stays _ _ _).trans ((firstJudge_stays _ _ _).trans ((firstJudge_stays _ _ _).trans
    ((firstJudge_stays _ _ _).trans ((firstJudge_stays _ _ _).trans ((firstJudge_stays _ _ _).trans
      ((firstJudge_stays _ _ _).trans ((firstJudge_stays _ _ _).trans ?_)))))))
  exact .same rfl rfl rfl

/-! ### The rest of the entry -/

theorem writeHeld_stays (s : State) : Stays (writeHeld s) s := by
  have written : ∀ (l : List Event) (v : State), Stays (l.foldl (fun s e => writeEvent e s) v) v := by
    intro l
    induction l with
    | nil => exact fun v => .refl v
    | cons e l ih => exact fun v => (ih _).trans (writeEvent_stays e v)
  exact (written _ _).trans (.same rfl rfl rfl)

theorem finishRestart_stays (s : State) : Stays (finishRestart s) s := by
  unfold finishRestart
  split
  · exact .refl s
  · exact (finishDeferred_stays _ _ _ _ _).trans (.same rfl rfl rfl)

theorem startVisit_stays (s : State) : Stays (startVisit s) s := by
  have closed : ∀ v : State, Stays (closeVisitRecord false v) v := fun v =>
    (raise_stays _ _ _ _).trans (.same rfl rfl rfl)
  unfold startVisit
  split
  · exact .refl s
  · refine (closed _).trans ?_
    unfold closeBoxOut
    split
    · exact .same rfl rfl rfl
    · exact .refl s

theorem announceLost_stays (s : State) : Stays (announceLost s) s := by
  unfold announceLost
  split
  · exact .refl s
  · exact (raise_stays _ _ _ _).trans (.same rfl rfl rfl)

/-- RUNNING as it is entered, before the lane's part. -/
def entering (s : State) : State :=
  startCall (finishRestart (writeHeld { s with sys := { s.sys with part := .running } }))

theorem entering_stays (s : State) : Stays (entering s) { s with sys := { s.sys with part := .running } } :=
  .trans (u := finishRestart (writeHeld { s with sys := { s.sys with part := .running } })) (.same rfl rfl rfl)
    ((finishRestart_stays _).trans (writeHeld_stays _))

theorem enterRunning_stays (s : State) : Stays (enterRunning s) (startCoin (entering s)) :=
  (announceLost_stays _).trans ((startTamper_stays _).trans (startVisit_stays _))

theorem rebuildCounts_stays (s : State) : Stays (rebuildCounts s) s := by
  have one : ∀ (v : State) (cls : Nat), Stays (rebuildClass v cls) v := by
    intro v cls
    unfold rebuildClass
    split
    · exact .refl v
    · dsimp only
      split
      · exact .same rfl rfl rfl fun _ => rfl
      · exact .same rfl rfl rfl
  have all : ∀ (l : List Nat) (v : State), Stays (l.foldl rebuildClass v) v := by
    intro l
    induction l with
    | nil => exact fun v => .refl v
    | cons c l ih => exact fun v => (ih _).trans (one v c)
  exact all _ s

/-- The lane's part in the entry to RUNNING, whatever it does to the lane. -/
theorem startCoin_core (s : State) : entryCore (startCoin s) = entryCore s ∧ grows s (startCoin s) := by
  unfold startCoin
  dsimp only
  split
  · have counts := rebuildCounts_stays (touchLive { s with
      coin := startFlush { s.coin with box := s.pins.box, boxTimer := none, escrow := [] } })
    exact ⟨counts.core, grows_from counts.posts rfl⟩
  · split
    · exact ⟨rfl, grows_refl s⟩
    · unfold coinStarted
      dsimp only
      split <;> exact ⟨rfl, grows_refl s⟩

/-- RUNNING entered: memory, the tariff, the held cycles, the profile and the Live Image stand. -/
theorem enterRunning_core (s : State) :
    entryCore (enterRunning s) = entryCore { s with sys := { s.sys with part := .running } }
      ∧ grows s (enterRunning s) := by
  obtain ⟨core, posts⟩ := startCoin_core (entering s)
  have before := entering_stays s
  have behind := enterRunning_stays s
  exact ⟨behind.core.trans (core.trans before.core),
    grows_trans before.posts (grows_trans posts behind.posts)⟩

end

end Sys2Proof.Proofs

/-! The end of a bank load (R55 to R59, R62): the judgment of activation, and the load's end. -/
namespace Sys2Proof.Proofs
open Sys2Proof.Machine Sys2Proof.Safety Sys2Proof.Laws

section
variable {s t u v w x m : State} {p : Profile} {d bs : List Byte} {bank : Bank} {eff : Option FullTime}
  {tb : Tables}

/-! ### The judgment of activation at the end of a step (R59) -/

theorem judgeMode_offLine (s : State) : offLine (judgeMode s) = offLine s := by
  unfold judgeMode
  dsimp only
  split
  · rfl
  · unfold raise
    split <;> rfl

/-- What the end of a step leaves of the tariff, the guards, the band and the bank in the Tally is what the
judgment of activation left. -/
theorem finish_activated (n : Nat) (h : x.sys.part = .running) :
    (finish n x).tariff = (judgeActivation (judgeMoney x)).tariff
    ∧ (finish n x).gate.guardA = (judgeActivation (judgeMoney x)).gate.guardA
    ∧ (finish n x).gate.guardB = (judgeActivation (judgeMoney x)).gate.guardB
    ∧ (finish n x).cal = (judgeActivation (judgeMoney x)).cal
    ∧ (finish n x).tally = (judgeActivation (judgeMoney x)).tally := by
  have off := settle_offLine h
  rw [atReport, judgeMode_offLine] at off
  have clock : unposted (judgeActivationClock (judgeMoney x)) = unposted (judgeActivation (judgeMoney x)) := by
    unfold judgeActivationClock
    dsimp only
    split
    · rfl
    · exact giveRewrite_unposted .clock _
  obtain ⟨ga, gb⟩ := guards_of_unposted clock
  have gate : (settle x).gate = (judgeActivationClock (judgeMoney x)).gate :=
    congrArg (fun y => y.2.2.2.2.2.1) off
  exact ⟨(finish_tariff n x).trans ((congrArg (fun y => y.2.1) off).trans (tariff_of_unposted clock)),
    (finish_guardA n x).trans ((congrArg Gate.guardA gate).trans ga),
    (finish_guardB n x).trans ((congrArg Gate.guardB gate).trans gb),
    (finish_cal n x).trans ((congrArg (fun y => y.1) off).trans (cal_of_unposted clock)),
    (finish_tally n x).trans ((congrArg (fun y => y.2.2.1) off).trans (tally_of_unposted clock))⟩

/-- What activation is judged by, as the money's judgments leave it. -/
theorem judgeMoney_judged (x : State) : (judgeMoney x).tariff = x.tariff ∧ (judgeMoney x).cal = x.cal
    ∧ atBoundary (judgeMoney x) = atBoundary x ∧ (judgeMoney x).gate = x.gate := by
  have un := judgeMoney_unmoneyed x
  have boundary : atBoundary (judgeMoney x) = atBoundary x :=
    show atBoundary (unmoneyed (judgeMoney x)) = atBoundary (unmoneyed x) from congrArg atBoundary un
  have gate : (judgeMoney x).gate = x.gate :=
    show (unmoneyed (judgeMoney x)).gate = (unmoneyed x).gate from congrArg State.gate un
  exact ⟨tariff_of_unmoneyed un, cal_of_unmoneyed un, boundary, gate⟩

/-- A candidate not to be activated stays. -/
theorem judgeActivation_waits (hs : x.tariff.swap = .pending bank eff tb)
    (h : (timeReached eff x.cal && atBoundary x) = false) :
    judgeActivation (judgeMoney x) = judgeMoney x := by
  obtain ⟨tariff, cal, boundary, -⟩ := judgeMoney_judged x
  have hs' : (judgeMoney x).tariff.swap = .pending bank eff tb := by rw [tariff, hs]
  rw [judgeActivation, hs']
  exact if_neg (by rw [cal, boundary, h]; exact Bool.false_ne_true)

/-- A candidate whose time is reached at a boundary becomes active. -/
theorem judgeActivation_acts (hs : x.tariff.swap = .pending bank eff tb)
    (h : (timeReached eff x.cal && atBoundary x) = true) :
    judgeActivation (judgeMoney x) = activate bank tb (judgeMoney x) := by
  obtain ⟨tariff, cal, boundary, -⟩ := judgeMoney_judged x
  have hs' : (judgeMoney x).tariff.swap = .pending bank eff tb := by rw [tariff, hs]
  rw [judgeActivation, hs']
  exact if_pos (by rw [cal, boundary, h])

/-- Activation: the tables, the band, the other bank let go, bank and edition in the Tally. -/
theorem activate_leaves (bank : Bank) (tb : Tables) (m : State) :
    (activate bank tb m).tariff = { m.tariff with active := some (bank, tb), swap := .idle }
    ∧ (activate bank tb m).cal.band = chooseBand (some (bank, tb)) m.cal
    ∧ (bank = .a → (activate bank tb m).gate.guardA = m.gate.guardA
      ∧ (activate bank tb m).gate.guardB = (m.gate.guardB && m.tariff.active.map (·.1) != some .b))
    ∧ (bank = .b → (activate bank tb m).gate.guardB = m.gate.guardB
      ∧ (activate bank tb m).gate.guardA = (m.gate.guardA && m.tariff.active.map (·.1) != some .a))
    ∧ (activate bank tb m).tally.bank = some bank ∧ (activate bank tb m).tally.edition = tb.edition := by
  have raised : ∀ (det : List Byte) (v : State),
      (handBank (some bank) tb.edition (raise .tariff 21 det v)).tariff = v.tariff
      ∧ (handBank (some bank) tb.edition (raise .tariff 21 det v)).cal = v.cal
      ∧ (handBank (some bank) tb.edition (raise .tariff 21 det v)).gate = v.gate
      ∧ (handBank (some bank) tb.edition (raise .tariff 21 det v)).tally.bank = some bank
      ∧ (handBank (some bank) tb.edition (raise .tariff 21 det v)).tally.edition = tb.edition := by
    intro det v
    unfold raise
    split <;> exact ⟨rfl, rfl, rfl, rfl, rfl⟩
  unfold activate
  dsimp only
  cases hold : m.tariff.active with
  | none =>
    obtain ⟨ht, hc, hg, hb, he⟩ := raised (activeDetail bank tb.edition none)
      (reselectBand { m with tariff := { m.tariff with active := some (bank, tb), swap := .idle } })
    dsimp only
    rw [ht, hc, hg, hb, he]
    refine ⟨rfl, rfl, fun _ => ⟨rfl, (Bool.and_true _).symm⟩, fun _ => ⟨rfl, (Bool.and_true _).symm⟩, rfl, rfl⟩
  | some old =>
    obtain ⟨ob, otb⟩ := old
    dsimp only
    by_cases same : ob = bank
    · rw [if_pos same]
      obtain ⟨ht, hc, hg, hb, he⟩ := raised (activeDetail bank tb.edition (some (ob, otb)))
        (reselectBand { m with tariff := { m.tariff with active := some (bank, tb), swap := .idle } })
      rw [ht, hc, hg, hb, he]
      subst same
      exact ⟨rfl, rfl, fun h => ⟨rfl, by subst h; exact (Bool.and_true _).symm⟩,
        fun h => ⟨rfl, by subst h; exact (Bool.and_true _).symm⟩, rfl, rfl⟩
    · rw [if_neg same]
      obtain ⟨ht, hc, hg, hb, he⟩ := raised (activeDetail bank tb.edition (some (ob, otb)))
        (reselectBand (setBankGuard ob false
          { m with tariff := { m.tariff with active := some (bank, tb), swap := .idle } }))
      rw [ht, hc, hg, hb, he]
      cases ob with
      | a =>
        refine ⟨rfl, rfl, fun h => absurd h.symm same, fun _ => ⟨rfl, ?_⟩, rfl, rfl⟩
        exact (Bool.and_false _).symm
      | b =>
        refine ⟨rfl, rfl, fun _ => ⟨rfl, ?_⟩, fun h => absurd h.symm same, rfl, rfl⟩
        exact (Bool.and_false _).symm

/-! ### The end of a SWAP TARIFF's load (R24, R55, R56) -/

theorem exec_bankLoadCheck (h : handed (.bank true) d s) (hw : bankWanted s = true)
    (hheld : (bankEffect d (headGone s)).gate.held = []) : exec .bankLoadCheck s
      = .next (finish (waiting s) (bankEffect d (headGone s))) := by
  have run : exec .bankLoadCheck s = (if headRead s = some (.bank true) ∧ bankWanted s = true then
      .next (completeStep bankEffect s) else .next s) := rfl
  rw [run, if_pos ⟨headRead_handed h, hw⟩, completeStep_handed h hheld]

/-- A deferred order finished where there is room: its outcome run, and ORDER FINISHED behind it. -/
theorem finishDeferred_room (o : Deferred) (code : Nat) (r : OrderOutcome) (detail : Nat)
    (hp : s.gate.profile = some p) (hw : s.gate.waiters = []) (hq : s.gate.queue.length < 16) :
    unposted (finishDeferred o code r detail s) = unposted s
    ∧ (finishDeferred o code r detail s).gate.queue
      = s.gate.queue ++ [outcomeRun p o.slot (orderOutcomeCode r) detail] := by
  have free : placeFree s = true := by simp [placeFree, hw, postPlaces, hq]
  have is : finishDeferred o code r detail s = raise .order 27
      [b8 o.slot.val, o.tag, b8 code, b8 (orderOutcomeCode r)] (append (outcomeEntry p o.slot r detail) s) := by
    unfold finishDeferred
    rw [hp]
    exact if_pos free
  rw [is, raise_unposted, raise_gate, ← outcomeEntry_eq_outcomeRun]
  exact ⟨rfl, rfl⟩

/-- The state at the end of a load that is refused. -/
def loadRefused (bank : Bank) (s : State) : State :=
  setBankGuard bank false { s with tariff := { s.tariff with swap := .idle, buf := [] } }

/-- The state at the end of a load that passes. -/
def loadPending (bank : Bank) (eff : Option FullTime) (tb : Tables) (s : State) : State :=
  { s with tariff := { s.tariff with swap := .pending bank eff tb, buf := [] } }

theorem endSwapLoad_fault (o : Deferred) {sec idx : Nat} (hf : bankFault bs = some (sec, idx)) :
    endSwapLoad bank eff o bs s = finishDeferred o 8 .invalidBank (sec + 256 * idx) (loadRefused bank s) := by
  rw [endSwapLoad, hf]
  rfl

theorem endSwapLoad_passes (o : Deferred) (hf : bankFault bs = none) : ∃ v,
    endSwapLoad bank eff o bs s = finishDeferred o 8 .done (multsClamped bs) v
      ∧ unposted v = unposted (loadPending bank eff (readTables bs) s) ∧ v.gate = s.gate := by
  refine ⟨raise .tariff 20 ([b8 (bankCode (some bank))] ++ leBytes 2 (readTables bs).edition ++ effBytes eff)
    (loadPending bank eff (readTables bs) s), ?_, raise_unposted _ _ _ _, raise_gate _ _ _ _⟩
  rw [endSwapLoad, hf]
  rfl

end

end Sys2Proof.Proofs

/-! Bank loads end: those of SWAP TARIFF and the start-up's (R55 to R59, R62, R177, R179). -/
namespace Sys2Proof.Proofs
open Sys2Proof.Machine Sys2Proof.Safety Sys2Proof.Laws

section
variable {s t u v w x m : State} {p : Profile} {d bs : List Byte} {bank : Bank} {eff : Option FullTime}
  {tb : Tables} {o : Deferred} {r : OrderOutcome} {detail : Nat}

/-! ### The load of a SWAP TARIFF -/

/-- A SWAP TARIFF's load ends with its order finished on the state `v`. -/
theorem swapLoad_ends (h : handed (.bank true) d s) (hr : s.sys.part = .running) (hroom : roomy s)
    (hst : s.tariff.startLoad = none) (hl : s.tariff.swap = .loading bank eff o)
    (hv : endSwapLoad bank eff o (s.tariff.buf ++ d) (headGone s) = finishDeferred o 8 r detail v)
    (hp : v.gate.profile = some p) (hq : v.gate.queue = (headGone s).gate.queue)
    (hw : v.gate.waiters = (headGone s).gate.waiters) (hheld : v.gate.held = (headGone s).gate.held) :
    ∃ x, exec .bankLoadCheck s = .next (finish (waiting s) x) ∧ unposted x = unposted v
      ∧ posted (outcomeRun p o.slot (orderOutcomeCode r) detail) (headGone s) (finish (waiting s) x) := by
  obtain ⟨room_w, room_q⟩ := headGone_room hroom
  obtain ⟨un, queue⟩ := finishDeferred_room o 8 r detail hp (hw.trans room_w)
    (by rw [hq]; exact Nat.lt_of_le_of_lt room_q (by decide))
  have effect : bankEffect d (headGone s) = finishDeferred o 8 r detail v := by
    rw [← hv, bankEffect]
    have start : (headGone s).tariff.startLoad = none := hst
    have swap : (headGone s).tariff.swap = .loading bank eff o := hl
    rw [start, swap]
    rfl
  have wanted : bankWanted s = true := by simp [bankWanted, hr, hl]
  have held : (bankEffect d (headGone s)).gate.held = [] := by
    rw [effect, held_of_steady (steady_of_unposted un), hheld]
    exact headGone_held h
  have run := exec_bankLoadCheck h wanted held
  rw [effect] at run
  rw [hq] at queue
  exact ⟨_, run, un, posted_of_append queue (finish_grows _ _)⟩

/-- With no swap pending a step's end leaves the tariff. -/
theorem finish_tariff_idle (n : Nat) (h : x.tariff.swap = .idle) : (finish n x).tariff = x.tariff := by
  rw [finish_tariff]
  by_cases hr : x.sys.part = .running
  · exact (settle_tariff hr (noSwap_of_idle h)).1
  · rw [settle, if_neg hr]

theorem loadRefused_rest (bank : Bank) (s : State) : (loadRefused bank s).mem = s.mem
    ∧ (loadRefused bank s).sys = s.sys
    ∧ (loadRefused bank s).tariff = { s.tariff with swap := .idle, buf := [] }
    ∧ (bank = .a → (loadRefused bank s).gate = { s.gate with guardA := false })
    ∧ (bank = .b → (loadRefused bank s).gate = { s.gate with guardB := false }) := by
  cases bank
  · exact ⟨rfl, rfl, rfl, fun _ => rfl, fun h => absurd h nofun⟩
  · exact ⟨rfl, rfl, rfl, fun h => absurd h nofun, fun _ => rfl⟩

/-- A bank that fails its checks is let go, and the order answered INVALID BANK. -/
theorem swapLoad_refused (h : handed (.bank true) d s) (hr : s.sys.part = .running)
    (hp : s.gate.profile = some p) (hroom : roomy s) (hst : s.tariff.startLoad = none)
    (hl : s.tariff.swap = .loading bank eff o) {sec idx : Nat}
    (hf : bankFault (s.tariff.buf ++ d) = some (sec, idx)) :
    ∃ t, exec .bankLoadCheck s = .next t ∧ t.tariff.swap = .idle ∧ t.tariff.active = s.tariff.active
      ∧ (bank = .a → t.gate.guardA = false ∧ t.gate.guardB = s.gate.guardB)
      ∧ (bank = .b → t.gate.guardB = false ∧ t.gate.guardA = s.gate.guardA)
      ∧ t.mem = s.mem ∧ posted (outcomeRun p o.slot 7 (sec + 256 * idx)) (headGone s) t := by
  obtain ⟨mem, sys, tariff, ga, gb⟩ := loadRefused_rest bank (headGone s)
  have gate : (loadRefused bank (headGone s)).gate.profile = (headGone s).gate.profile
      ∧ (loadRefused bank (headGone s)).gate.queue = (headGone s).gate.queue
      ∧ (loadRefused bank (headGone s)).gate.waiters = (headGone s).gate.waiters
      ∧ (loadRefused bank (headGone s)).gate.held = (headGone s).gate.held := by
    cases bank
    · rw [ga rfl]; exact ⟨rfl, rfl, rfl, rfl⟩
    · rw [gb rfl]; exact ⟨rfl, rfl, rfl, rfl⟩
  obtain ⟨g1, g2, g3, g4⟩ := gate
  obtain ⟨x, run, un, posts⟩ := swapLoad_ends h hr hroom hst hl (endSwapLoad_fault o hf) (g1.trans hp) g2 g3 g4
  have xtariff := (tariff_of_unposted un).trans tariff
  have xmem := (mem_of_unposted un).trans mem
  have xrun : x.sys.part = .running := by rw [sys_of_unposted un, sys]; exact hr
  have swap : x.tariff.swap = .idle := by rw [xtariff]
  obtain ⟨-, sg⟩ := settle_tariff xrun (noSwap_of_idle swap)
  have guardA : (finish (waiting s) x).gate.guardA = (loadRefused bank (headGone s)).gate.guardA := by
    rw [finish_guardA, sg, guardA_of_unposted un]
  have guardB : (finish (waiting s) x).gate.guardB = (loadRefused bank (headGone s)).gate.guardB := by
    rw [finish_guardB, sg, guardB_of_unposted un]
  refine ⟨_, run, ?_, ?_, fun hb => ?_, fun hb => ?_, by rw [finish_mem, xmem]; rfl, posts⟩
  · rw [finish_tariff_idle _ swap, swap]
  · rw [finish_tariff_idle _ swap, xtariff]
    rfl
  · rw [guardA, guardB, ga hb]
    exact ⟨rfl, rfl⟩
  · rw [guardA, guardB, gb hb]
    exact ⟨rfl, rfl⟩

/-- A bank that passes is PENDING as the step's judgments begin, and the order answered DONE. -/
theorem swapLoad_passes (h : handed (.bank true) d s) (hr : s.sys.part = .running)
    (hp : s.gate.profile = some p) (hroom : roomy s) (hst : s.tariff.startLoad = none)
    (hl : s.tariff.swap = .loading bank eff o) (hf : bankFault (s.tariff.buf ++ d) = none) :
    ∃ x, exec .bankLoadCheck s = .next (finish (waiting s) x)
      ∧ unposted x = unposted (loadPending bank eff (readTables (s.tariff.buf ++ d)) (headGone s))
      ∧ posted (outcomeRun p o.slot 1 (multsClamped (s.tariff.buf ++ d))) (headGone s)
        (finish (waiting s) x) := by
  obtain ⟨v, hv, un, gate⟩ := endSwapLoad_passes (bank := bank) (eff := eff) (s := headGone s) o hf
  obtain ⟨x, run, unx, posts⟩ := swapLoad_ends h hr hroom hst hl hv (by rw [gate]; exact hp) (by rw [gate])
    (by rw [gate]) (by rw [gate])
  exact ⟨x, run, unx.trans un, posts⟩

/-- The candidate stays PENDING where it is not to be activated. -/
theorem finish_pending (n : Nat) (hr : x.sys.part = .running) (hs : x.tariff.swap = .pending bank eff tb)
    (h : (timeReached eff x.cal && atBoundary x) = false) : (finish n x).tariff = x.tariff
      ∧ (finish n x).gate.guardA = x.gate.guardA ∧ (finish n x).gate.guardB = x.gate.guardB := by
  obtain ⟨tariff, guardA, guardB, -⟩ := finish_activated n hr
  obtain ⟨mtariff, -, -, mgate⟩ := judgeMoney_judged x
  rw [judgeActivation_waits hs h] at tariff guardA guardB
  exact ⟨tariff.trans mtariff, guardA.trans (congrArg Gate.guardA mgate),
    guardB.trans (congrArg Gate.guardB mgate)⟩

/-- The candidate becomes active where its time is reached at a boundary. -/
theorem finish_active (n : Nat) (hr : x.sys.part = .running) (hs : x.tariff.swap = .pending bank eff tb)
    (h : (timeReached eff x.cal && atBoundary x) = true) :
    (finish n x).tariff.swap = .idle ∧ (finish n x).tariff.active = some (bank, tb)
    ∧ (finish n x).cal.band = chooseBand (some (bank, tb)) x.cal
    ∧ (bank = .a → (finish n x).gate.guardA = x.gate.guardA
      ∧ (finish n x).gate.guardB = (x.gate.guardB && x.tariff.active.map (·.1) != some .b))
    ∧ (bank = .b → (finish n x).gate.guardB = x.gate.guardB
      ∧ (finish n x).gate.guardA = (x.gate.guardA && x.tariff.active.map (·.1) != some .a))
    ∧ (finish n x).tally.bank = some bank ∧ (finish n x).tally.edition = tb.edition := by
  obtain ⟨tariff, guardA, guardB, cal, tally⟩ := finish_activated n hr
  obtain ⟨mtariff, mcal, -, mgate⟩ := judgeMoney_judged x
  obtain ⟨atariff, aband, aa, ab, abank, aed⟩ := activate_leaves bank tb (judgeMoney x)
  rw [judgeActivation_acts hs h] at tariff guardA guardB cal tally
  rw [tariff, guardA, guardB, cal, tally, atariff, aband, mcal]
  rw [mgate, mtariff] at aa ab
  exact ⟨rfl, rfl, rfl, aa, ab, abank, aed⟩

/-! ### The start-up load -/

/-- START-UP announced where there is room for the status byte (R177, R179). -/
theorem announceStart_leaves (hp : v.gate.profile = some p) (hw : v.gate.waiters = [])
    (hq : v.gate.queue.length ≤ 15) (hs : v.sys.part = .starting) :
    (announceStart v).mem = v.mem ∧ (announceStart v).tariff = v.tariff
    ∧ (announceStart v).gate.held = v.gate.held
    ∧ ((announceStart v).sys.part = .running
      ∨ (announceStart v).sys.part = .starting ∧ (announceStart v).sys.stage = .announce)
    ∧ (v.gate.queue.length ≤ 7 → (announceStart v).sys.part = .running)
    ∧ v.gate.queue ++ [.write 0xFFFE [v.sys.status] .plain] <+: (announceStart v).gate.queue := by
  have given := offer_room .gate [.write 0xFFFE [v.sys.status] .plain] v hw
    (by rw [List.length_singleton]; exact Nat.succ_le_succ hq)
  unfold announceStart
  dsimp only
  rw [given]
  generalize hb : { v with
    img := { v.img with final := false }, sys := { v.sys with stage := .announce },
    gate := { v.gate with queue := v.gate.queue ++ [PostEntry.write 0xFFFE [v.sys.status] .plain] } } = b
  have bq : b.gate.queue = v.gate.queue ++ [.write 0xFFFE [v.sys.status] .plain] := by rw [← hb]
  have bw : b.gate.waiters = [] := by rw [← hb]; exact hw
  have bp : b.gate.profile = some p := by rw [← hb]; exact hp
  have bun : unposted b = unposted { v with sys := { v.sys with stage := .announce } } := by rw [← hb]; rfl
  have iun := beginImage_unposted .live b
  have igrows := beginImage_grows .live b
  have iroom := fun h => beginLive_room (s := b) bp bw h
  generalize beginImage .live b = i at *
  have wun := (writeEvent_unposted (startUpEvent i) i).trans (iun.trans bun)
  have wgrows := writeEvent_grows (startUpEvent i) i
  have wroom := fun h h' => writeEvent_fits (s := i) (startUpEvent i) h h'
  generalize writeEvent (startUpEvent i) i = w at *
  have posts : v.gate.queue ++ [.write 0xFFFE [v.sys.status] .plain] <+: w.gate.queue := by
    have := grows_trans igrows wgrows
    rwa [grows, bq] at this
  have wsys := (sys_of_unposted wun).trans rfl
  have wmem : _ = v.mem := (mem_of_unposted wun).trans rfl
  have wtariff : _ = v.tariff := (tariff_of_unposted wun).trans rfl
  have wheld : _ = v.gate.held := (held_of_steady (steady_of_unposted wun)).trans rfl
  unfold endAnnounce
  split
  · obtain ⟨core, grown⟩ := enterRunning_core w
    simp only [entryCore, Prod.mk.injEq] at core
    obtain ⟨mem, tariff, part, held, -⟩ := core
    exact ⟨mem.trans wmem, tariff.trans wtariff, held.trans wheld, .inl part, fun _ => part,
      posts.trans grown⟩
  · next hn =>
    refine ⟨wmem, wtariff, wheld, .inr ⟨by rw [wsys]; exact hs, by rw [wsys]⟩, fun hfew => ?_, posts⟩
    refine absurd ?_ hn
    have bl : b.gate.queue.length = v.gate.queue.length + 1 := by rw [bq, List.length_append]; rfl
    obtain ⟨iw, iq⟩ := iroom (by omega)
    obtain ⟨ww, -⟩ := wroom iw (by omega)
    simp [stageGiven, stagePostsGiven, wsys, hs, ww]

/-- The end of a start-up load: the bank active if it passed, and START-UP announced behind the Clock Image's
rewrite. -/
theorem endStartLoad_eq (bank : Bank) (bs : List Byte) (hp : s.gate.profile = some p)
    (hw : s.gate.waiters = []) (hq : s.gate.queue.length ≤ 8) : ∃ v, endStartLoad bank bs s = announceStart v
      ∧ v.mem = s.mem ∧ v.sys = s.sys ∧ v.gate.profile = s.gate.profile ∧ v.gate.held = s.gate.held
      ∧ v.tariff = { s.tariff with
          startLoad := none, buf := [],
          active := if bankFault bs = none then some (bank, readTables bs) else s.tariff.active }
      ∧ v.gate.waiters = [] ∧ v.gate.queue.length ≤ s.gate.queue.length + 4 ∧ grows s v := by
  unfold endStartLoad
  dsimp only
  cases hf : bankFault bs with
  | none =>
    rw [if_pos rfl]
    dsimp only
    generalize hb : reselectBand { s with tariff := { s.tariff with
      startLoad := none, buf := [], active := some (bank, readTables bs) } } = b
    have bgate : b.gate = s.gate := by rw [← hb]; rfl
    have bmem : b.mem = s.mem := by rw [← hb]; rfl
    have bsys : b.sys = s.sys := by rw [← hb]; rfl
    have btariff : b.tariff = { s.tariff with
      startLoad := none, buf := [], active := some (bank, readTables bs) } := by rw [← hb]; rfl
    split
    · exact ⟨_, rfl, bmem, bsys, congrArg Gate.profile bgate, congrArg Gate.held bgate, btariff,
        (congrArg Gate.waiters bgate).trans hw, by
          show b.gate.queue.length ≤ _
          rw [bgate]
          exact Nat.le_add_right _ _, grows_same (congrArg Gate.queue bgate)⟩
    · have un := giveRewrite_unposted .clock b
      have grown := giveRewrite_grows .clock b
      obtain ⟨rw_, rq⟩ := giveRewrite_room (i := .clock) 4 (s := b) (by rw [bgate, hp]) (by rw [bgate, hw])
        (doneWithin_clock { getImage .clock b with owed := false } b) (by rw [bgate]; omega)
      refine ⟨_, rfl, (mem_of_unposted un).trans bmem, (sys_of_unposted un).trans bsys,
        (profile_of_unposted un).trans (congrArg Gate.profile bgate),
        (held_of_steady (steady_of_unposted un)).trans (congrArg Gate.held bgate),
        (tariff_of_unposted un).trans btariff, rw_, by rw [bgate] at rq; exact rq,
        grows_from grown (congrArg Gate.queue bgate)⟩
  | some f =>
    obtain ⟨sec, idx⟩ := f
    rw [if_neg (Option.some_ne_none _)]
    cases bank <;> exact ⟨_, rfl, rfl, rfl, rfl, rfl, rfl, hw, Nat.le_add_right _ _, grows_refl s⟩

end

/-- Settles O24. -/
theorem bankLoadEnds : Obligations.BankLoadEnds := by
  intro s p d bank h hp hroom bs hbs
  refine ⟨fun eff o hr hst hl => ⟨fun sec idx hf => swapLoad_refused h hr hp hroom hst hl (hbs ▸ hf),
    fun hf htalk => ?_, fun hf hat hslot => ⟨fun he => ?_, fun he => ?_⟩⟩, fun hr hst hl => ?_, fun hlen =>
      ⟨(bankFault_checks hlen).1, (bankFault_checks hlen).2, fun hf x hx => ?_⟩⟩
  · obtain ⟨x, run, un, posts⟩ := swapLoad_passes h hr hp hroom hst hl (hbs ▸ hf)
    rw [← hbs] at un posts
    have tariff := tariff_of_unposted un
    have boundary : atBoundary x = false := by
      simp [atBoundary, call_of_unposted un, loadPending, headGone, htalk]
    obtain ⟨ft, ga, gb⟩ := finish_pending (waiting s) (by rw [sys_of_unposted un]; exact hr)
      (congrArg Tariff.swap tariff) (by rw [boundary, Bool.and_false])
    refine ⟨_, run, ?_, ?_, ?_, ?_, ?_, posts⟩
    · rw [ft, tariff]
      rfl
    · rw [ft, tariff]
      rfl
    · rw [ga, guardA_of_unposted un]
      rfl
    · rw [gb, guardB_of_unposted un]
      rfl
    · rw [finish_mem, mem_of_unposted un]
      rfl
  · obtain ⟨x, run, un, posts⟩ := swapLoad_passes h hr hp hroom hst hl (hbs ▸ hf)
    rw [← hbs] at un posts
    have tariff := tariff_of_unposted un
    have cal : x.cal = s.cal := (cal_of_unposted un).trans rfl
    have boundary : atBoundary x = true := by
      simp [atBoundary, call_of_unposted un, ring_of_unposted un, loadPending, headGone, hat, hslot]
    have reached : timeReached eff x.cal = true := by
      obtain rfl | ⟨e, rfl, valid, le⟩ := he
      · rfl
      · simp [timeReached, cal, valid, le]
    obtain ⟨fs, fa, fb, ga, gb, tb, te⟩ := finish_active (waiting s) (by rw [sys_of_unposted un]; exact hr)
      (congrArg Tariff.swap tariff) (by rw [boundary, reached, Bool.and_self])
    rw [cal] at fb
    rw [guardA_of_unposted un, guardB_of_unposted un, tariff] at ga gb
    exact ⟨_, run, fs, fa, fb, ga, gb, tb, te, by rw [finish_mem, mem_of_unposted un]; rfl, posts⟩
  · obtain ⟨x, run, un, -⟩ := swapLoad_passes h hr hp hroom hst hl (hbs ▸ hf)
    rw [← hbs] at un
    have tariff := tariff_of_unposted un
    have cal : x.cal = s.cal := (cal_of_unposted un).trans rfl
    have early : timeReached eff x.cal = false := by
      obtain ⟨e, rfl, before⟩ := he
      obtain invalid | notLe := before
      · simp [timeReached, cal, invalid]
      · simp [timeReached, cal, notLe]
    obtain ⟨ft, -, -⟩ := finish_pending (waiting s) (by rw [sys_of_unposted un]; exact hr)
      (congrArg Tariff.swap tariff) (by rw [early, Bool.false_and])
    refine ⟨_, run, ?_, ?_, ?_⟩
    · rw [ft, tariff]
      rfl
    · rw [ft, tariff]
      rfl
    · rw [finish_mem, mem_of_unposted un]
      rfl
  · obtain ⟨room_w, room_q⟩ := headGone_room hroom
    have effect : bankEffect d (headGone s) = endStartLoad bank bs (headGone s) := by
      rw [hbs, bankEffect, show (headGone s).tariff.startLoad = some bank from hst]
      rfl
    have wanted : bankWanted s = true := by simp [bankWanted, hr, hst]
    obtain ⟨v, hv, vmem, vsys, vprof, vheld, vtariff, vw, vq, vgrows⟩ :=
      endStartLoad_eq bank bs (s := headGone s) hp room_w room_q
    obtain ⟨xmem, xtariff, xheld, xpart, xroom, xposts⟩ := announceStart_leaves (p := p) (vprof.trans hp) vw
      (Nat.le_trans vq (by omega)) (by rw [vsys]; exact hr)
    have run := exec_bankLoadCheck h wanted (by rw [effect, hv, xheld, vheld]; exact headGone_held h)
    rw [effect, hv] at run
    have left : s.gate.queue.length = (headGone s).gate.queue.length + 1 := by
      obtain ⟨a, n, q, hq, -⟩ := h
      show _ = s.gate.queue.tail.length + 1
      rw [hq]
      rfl
    generalize announceStart v = x at *
    have idle : x.tariff.swap = .idle := by rw [xtariff, vtariff]; exact hl
    have sys := sys_of_steady (finish_steady (waiting s) x)
    refine ⟨_, run, by rw [finish_mem, xmem, vmem]; rfl, ?_, by rw [sys]; exact xpart,
      fun hq => by rw [sys]; exact xroom (by omega), ?_, ?_⟩
    · rw [finish_tariff_idle _ idle, xtariff, vtariff]
    · rw [finish_tariff_idle _ idle, xtariff, vtariff]
      rfl
    · obtain ⟨l, hl'⟩ := vgrows
      rw [vsys] at xposts
      obtain ⟨l', hl''⟩ := xposts.trans (finish_grows (waiting s) x)
      rw [posted, ← hl'', ← hl', List.append_assoc, List.append_assoc, List.drop_left]
      exact ⟨⟨_, rfl⟩, List.mem_append_right l List.mem_cons_self⟩
  · subst hx
    refine ⟨fieldAt_two bs 0, rfl, rfl, ?_, ?_, ?_, readMults_eq bs, multsClamped_eq bs,
      fun i z hz => readZone_fields hz, fun i e he => readPrefix_fields hlen hf he,
      fun i e he => readBand_fields he⟩
    · exact (List.length_map _).trans List.length_range
    · exact (List.length_map _).trans List.length_range
    · exact (List.length_map _).trans List.length_range

end Sys2Proof.Proofs

/-! What a Live Image holds (R184, R185, R188, section 13.5): when it is usable, its purse, its escrow list and its
records. -/
namespace Sys2Proof.Proofs
open Sys2Proof.Machine Sys2Proof.Safety Sys2Proof.Laws

section
variable {bs : List Byte} {i j n : Nat}

theorem u16_lt (bs : List Byte) (i : Nat) : u16 bs i < 65536 := by
  have := u8_lt bs i
  have := u8_lt bs (i + 1)
  unfold u16
  omega

/-! ### When an image is usable (R184, R188) -/

theorem liveCount_eq (bs : List Byte) : liveCount bs = escrowCount bs := by
  rw [liveCount, fieldAt_two]
  rfl

theorem liveEntry_eq (bs : List Byte) (i : Nat) : liveEntry bs i = escrowAt bs i := by
  have := u16_lt bs (28 + 2 * i)
  rw [liveEntry, fieldAt_two, escrowAt]
  unfold bitsOf
  rw [Nat.mod_eq_of_lt (b := 2 ^ 3) (by omega)]
  simp

theorem livePurse_eq (bs : List Byte) : livePurse bs = ⟨purseOf (u8 bs 2 % 4), u24 bs 9, u24 bs 12, u24 bs 15,
    u24 bs 18, u24 bs 21, .nothing⟩ := by
  simp only [livePurse, fieldAt_three, natAt_eq]

theorem purseOf_cases (h : n < 4) : purseOf n = (if n = 0 then .absent else if n = 1 then .opened
    else if n = 2 then .settling else .held) := by
  have all : ∀ k < 4, purseOf k = (if k = 0 then .absent else if k = 1 then .opened
    else if k = 2 then .settling else .held) := by decide
  exact all n h

theorem purseOf_absent (h : n < 4) : purseOf n = .absent ↔ n = 0 := by
  have all : ∀ k < 4, purseOf k = .absent ↔ k = 0 := by decide
  exact all n h

theorem purseGood_iff (bs : List Byte) : purseGood bs = true ↔ purseFits bs := by
  have state : (livePurse bs).state = .absent ↔ u8 bs 2 % 4 = 0 := by
    rw [livePurse_eq]
    exact purseOf_absent (Nat.mod_lt _ (by decide))
  have value : liveEscrowValue bs = ((List.range (escrowCount bs)).map (fun i => (escrowAt bs i).1)).sum := by
    rw [liveEscrowValue, liveCount_eq]
    simp only [liveEntry_eq]
  unfold purseGood
  simp only [Bool.and_eq_true, decide_eq_true_iff, and_assoc]
  rw [value, livePurse_eq] at *
  refine and_congr Iff.rfl (and_congr Iff.rfl (and_congr Iff.rfl (and_congr Iff.rfl (and_congr Iff.rfl ?_))))
  by_cases h : u8 bs 2 % 4 = 0
  · rw [if_pos (state.mpr h)]
    simp [h, and_assoc]
  · rw [if_neg (fun hs => h (state.mp hs))]
    simp [h]

theorem escrowGood_iff (bs : List Byte) : escrowGood bs = true ↔ escrowCount bs ≤ 10
    ∧ (escrowCount bs ≠ 0 → u8 bs 4 ≠ 0)
    ∧ ∀ i < escrowCount bs, (escrowAt bs i).2 ≤ 6 ∧ ((escrowAt bs i).2 = 0 → (escrowAt bs i).1 = 0) := by
  have class_ : ∀ i, (escrowAt bs i).2 < 8 := fun i => by
    have := u16_lt bs (28 + 2 * i)
    show u16 bs (28 + 2 * i) / 8192 < 8
    omega
  unfold escrowGood
  rw [liveCount_eq, Bool.and_eq_true, Bool.and_eq_true, decide_eq_true_iff, and_assoc, natAt_eq,
    List.all_eq_true]
  refine and_congr Iff.rfl (and_congr ?_ ?_)
  · by_cases h : escrowCount bs = 0 <;> simp [h]
  · refine forall_congr' fun i => ?_
    rw [List.mem_range, liveEntry_eq, Bool.and_eq_true, bne_iff_ne]
    refine imp_congr Iff.rfl (and_congr ?_ ?_)
    · have := class_ i
      omega
    · by_cases h : (escrowAt bs i).2 = 0 <;> simp [h]

theorem livePend_eq (bs : List Byte) : livePend bs = decide (128 ≤ u8 bs 75) := topBit _ (u8_lt bs 75)

theorem pendGood_iff (bs : List Byte) : pendGood bs = true ↔ (128 ≤ u8 bs 75 → 1 ≤ u8 bs 75 % 8
    ∧ u8 bs 75 % 8 ≤ 5 ∧ 1 ≤ u8 bs 75 / 8 % 16 ∧ u8 bs 75 / 8 % 16 ≤ 14) := by
  unfold pendGood
  rw [livePend_eq, Bool.or_eq_true, Bool.not_eq_true', decide_eq_false_iff_not, Bool.and_eq_true,
    decide_eq_true_iff, decide_eq_true_iff, and_assoc, ← Decidable.imp_iff_not_or]
  exact Iff.rfl

theorem liveGood_iff (bs : List Byte) : liveGood bs = true ↔ imageUsable bs := by
  have same : bs.getD 0 0 = bs.getD 95 0 ↔ u8 bs 0 = u8 bs 95 :=
    ⟨fun h => congrArg BitVec.toNat h, fun h => BitVec.eq_of_toNat_eq h⟩
  have bank : bitsOf (fieldAt bs 5 2) 14 2 = u16 bs 5 / 16384 := by
    have := u16_lt bs 5
    rw [fieldAt_two]
    exact Nat.mod_eq_of_lt (by show u16 bs 5 / 16384 < 4; omega)
  unfold liveGood
  rw [Bool.and_eq_true, Bool.and_eq_true, Bool.and_eq_true, Bool.and_eq_true, Bool.and_eq_true,
    Bool.and_eq_true, Bool.and_eq_true, Bool.and_eq_true, countsAgree_iff, same, escrowGood_iff,
    purseGood_iff, pendGood_iff, decide_eq_true_iff, decide_eq_true_iff, decide_eq_true_iff,
    decide_eq_true_iff, decide_eq_true_iff, bank]
  simp only [imageUsable, purseFits, and_assoc]
  exact Iff.rfl

/-! ### The escrow list (R86, R188) -/

theorem seqLater_eq {seq : Nat} (h1 : 1 ≤ seq) (h2 : seq ≤ 255) (i : Nat) (hi : i < 10) :
    seqLater seq i = (if seq + i ≤ 255 then seq + i else seq + i - 255) := by
  induction i with
  | zero => exact (if_pos h2).symm
  | succ i ih =>
    rw [seqLater, ih (by omega), nextSeq]
    split
    · split <;> split <;> omega
    · split <;> split <;> omega

theorem liveEscrow_length (now : FullTime) (bs : List Byte) : (liveEscrow now bs).length = escrowCount bs := by
  rw [liveEscrow, List.length_map, List.length_range, liveCount_eq]

theorem liveEscrow_entry {now : FullTime} {e : EscrowEntry} (h : (liveEscrow now bs)[i]? = some e) (hi : i < 10)
    (hseq : 1 ≤ u8 bs 4) : e.value = (escrowAt bs i).1 ∧ e.cls = (escrowAt bs i).2
      ∧ e.seq = (if u8 bs 4 + i ≤ 255 then u8 bs 4 + i else u8 bs 4 + i - 255)
      ∧ (i = 0 → e.time.short = packedAt bs 24) := by
  obtain ⟨-, rfl⟩ := range_map_get h
  rw [liveEntry_eq]
  refine ⟨rfl, rfl, seqLater_eq hseq (Nat.le_of_lt_succ (u8_lt bs 4)) i hi, ?_⟩
  rintro rfl
  exact timeAt_eq bs 24

/-! ### The records (R168, R185, R188) -/

theorem callKindOf_code (h1 : 1 ≤ n) (h2 : n ≤ 5) : callKindCode (callKindOf n) = n := by
  have all : ∀ k < 6, 1 ≤ k → callKindCode (callKindOf k) = k := by decide
  exact all n (Nat.lt_succ_of_le h2) h1

theorem recordedKind_code (h1 : 1 ≤ n) (h2 : n ≤ 5) :
    callKindOf n ≠ .undecided ∧ callKindCode (recordedKind (callKindOf n)) = n := by
  have all : ∀ k < 6, 1 ≤ k → callKindOf k ≠ .undecided ∧ callKindCode (recordedKind (callKindOf k)) = k := by decide
  exact all n (Nat.lt_succ_of_le h2) h1

theorem outcomeOf_code (h1 : 1 ≤ n) (h2 : n ≤ 14) : outcomeCode (outcomeOf n) = n := by
  have all : ∀ k < 15, 1 ≤ k → outcomeCode (outcomeOf k) = k := by decide
  exact all n (Nat.lt_succ_of_le h2) h1

theorem u32_lt (bs : List Byte) (i : Nat) : u32 bs i < 4294967296 := by
  have := u16_lt bs i
  have := u16_lt bs (i + 2)
  unfold u32
  omega

theorem bit31_eq (bs : List Byte) (i : Nat) : bitSet (u32 bs i) 31 = decide (2147483648 ≤ u32 bs i) := by
  have := u32_lt bs i
  rw [bitSet, Bool.eq_iff_iff, beq_iff_eq, decide_eq_true_iff]
  omega

theorem liveZone_eq (n : Nat) : liveZone n = (if n / 16 % 2 = 1 then none else some (n % 16)) := by
  unfold liveZone bitSet
  simp only [beq_iff_eq, Nat.reducePow]

theorem ite_bool_flag {α : Type} (b : Bool) (q : Prop) [Decidable q] (h : b = true ↔ q) (x y : α) :
    (if b then x else y) = if q then x else y := by
  by_cases hq : q
  · rw [if_pos hq, if_pos (h.mpr hq)]
  · rw [if_neg hq, if_neg fun hb => hq (h.mp hb)]

theorem flag_iff (n k : Nat) : bitSet n k = true ↔ n / 2 ^ k % 2 = 1 := beq_iff_eq

/-- The pending record of a usable image. -/
theorem livePendRecord_fields (now : FullTime) (hgood : liveGood bs = true) (hp : 128 ≤ u8 bs 75) :
    (livePendRecord now bs).seq = u16 bs 73
    ∧ callKindCode (livePendRecord now bs).kind = u8 bs 75 % 8
    ∧ outcomeCode (livePendRecord now bs).outcome = u8 bs 75 / 8 % 16
    ∧ (livePendRecord now bs).zone = (if u8 bs 76 / 16 % 2 = 1 then none else some (u8 bs 76 % 16))
    ∧ (livePendRecord now bs).gatePassed = (u8 bs 76 / 64 % 2 == 1)
    ∧ (livePendRecord now bs).start.short = packedAt bs 77
    ∧ (livePendRecord now bs).digitCount = u32 bs 77 / 67108864 % 32
    ∧ (livePendRecord now bs).clockInvalid = decide (2147483648 ≤ u32 bs 77)
    ∧ (livePendRecord now bs).wait = u16 bs 81 ∧ (livePendRecord now bs).talk = u24 bs 83
    ∧ (livePendRecord now bs).units = u16 bs 86 ∧ (livePendRecord now bs).charge = u24 bs 88
    ∧ (livePendRecord now bs).credit = u24 bs 91
    ∧ (livePendRecord now bs).edition = (if 128 ≤ u8 bs 76 then 0 else u16 bs 7) := by
  obtain ⟨-, -, -, -, -, -, -, -, -, -, pend, -⟩ := (liveGood_iff bs).mp hgood
  obtain ⟨k1, k5, o1, o14⟩ := pend hp
  have count : bitsOf (fieldAt bs 77 4) 26 5 = u32 bs 77 / 67108864 % 32 := by rw [fieldAt_four]; rfl
  have start : unpackTime (fieldAt bs 77 4) = packedAt bs 77 := timeAt_eq bs 77
  refine ⟨fieldAt_two bs 73, callKindOf_code k1 k5, outcomeOf_code o1 o14, liveZone_eq _, rfl, start, count,
    ?_, fieldAt_two bs 81, fieldAt_three bs 83, fieldAt_two bs 86, fieldAt_three bs 88, fieldAt_three bs 91, ?_⟩
  · show bitSet (fieldAt bs 77 4) 31 = _
    rw [fieldAt_four, bit31_eq]
  · show liveEdition bs (bitSet (u8 bs 76) 7) = _
    rw [liveEdition, topBit _ (u8_lt bs 76), fieldAt_two]
    exact ite_bool_flag _ _ decide_eq_true_iff _ _

/-- The POWER LOST record of a seized call. -/
theorem lostRecord_fields (now : FullTime) (bs : List Byte) (c : CallRecord) (hc : c = lostRecord now bs) :
    c.outcome = .powerLost ∧ c.credit = u24 bs 9 - u24 bs 12 ∧ c.units = u16 bs 68
    ∧ c.charge = u24 bs 70 ∧ c.band.toNat = u8 bs 57 / 32
    ∧ c.edition = (if u8 bs 58 / 32 % 2 = 1 then 0 else u16 bs 7)
    ∧ c.clockInvalid = decide (2147483648 ≤ u32 bs 59)
    ∧ c.digits = List.replicate (min 20 c.digitCount) 15
    ∧ (u8 bs 1 % 16 = 8 → c.kind = .report ∧ c.digitCount = 0 ∧ c.zone = none
        ∧ c.wait = 0 ∧ c.talk = 0 ∧ c.gatePassed = false)
    ∧ (u8 bs 1 % 16 ≠ 8 → c.digitCount = u32 bs 59 / 67108864 % 32
        ∧ c.start.short = packedAt bs 59 ∧ c.wait = u16 bs 63 ∧ c.talk = u24 bs 65
        ∧ c.gatePassed = (u8 bs 57 / 16 % 2 == 1)
        ∧ (u8 bs 57 % 8 = 0 → c.kind = .paid ∧ c.zone = none)
        ∧ (1 ≤ u8 bs 57 % 8 → u8 bs 57 % 8 ≤ 5 → callKindCode c.kind = u8 bs 57 % 8
            ∧ c.zone = (if u8 bs 58 / 16 % 2 = 1 then none else some (u8 bs 58 % 16)))) := by
  subst hc
  have band : (BitVec.ofNat 3 (u8 bs 57 / 32)).toNat = u8 bs 57 / 32 := by
    have := u8_lt bs 57
    rw [BitVec.toNat_ofNat]
    omega
  have edition : liveEdition bs (bitSet (u8 bs 58) 5) = if u8 bs 58 / 32 % 2 = 1 then 0 else u16 bs 7 := by
    rw [liveEdition, fieldAt_two]
    exact ite_bool_flag _ _ (flag_iff _ 5) _ _
  have count : bitsOf (fieldAt bs 59 4) 26 5 = u32 bs 59 / 67108864 % 32 := by rw [fieldAt_four]; rfl
  have start : unpackTime (fieldAt bs 59 4) = packedAt bs 59 := timeAt_eq bs 59
  refine ⟨rfl, ?_, fieldAt_two bs 68, fieldAt_three bs 70, band, edition, ?_, rfl, fun h => ?_, fun h => ?_⟩
  · show (livePurse bs).d - (livePurse bs).c = _
    rw [livePurse_eq]
  · show bitSet (fieldAt bs 59 4) 31 = _
    rw [fieldAt_four, bit31_eq]
  · have report : (natAt bs 1 % 16 == stationCode .reporting) = true := by rw [natAt_eq, h]; rfl
    simp [lostRecord, report, recordedKind]
  · have other : (natAt bs 1 % 16 == stationCode .reporting) = false := by
      rw [beq_eq_false_iff_ne]
      exact h
    simp only [lostRecord, other, Bool.false_eq_true, if_false, count, start, false_or, Bool.not_false,
      Bool.true_and, true_and]
    refine ⟨rfl, fieldAt_two bs 63, fieldAt_three bs 65, rfl, fun h0 => ?_, fun h1 h5 => ?_⟩
    · rw [natAt_eq, h0]
      exact ⟨rfl, rfl⟩
    · rw [natAt_eq, ← liveZone_eq]
      generalize u8 bs 57 % 8 = n at h1 h5
      obtain ⟨known, code⟩ := recordedKind_code h1 h5
      exact ⟨code, if_neg known⟩

end

end Sys2Proof.Proofs

/-! The Live Image field by field (R186, section 13.5). -/
namespace Sys2Proof.Proofs
open Sys2Proof.Machine Sys2Proof.Safety Sys2Proof.Laws

section
variable {s : State} {f : List Byte} {o i : Nat}

/-! ### The arrival delays (R188) -/

theorem arrivalDelays_get (l : List EscrowEntry) (i : Nat) :
    (l[i + 1]? = none → u8 (arrivalDelays l) i = 0)
    ∧ (∀ x, l[i]? = some x → ∀ y, l[i + 1]? = some y → u8 (arrivalDelays l) i
      = (arrivalDelay x.time y.time).toNat) := by
  have single : ∀ e : EscrowEntry, arrivalDelays [e] = [] := fun _ => rfl
  induction l generalizing i with
  | nil => exact ⟨fun _ => rfl, fun x hx => absurd hx nofun⟩
  | cons e l ih =>
    cases l with
    | nil => exact ⟨fun _ => by rw [single]; rfl, fun x _ y hy => absurd hy (by simp)⟩
    | cons g l =>
      have front : arrivalDelays (e :: g :: l) = arrivalDelay e.time g.time :: arrivalDelays (g :: l) := rfl
      rw [front]
      cases i with
      | zero =>
        refine ⟨fun h => absurd h (by simp), fun x hx y hy => ?_⟩
        obtain rfl := Option.some.inj hx
        obtain rfl := Option.some.inj hy
        rfl
      | succ i =>
        obtain ⟨h1, h2⟩ := ih i
        exact ⟨fun h => h1 (by simpa using h), fun x hx y hy => h2 x (by simpa using hx) y (by simpa using hy)⟩

theorem arrivalDelay_forward {a c : FullTime} (h : secondsOf a ≤ secondsOf c) :
    (arrivalDelay a c).toNat = min 255 (secondsOf c - secondsOf a) := by
  rw [arrivalDelay, if_pos h]
  exact b8_small (by omega)

/-! ### The call in progress and the pending record -/

theorem zoneNibble_bits (z : Option Nat) : z.getD 0 % 16 + 16 * nBool z.isNone = zoneNibble z := by
  cases z with
  | none => rfl
  | some z => exact Nat.add_zero _

theorem zoneNibble_lt (z : Option Nat) : zoneNibble z < 17 := by
  cases z with
  | none => decide
  | some z => exact Nat.lt_trans (Nat.mod_lt z (by decide)) (by decide)

theorem packStart_stands {t : FullTime} {n : Nat} {b : Bool} (h : stands (packStart t n b) f o) :
    u32 f o = packedWord t.short (n % 32 + if b then 32 else 0) := by
  rw [← nBool_ite b 32]
  exact stands_time h

theorem packStart_length (t : FullTime) (n : Nat) (b : Bool) : (packStart t n b).length = 4 :=
  packTime_length ..

theorem stands_min3 {n : Nat} (h : stands (leBytes 3 (min n 16777215)) f o) : u24 f o = min 16777215 n :=
  stands_money h

theorem callKindCode_lt (k : CallKind) : callKindCode k < 6 := by cases k <;> decide

theorem outcomeCode_lt (k : CallOutcome) : outcomeCode k < 15 := by cases k <;> decide

theorem ite_beq {a c : Nat} (k : Nat) : (if (a == c) = true then k else 0) = if a = c then k else 0 :=
  ite_bool_flag _ _ beq_iff_eq _ _

theorem liveCall_laid (h : stands (liveCall s.meter s.call.cur) f 57) : liveCallLaid s f := by
  refine ⟨fun hc k hk => ?_, fun c hc => ?_⟩
  · rw [hc] at h
    exact stands_zeros h hk
  · have pieces : liveCall s.meter s.call.cur = List.flatten [
        [b8 (callKindCode c.kind + 8 * nBool c.seized + 16 * nBool c.gatePassed + 32 * c.band.toNat)],
        [b8 (c.zone.getD 0 % 16 + 16 * nBool c.zone.isNone + 32 * nBool (c.edition == 0))],
        packStart c.start c.number.length c.clockInvalid, count2 (if c.answered then c.wait else 0),
        leBytes 3 (min c.talk 16777215), count2 s.meter.units, money3 s.meter.charge] := by
      rw [hc]
      simp only [liveCall, List.flatten_cons, List.flatten_nil, List.append_assoc, List.append_nil,
        List.cons_append, List.nil_append]
    have line := standsInLine_flatten _ (pieces ▸ h)
    simp only [standsInLine, List.length_singleton, packStart_length, count2_length, leBytes_length,
      Nat.reduceAdd] at line
    obtain ⟨h57, h58, h59, h63, h65, h68, h70, -⟩ := line
    have band := c.band.isLt
    have kind := callKindCode_lt c.kind
    have nibble := zoneNibble_lt c.zone
    rw [zoneNibble_bits] at h58
    simp only [nBool_ite] at h57 h58
    refine ⟨stands_b8 h57 ?_, (stands_b8 h58 ?_).trans (by rw [ite_beq]), packStart_stands h59, ?_,
      stands_min3 h65, stands_count h68, stands_money h70⟩
    · split <;> split <;> omega
    · split <;> omega
    · rw [stands_count h63]
      split
      · rfl
      · exact Nat.min_zero _

theorem livePending_laid (h : stands (livePending s.ring.slot) f 73) : livePendingLaid s f := by
  refine ⟨fun hc k hk => ?_, fun c hc => ?_⟩
  · rw [hc] at h
    exact stands_zeros h hk
  · have pieces : livePending s.ring.slot = List.flatten [leBytes 2 c.seq,
        [b8 (callKindCode c.kind + 8 * outcomeCode c.outcome + 128)],
        [b8 (c.zone.getD 0 % 16 + 16 * nBool c.zone.isNone + 32 * nBool (decide (20 < c.digitCount))
          + 64 * nBool c.gatePassed + 128 * nBool (c.edition == 0))],
        packStart c.start c.digitCount c.clockInvalid, count2 c.wait, leBytes 3 (min c.talk 16777215),
        count2 c.units, money3 c.charge, money3 c.credit, [b8 c.band.toNat]] := by
      rw [hc]
      simp only [livePending, List.flatten_cons, List.flatten_nil, List.append_assoc, List.append_nil,
        List.cons_append, List.nil_append]
    have line := standsInLine_flatten _ (pieces ▸ h)
    simp only [standsInLine, List.length_singleton, packStart_length, count2_length, leBytes_length,
      money3_length, Nat.reduceAdd] at line
    obtain ⟨h73, h75, h76, h77, h81, h83, h86, h88, h91, h94, -⟩ := line
    have band := c.band.isLt
    have kind := callKindCode_lt c.kind
    have outcome := outcomeCode_lt c.outcome
    have nibble := zoneNibble_lt c.zone
    rw [zoneNibble_bits] at h76
    simp only [nBool_ite, decide_eq_true_eq] at h76
    refine ⟨stands_two h73, stands_b8 h75 (by omega), (stands_b8 h76 ?_).trans (by rw [ite_beq]),
      packStart_stands h77, stands_count h81, stands_min3 h83, stands_count h86, stands_money h88,
      stands_money h91, stands_b8 h94 (by omega)⟩
    split <;> split <;> split <;> omega

/-! ### The whole image -/

/-- The arrival time of the head, zeros where the list is empty. -/
def headTime : List EscrowEntry → List Byte
  | [] => [0, 0, 0, 0]
  | e :: _ => packTime e.time.short 0

theorem headTime_length (l : List EscrowEntry) : (headTime l).length = 4 := by
  cases l with
  | nil => rfl
  | cons e l => exact packTime_length _ _

/-- The two bytes of an escrow entry. -/
def entryBytes (e : EscrowEntry) : List Byte := leBytes 2 (e.value % 8192 + 8192 * (e.cls % 8))

/-- The Live Image's bytes hold its fields. -/
theorem liveFields_laid (s : State) (x : Byte) : liveLaid s (x :: liveFields s) := by
  have pieces : liveFields s = List.flatten [
      [b8 (stationCode s.call.station + 16 * modeCode s.call.mode + 64 * nBool s.call.ordered
        + 128 * nBool s.img.final)],
      [b8 (purseCode s.meter.purse.state + 4 * holdCode s.meter.purse.hold + 16 * laneCode s.coin.lane
        + 128 * nBool s.coin.uncertain)],
      [b8 s.coin.arrival], [b8 ((s.coin.escrow.head?.map (·.seq)).getD 0)],
      leBytes 2 (s.coin.reasons.toNat + 1024 * (s.coin.escrow.length % 16) + 16384 * bankCode s.tally.bank),
      leBytes 2 s.tally.edition, money3 s.meter.purse.d, money3 s.meter.purse.c, money3 s.meter.purse.k,
      money3 s.meter.purse.r, money3 s.meter.purse.x, headTime s.coin.escrow,
      padTo 20 0 (s.coin.escrow.flatMap entryBytes), padTo 9 0 (arrivalDelays s.coin.escrow),
      liveCall s.meter s.call.cur, livePending s.ring.slot] := by
    unfold liveFields
    dsimp only
    simp only [List.flatten_cons, List.flatten_nil, List.append_assoc, List.append_nil, List.cons_append,
      List.nil_append]
    rfl
  have length : (x :: liveFields s).length = 95 := by rw [List.length_cons, liveFields_length]
  have stood := stands_behind x (liveFields s)
  generalize x :: liveFields s = f at length stood ⊢
  have line := standsInLine_flatten _ (pieces ▸ stood)
  simp only [standsInLine, List.length_singleton, leBytes_length, money3_length, headTime_length, padTo_length,
    liveCall_length, Nat.reduceAdd] at line
  obtain ⟨h1, h2, h3, h4, h5, h7, h9, h12, h15, h18, h21, h24, h28, h48, h57, h73, -⟩ := line
  simp only [nBool_ite] at h1 h2
  have station : stationCode s.call.station ≤ 8 := by cases s.call.station <;> decide
  have mode : modeCode s.call.mode ≤ 2 := by cases s.call.mode <;> decide
  have purse : purseCode s.meter.purse.state ≤ 3 := by cases s.meter.purse.state <;> decide
  have hold : holdCode s.meter.purse.hold ≤ 3 := by cases s.meter.purse.hold <;> decide
  have lane : laneCode s.coin.lane ≤ 4 := by cases s.coin.lane <;> decide
  have bank : bankCode s.tally.bank ≤ 2 := by
    cases s.tally.bank with
    | none => decide
    | some y => cases y <;> decide
  have reasons := s.coin.reasons.isLt
  refine ⟨length, stands_b8 h1 ?_, stands_b8 h2 ?_, (stands_byte h3).trans (b8_toNat _), ?_, stands_two h7,
    stands_money h9, stands_money h12, stands_money h15, stands_money h18, stands_money h21, fun he => ?_,
    fun e he => ?_, fun i hi => ?_, fun i hi => ?_, liveCall_laid h57, livePending_laid h73⟩
  · split <;> split <;> omega
  · split <;> omega
  · rw [stands_two h5]
    omega
  · rw [he] at h4 h24
    have zero := fun k hk => stands_zeros (n := 4) h24 (k := k) hk
    refine ⟨stands_byte h4, ?_⟩
    rw [u32, u16, u16, zero 1 (by decide), zero 2 (by decide), zero 3 (by decide),
      show u8 f 24 = 0 from zero 0 (by decide)]
  · cases hl : s.coin.escrow with
    | nil =>
      rw [hl] at he
      exact absurd he nofun
    | cons y l =>
      rw [hl] at he h4 h24
      obtain rfl := Option.some.inj he
      exact ⟨(stands_byte h4).trans (b8_toNat _), stands_time h24⟩
  · obtain ⟨there, empty⟩ := stands_padded (i := i) (n := 2) h28 (fun _ => leBytes_length _ _) (by omega)
    refine ⟨fun hn => ?_, fun e he => ?_⟩
    · rw [u16, empty hn 1 (by decide), show u8 f (28 + 2 * i) = 0 from empty hn 0 (by decide)]
    · rw [stands_two (there e he)]
      omega
  · have read : u8 f (48 + i) = u8 (arrivalDelays s.coin.escrow) i := by
      rw [h48 i (by rwa [padTo_length]), u8_padTo hi]
    obtain ⟨none_, some_⟩ := arrivalDelays_get s.coin.escrow i
    refine ⟨fun hn => read.trans (none_ hn), fun a ha c hc hle => ?_⟩
    rw [read, some_ a ha c hc, arrivalDelay_forward hle]

end

end Sys2Proof.Proofs

/-! The blocks restored from a usable Live Image: the records and the counts (R86, R165, R166, R168, R170, R184,
R185). -/
namespace Sys2Proof.Proofs
open Sys2Proof.Machine Sys2Proof.Safety Sys2Proof.Laws

section
variable {s t u v r : State} {p : Profile} {bs : List Byte} {c old : CallRecord}

/-! ### The places of records (R165, R166) -/

theorem placeRecord_ring (hp : s.gate.profile = some p) :
    (placeRecord c s).ring = { s.ring with w := s.ring.w + 1 } := by
  unfold placeRecord
  rw [hp]
  exact offer_ring _ _ _

theorem dropRecord_ring (s : State) : (dropRecord s).ring.w = s.ring.w ∧ (dropRecord s).ring.seq = s.ring.seq
    ∧ (dropRecord s).ring.slot = s.ring.slot := by
  unfold dropRecord
  dsimp only
  split
  · exact ⟨rfl, rfl, rfl⟩
  · split
    · rw [offer_ring]
      exact ⟨rfl, rfl, rfl⟩
    · exact ⟨rfl, rfl, rfl⟩

theorem placePending_ring (hp : s.gate.profile = some p) (h : s.ring.slot = some c)
    (hr : (s.ring.w - s.ring.r).toNat < 64) :
    (placePending s).ring = { s.ring with w := s.ring.w + 1, slot := none } := by
  have is : placePending s = touchLive (placeRecord c { s with ring := { s.ring with slot := none } }) := by
    simp only [placePending, h]
    exact if_pos hr
  rw [is]
  exact placeRecord_ring (s := { s with ring := { s.ring with slot := none } }) hp

theorem handRecord_placed (h : s.ring.slot = none) (hr : (s.ring.w - s.ring.r).toNat < 64) :
    (handRecord c s).2 = .placed s.ring.w := by
  have room : unread s.ring.w s.ring.r < 64 := hr
  unfold handRecord
  rw [placePending_none h]
  dsimp only
  split
  · rw [if_pos room]
  · next old h' => cases h.symm.trans h'

theorem handRecord_pending (h : s.ring.slot = none) (hr : 64 ≤ (s.ring.w - s.ring.r).toNat) :
    (handRecord c s).2 = .pending := by
  have full : ¬ unread s.ring.w s.ring.r < 64 := Nat.not_lt.mpr hr
  unfold handRecord
  rw [placePending_none h]
  dsimp only
  split
  · rw [if_neg full]
  · next old h' => cases h.symm.trans h'

theorem handRecord_yields (h : s.ring.slot = some old) (hr : 64 ≤ (s.ring.w - s.ring.r).toNat) :
    (handRecord c s).2 = if !gated old && gated c then .pending else .notKept := by
  unfold handRecord
  rw [placePending_full h hr]
  dsimp only
  split
  · next h' => cases h.symm.trans h'
  · next old' h' =>
    cases h.symm.trans h'
    have same : gated { c with seq := s.ring.seq } = gated c := rfl
    rw [same]
    cases (!gated old && gated c) <;> rfl

theorem seqTaken_posts (k : CallKind) (s : State) : postsUpTo 0 s (seqTaken k s) := postsUpTo_same rfl

/-- A record handed over into an empty slot, where the ring has room. -/
theorem handed_placed (hp : s.gate.profile = some p) (h : s.ring.slot = none)
    (hr : (s.ring.w - s.ring.r).toNat < 64) : (handRecord c s).1.ring
      = { s.ring with w := s.ring.w + 1, seq := (s.ring.seq + 1) % 65536 }
    ∧ (handRecord c s).2 = .placed s.ring.w ∧ postsUpTo 2 s (handRecord c s).1 := by
  rw [handRecord_empty h hr]
  exact ⟨placeRecord_ring (s := seqTaken c.kind s) hp, handRecord_placed h hr,
    postsUpTo_trans (seqTaken_posts c.kind s) (placeRecord_postsUpTo _ _)⟩

/-- A record handed over into an empty slot, where the ring has no room. -/
theorem handed_pending (h : s.ring.slot = none) (hr : 64 ≤ (s.ring.w - s.ring.r).toNat) :
    (handRecord c s).1.ring
      = { s.ring with slot := some { c with seq := s.ring.seq }, seq := (s.ring.seq + 1) % 65536 }
    ∧ (handRecord c s).2 = .pending ∧ postsUpTo 2 s (handRecord c s).1 := by
  rw [handRecord_kept h hr]
  exact ⟨rfl, handRecord_pending h hr, postsUpTo_still rfl⟩

/-- A record handed over while another is pending and the ring has no room. -/
theorem handed_full (h : s.ring.slot = some old) (hr : 64 ≤ (s.ring.w - s.ring.r).toNat) :
    (handRecord c s).1.ring.w = s.ring.w ∧ (handRecord c s).1.ring.seq = (s.ring.seq + 1) % 65536
    ∧ (if ¬ (old.kind = .paid ∧ old.gatePassed = true) ∧ c.kind = .paid ∧ c.gatePassed = true
      then (handRecord c s).1.ring.slot = some { c with seq := s.ring.seq } ∧ (handRecord c s).2 = .pending
      else (handRecord c s).1.ring.slot = some old ∧ (handRecord c s).2 = .notKept)
    ∧ postsUpTo 2 s (handRecord c s).1 := by
  obtain ⟨dw, dseq, dslot⟩ := dropRecord_ring (seqTaken c.kind s)
  have posts : postsUpTo 2 s (dropRecord (seqTaken c.kind s)) :=
    postsUpTo_trans (seqTaken_posts c.kind s) (dropRecord_postsUpTo _)
  rw [handRecord_full h hr, handRecord_yields h hr]
  by_cases hd : (!gated old && gated c) = true
  · rw [if_pos hd, if_pos hd, if_pos ((displaces_iff old c).mp hd)]
    exact ⟨dw, dseq, ⟨rfl, rfl⟩, posts⟩
  · rw [if_neg hd, if_neg hd, if_neg fun h' => hd ((displaces_iff old c).mpr h')]
    exact ⟨dw, dseq, ⟨dslot.trans h, rfl⟩, posts⟩

theorem handRecord_classes (c : CallRecord) (s : State) :
    (handRecord c s).1.tally.classes = s.tally.classes := by
  have drops : ∀ v : State, (dropRecord v).tally.classes = v.tally.classes := by
    intro v
    unfold dropRecord
    dsimp only
    split
    · rfl
    · split
      · rw [offer_tally]
        rfl
      · rfl
  have counts : ∀ (k : CallKind) (x : Tally), (countKind k x).classes = x.classes := by
    intro k x
    unfold countKind
    split <;> rfl
  have pending := (placePending_only s).2.2
  unfold handRecord
  dsimp only
  generalize placePending s = v at pending
  generalize hw : updTally (countKind c.kind)
      { v with ring := { v.ring with seq := (v.ring.seq + 1) % 65536 } } = w
  have counted : w.tally.classes = s.tally.classes := by
    rw [← pending, ← hw]
    exact counts _ _
  split
  · split
    · rw [(placeRecord_only _ w).2.2, counted]
    · exact counted
  · split
    · exact (drops w).trans counted
    · exact (drops w).trans counted

/-! ### What the image restores (R86, R134, R168, R184, R185) -/

/-- The state as a usable image restores it, before the records are placed. -/
def restored (bs : List Byte) (s : State) : State :=
  { restoreLane bs s with
    call := { s.call with ordered := bitSet (natAt bs 1) 6 },
    ring := { s.ring with slot := if livePend bs then some (livePendRecord s.cal.time bs) else none },
    sys := { s.sys with imageBank := bankOf (bitsOf (fieldAt bs 5 2) 14 2) } }

theorem restoreLive_good (h : liveGood bs = true) :
    restoreLive bs s = restoreLost bs (placePending (restored bs s)) := if_pos h

theorem restoreLost_unseized (h : liveSeized bs = false) : restoreLost bs v = v := by
  rw [restoreLost, h]
  rfl

theorem restoreLost_seized (h : liveSeized bs = true) (hc : c = lostRecord v.cal.time bs) :
    restoreLost bs v = { (handRecord c v).1 with sys := { (handRecord c v).1.sys with
      powerLost := some ⟨(handRecord c v).2, c.kind, c.charge⟩ } } := by
  subst hc
  rw [restoreLost, h]
  rfl

theorem liveSeized_iff (bs : List Byte) : liveSeized bs = true ↔ u8 bs 57 / 8 % 2 = 1 := flag_iff _ 3

/-- Between `s` and `r` the records have been placed: the Record Unit, the counts but for the classes', the
POWER LOST note and the posts apart, all stands. -/
structure Placed (k : Nat) (s r : State) : Prop where
  kept : unposted r = unposted { s with
    ring := r.ring, tally := r.tally, sys := { s.sys with powerLost := r.sys.powerLost } }
  classes : r.tally.classes = s.tally.classes
  posts : postsUpTo k s r

theorem Placed.trans {i j k : Nat} (h : Placed i s t) (h' : Placed j t u) (hk : i + j ≤ k := by decide) :
    Placed k s u := by
  refine ⟨?_, h'.classes.trans h.classes, postsUpTo_trans h.posts h'.posts hk⟩
  have := congrArg (fun x : State => unposted { x with
    ring := u.ring, tally := u.tally, sys := { x.sys with powerLost := u.sys.powerLost } }) h.kept
  exact h'.kept.trans this

theorem placed_of_records {k : Nat} (h : recordsOnly s t) (hc : t.tally.classes = s.tally.classes)
    (hp : postsUpTo k s t) : Placed k s t := by
  refine ⟨?_, hc, hp⟩
  have sys : t.sys = s.sys := (sys_of_unposted h).trans rfl
  rw [sys]
  exact h

theorem placePending_placed (s : State) : Placed 2 s (placePending s) := by
  obtain ⟨only, -, tally⟩ := placePending_only s
  exact placed_of_records only (by rw [tally]) (placePending_postsUpTo s)

/-- The POWER LOST record handed over. -/
theorem lost_placed (h : liveSeized bs = true) (hc : c = lostRecord v.cal.time bs)
    (hp : postsUpTo 2 v (handRecord c v).1) : Placed 2 v (restoreLost bs v) := by
  obtain ⟨only, -⟩ := handRecord_only c v
  rw [restoreLost_seized h hc]
  have sys : (handRecord c v).1.sys = v.sys := (sys_of_unposted only).trans rfl
  have noted := congrArg (fun x : State => unposted { x with
    sys := { x.sys with powerLost := some ⟨(handRecord c v).2, c.kind, c.charge⟩ } }) only
  exact ⟨noted, handRecord_classes c v, hp⟩

/-- Once the pending record has had its turn, none is pending or the ring has no room. -/
theorem placePending_settled (hp : s.gate.profile = some p) : (placePending s).ring.slot = none
    ∨ 64 ≤ ((placePending s).ring.w - (placePending s).ring.r).toNat := by
  cases h : s.ring.slot with
  | none =>
    rw [placePending_none h]
    exact Or.inl h
  | some c =>
    by_cases room : (s.ring.w - s.ring.r).toNat < 64
    · exact Or.inl (by rw [placePending_ring hp h room])
    · rw [placePending_full h (Nat.not_lt.mp room)]
      exact Or.inr (Nat.not_lt.mp room)

/-- The blocks restored, and what of the records was found. -/
theorem restoreLive_placed (hg : liveGood bs = true) (hp : s.gate.profile = some p) :
    Placed 4 (restored bs s) (restoreLive bs s) := by
  rw [restoreLive_good hg]
  have first := placePending_placed (restored bs s)
  have prof : (placePending (restored bs s)).gate.profile = some p :=
    (profile_of_unposted first.kept).trans hp
  have settled := placePending_settled (s := restored bs s) hp
  generalize placePending (restored bs s) = v at first prof settled
  cases hs : liveSeized bs with
  | false =>
    rw [restoreLost_unseized hs]
    exact first.trans ⟨rfl, rfl, postsUpTo_still (k := 2) rfl⟩
  | true =>
    refine first.trans (lost_placed hs rfl ?_)
    cases hslot : v.ring.slot with
    | none =>
      by_cases room : (v.ring.w - v.ring.r).toNat < 64
      · exact (handed_placed prof hslot room).2.2
      · exact (handed_pending hslot (Nat.not_lt.mp room)).2.2
    | some old =>
      have room := settled.resolve_left (hslot ▸ Option.some_ne_none old)
      exact (handed_full hslot room).2.2.2

end

end Sys2Proof.Proofs

/-! The Live Image taken at start-up: the counts rebuilt, the Tally Area begun and the stage ended (R170, R179,
R184). -/
namespace Sys2Proof.Proofs
open Sys2Proof.Machine Sys2Proof.Safety Sys2Proof.Laws

section
variable {s t u v r : State} {p : Profile} {d bs : List Byte} {c old : CallRecord}

/-! ### The count rebuild (R170) -/

/-- No class's count overflows at a rebuild, whatever classes the entries of the escrow list have. -/
def countsFit (s : State) : Prop := ∀ i : Fin 6, s.tally.classes[i].collected + s.tally.classes[i].returned
  + s.tally.classes[i].cleared + s.coin.escrow.length ≤ 65535

/-- Between `s` and `t` accepted counts have been rebuilt: the marker may be set, and is set only by an
overflow. -/
structure Recounted (s t : State) : Prop where
  kept : unposted t = unposted { s with
    tally := t.tally, coin := { s.coin with uncertain := t.coin.uncertain } }
  gate : t.gate = s.gate
  marks : s.coin.uncertain = true → t.coin.uncertain = true
  fits : countsFit s → countsFit t ∧ t.coin.uncertain = s.coin.uncertain

theorem Recounted.refl (s : State) : Recounted s s := ⟨rfl, rfl, id, fun h => ⟨h, rfl⟩⟩

theorem Recounted.trans (h : Recounted s t) (h' : Recounted t u) : Recounted s u := by
  refine ⟨?_, h'.gate.trans h.gate, fun hu => h'.marks (h.marks hu), fun hf => ?_⟩
  · have := congrArg (fun x : State => unposted { x with
      tally := u.tally, coin := { x.coin with uncertain := u.coin.uncertain } }) h.kept
    exact h'.kept.trans this
  · obtain ⟨tf, tu⟩ := h.fits hf
    obtain ⟨uf, uu⟩ := h'.fits tf
    exact ⟨uf, uu.trans tu⟩

/-- The accepted count of a class set. -/
def acceptedSet (i : Fin 6) (n : Nat) (s : State) : State :=
  updTally (updClass (i.val + 1) (fun c => { c with accepted := n })) s

theorem acceptedSet_fits {i : Fin 6} {n : Nat} (h : countsFit s) : countsFit (acceptedSet i n s) := by
  intro j
  have set : (acceptedSet i n s).tally.classes
      = s.tally.classes.set i { s.tally.classes[i] with accepted := n } := by
    rw [acceptedSet, updTally, updClass_fin]
  have fits := h j
  rw [set]
  by_cases hij : i = j
  · subst hij
    have escrow : (acceptedSet i n s).coin.escrow = s.coin.escrow := rfl
    rw [escrow]
    simpa using fits
  · have other : (s.tally.classes.set i { s.tally.classes[i] with accepted := n })[j] = s.tally.classes[j] :=
      Vector.getElem_set_ne _ _ fun h => hij (Fin.ext h)
    rw [other]
    exact fits

theorem rebuildClass_recounted (s : State) (i : Fin 6) : Recounted s (rebuildClass s (i.val + 1)) := by
  obtain ⟨n, hn⟩ : ∃ n, n = s.tally.classes[i].collected + s.tally.classes[i].returned
      + s.tally.classes[i].cleared + s.coin.escrow.countP (fun e => e.cls == i.val + 1) := ⟨_, rfl⟩
  have is : rebuildClass s (i.val + 1) = if 65535 < n then setUncertain (acceptedSet i (min n 65535) s)
      else acceptedSet i (min n 65535) s := by
    subst hn
    simp [rebuildClass, acceptedSet]
  rw [is]
  by_cases over_ : 65535 < n
  · rw [if_pos over_]
    refine ⟨rfl, rfl, fun _ => rfl, fun h => absurd over_ (Nat.not_lt.mpr ?_)⟩
    have few : s.coin.escrow.countP (fun e => e.cls == i.val + 1) ≤ s.coin.escrow.length := List.countP_le_length
    have := h i
    omega
  · rw [if_neg over_]
    exact ⟨rfl, rfl, id, fun h => ⟨acceptedSet_fits h, rfl⟩⟩

theorem rebuildCounts_recounted (s : State) : Recounted s (rebuildCounts s) := by
  have all : ∀ (l : List Nat), (∀ c ∈ l, ∃ i : Fin 6, c = i.val + 1) → ∀ v,
      Recounted v (l.foldl rebuildClass v) := by
    intro l
    induction l with
    | nil => exact fun _ v => .refl v
    | cons c l ih =>
      intro h v
      obtain ⟨i, rfl⟩ := h c List.mem_cons_self
      exact (rebuildClass_recounted v i).trans (ih (fun x hx => h x (List.mem_cons_of_mem _ hx)) _)
  exact all _ (by decide) s

/-! ### The end of the read (R179, R184) -/

/-- The Live Image is taken: the counts are rebuilt and the stage's read is done. -/
def imageTakenIn (r : State) : State :=
  { rebuildCounts r with
    sys := { (rebuildCounts r).sys with imageTaken := true, liveBuf := [] },
    img := { (rebuildCounts r).img with tallyDirty := false } }

theorem liveEffect_eq (d : List Byte) (s : State) : liveEffect d s
    = endLive (beginImage .tally (imageTakenIn (restoreLive (s.sys.liveBuf ++ d) s))) := rfl

theorem imageTakenIn_kept (r : State) : unposted (imageTakenIn r) = unposted { r with
    tally := (rebuildCounts r).tally, coin := { r.coin with uncertain := (rebuildCounts r).coin.uncertain },
    sys := { r.sys with imageTaken := true, liveBuf := [] } } := by
  have kept := (rebuildCounts_recounted r).kept
  unfold imageTakenIn
  generalize rebuildCounts r = x at *
  exact congrArg (fun x : State => unposted { x with sys := { x.sys with imageTaken := true, liveBuf := [] } }) kept

theorem imageTakenIn_gate (r : State) : (imageTakenIn r).gate = r.gate := by
  have gate := (rebuildCounts_recounted r).gate
  unfold imageTakenIn
  generalize rebuildCounts r = x at *
  exact gate

/-- What stands behind the read once the step has ended. -/
theorem liveTaken_finish (n : Nat) (hr : r.sys.part = .starting) (y : State)
    (hy : y = endLive (beginImage .tally (imageTakenIn r))) :
    y.gate.held = r.gate.held ∧ (finish n y).mem = r.mem
    ∧ (finish n y).sys = { r.sys with imageTaken := true, liveBuf := [], stage := y.sys.stage }
    ∧ (finish n y).ring = r.ring ∧ (finish n y).meter = r.meter ∧ (finish n y).call = r.call
    ∧ (finish n y).coin = { r.coin with
      reasons := (finish n y).coin.reasons, uncertain := (rebuildCounts r).coin.uncertain } := by
  have begun := (beginImage_unposted .tally (imageTakenIn r)).trans (imageTakenIn_kept r)
  have staged := endLive_staged (beginImage .tally (imageTakenIn r))
  rw [← hy] at staged
  generalize beginImage .tally (imageTakenIn r) = b at *
  obtain ⟨ymem, -, yring, -, -, ycoin, ymeter, ycall, -, -, yheld, -, ysys⟩ := staged.fields
  have bsys : b.sys = { r.sys with imageTaken := true, liveBuf := [] } := (sys_of_unposted begun).trans rfl
  have bheld : b.gate.held = r.gate.held := (held_of_steady (steady_of_unposted begun)).trans rfl
  rw [bsys] at ysys
  have rested := finish_rested n (s := y) (by rw [ysys]; simp [hr])
  obtain ⟨tmem, tsys, tring, -, -, -, -, tcall, tmeter, -, -, -, tcoin⟩ := rested.fields
  generalize finish n y = t at *
  refine ⟨yheld.trans bheld, (tmem.trans ymem).trans ((mem_of_unposted begun).trans rfl), tsys.trans ysys,
    (tring.trans yring).trans ((ring_of_unposted begun).trans rfl),
    (tmeter.trans ymeter).trans ((meter_of_unposted begun).trans rfl),
    (tcall.trans ycall).trans ((call_of_unposted begun).trans rfl), ?_⟩
  rw [tcoin, ycoin, coin_of_unposted begun]

/-- With room for its posts stage 4 ends and the load begins. -/
theorem liveTaken_stage (hr : r.sys.part = .starting) (hst : r.sys.stage = .live)
    (hp : r.gate.profile = some p) (hw : r.gate.waiters = []) (hq : r.gate.queue.length ≤ 8) :
    (endLive (beginImage .tally (imageTakenIn r))).sys.stage = .tariff := by
  have gate := imageTakenIn_gate r
  have begun := (beginImage_unposted .tally (imageTakenIn r)).trans (imageTakenIn_kept r)
  obtain ⟨bw, -⟩ := beginTally_room (s := imageTakenIn r) (by rw [gate, hp]) (by rw [gate, hw])
    (by rw [gate]; omega)
  generalize beginImage .tally (imageTakenIn r) = b at *
  have bsys : b.sys = { r.sys with imageTaken := true, liveBuf := [] } := (sys_of_unposted begun).trans rfl
  have bprof : b.gate.profile = some p := (profile_of_unposted begun).trans hp
  have given : (stageGiven .live b && b.sys.imageTaken) = true := by
    simp [stageGiven, stagePostsGiven, bw, bsys, hr, hst]
  have load : endLive b = startLoad b := by rw [endLive, if_pos given]
  have is : startLoad b = offer .tariffUnit (bankRuns p (startBank p b)) { setBankGuard (startBank p b) true b with
      sys := { (setBankGuard (startBank p b) true b).sys with stage := .tariff },
      tariff := { (setBankGuard (startBank p b) true b).tariff with
        startLoad := some (startBank p b), buf := [] } } := by
    simp only [startLoad, bprof]
  rw [load, is, sys_of_unposted (offer_unposted _ _ _)]

/-- The command of the Live Image's read. -/
theorem exec_liveImage (hr : s.sys.part = .starting) (h : handed (.live true) d s)
    (hheld : (liveEffect d (headGone s)).gate.held = []) :
    exec .liveImageRead s = .next (finish (waiting s) (liveEffect d (headGone s))) :=
  congrArg Host.Outcome.next (startRead_handed hr h hheld)

/-- The state behind the read, by what the blocks have restored. -/
theorem exec_liveImageRead (hr : s.sys.part = .starting) (h : handed (.live true) d s)
    (hb : bs = s.sys.liveBuf ++ d) (hrest : r = restoreLive bs (headGone s)) (hrs : r.sys.part = .starting)
    (hheld : r.gate.held = []) : ∃ t, exec .liveImageRead s = .next t ∧ t.sys.imageTaken = true
      ∧ t.sys.powerLost = r.sys.powerLost ∧ t.mem = r.mem ∧ t.ring = r.ring ∧ t.meter = r.meter
      ∧ t.call = r.call
      ∧ t.coin = { r.coin with reasons := t.coin.reasons, uncertain := (rebuildCounts r).coin.uncertain }
      ∧ ∀ p, r.sys.stage = .live → r.gate.profile = some p → r.gate.waiters = [] → r.gate.queue.length ≤ 8 →
        t.sys.stage = .tariff := by
  have buf : (headGone s).sys.liveBuf = s.sys.liveBuf := rfl
  have is : liveEffect d (headGone s) = endLive (beginImage .tally (imageTakenIn r)) := by
    rw [liveEffect_eq, buf, hrest, hb]
  obtain ⟨yheld, tmem, tsys, tring, tmeter, tcall, tcoin⟩ := liveTaken_finish (waiting s) hrs _ is
  have run := exec_liveImage hr h (yheld.trans hheld)
  have stage := fun p h1 h2 h3 h4 => is ▸ liveTaken_stage (p := p) hrs h1 h2 h3 h4
  generalize liveEffect d (headGone s) = y at *
  generalize finish (waiting s) y = t at *
  refine ⟨t, run, by rw [tsys], by rw [tsys], tmem, tring, tmeter, tcall, tcoin, fun p hst hp hw hq => ?_⟩
  rw [tsys]
  exact stage p hst hp hw hq

end

end Sys2Proof.Proofs

/-! The Live Image restored: the Record Ring, and O23 (R165, R166, R168, R184, R185). -/
namespace Sys2Proof.Proofs
open Sys2Proof.Machine Sys2Proof.Safety Sys2Proof.Laws

section
variable {s x : State} {p : Profile} {d bs : List Byte}

theorem unread_succ {w r : Byte} (h : (w - r).toNat < 64) : (w + 1 - r).toNat = (w - r).toNat + 1 := by
  bv_omega

/-! ### The Record Ring behind the restored image -/

theorem restored_ring (bs : List Byte) (x : State) : (restored bs x).ring = { x.ring with
    slot := if livePend bs then some (livePendRecord x.cal.time bs) else none } := rfl

theorem restored_pending (h : 128 ≤ u8 bs 75) : (restored bs x).ring
    = { x.ring with slot := some (livePendRecord x.cal.time bs) } := by
  rw [restored_ring, if_pos ((livePend_eq bs).trans (decide_eq_true h))]

theorem restored_empty (h : u8 bs 75 < 128) : (restored bs x).ring = { x.ring with slot := none } := by
  have no : livePend bs = false := (livePend_eq bs).trans (decide_eq_false (Nat.not_le.mpr h))
  rw [restored_ring, if_neg (by rw [no]; decide)]

theorem not_seized (h : u8 bs 57 / 8 % 2 = 0) : liveSeized bs = false := by
  rw [← Bool.not_eq_true, liveSeized_iff, h]
  decide

/-- Without a seized call only the pending record is placed. -/
theorem restoreLive_unseized (hg : liveGood bs = true) (hs : u8 bs 57 / 8 % 2 = 0) :
    restoreLive bs x = placePending (restored bs x) :=
  (restoreLive_good hg).trans (restoreLost_unseized (not_seized hs))

/-- No record to place: the ring stands. -/
theorem restoreLive_none (hg : liveGood bs = true) (hs : u8 bs 57 / 8 % 2 = 0) (hn : u8 bs 75 < 128) :
    (restoreLive bs x).ring = { x.ring with slot := none }
      ∧ (restoreLive bs x).sys.powerLost = x.sys.powerLost := by
  rw [restoreLive_unseized hg hs, placePending_none (by rw [restored_empty hn]), restored_empty hn]
  exact ⟨rfl, rfl⟩

/-- A pending record alone: it keeps its slot in a full ring, and is placed otherwise. -/
theorem restoreLive_pending (hg : liveGood bs = true) (hp : x.gate.profile = some p)
    (hs : u8 bs 57 / 8 % 2 = 0) (hn : 128 ≤ u8 bs 75) :
    (64 ≤ (x.ring.w - x.ring.r).toNat → (restoreLive bs x).ring
      = { x.ring with slot := some (livePendRecord x.cal.time bs) })
    ∧ ((x.ring.w - x.ring.r).toNat < 64 → (restoreLive bs x).ring
      = { x.ring with w := x.ring.w + 1, slot := none }) := by
  have ring := restored_pending (x := x) hn
  rw [restoreLive_unseized hg hs]
  refine ⟨fun full => ?_, fun room => ?_⟩
  · rw [placePending_full (by rw [ring]) (by rw [ring]; exact full), ring]
  · rw [placePending_ring (s := restored bs x) hp (by rw [ring]) (by rw [ring]; exact room), ring]

/-- A seized call's record is handed over behind the pending one. -/
theorem restoreLive_seized (hg : liveGood bs = true) (hs : u8 bs 57 / 8 % 2 = 1) :
    ∃ c, c = lostRecord x.cal.time bs
      ∧ (restoreLive bs x).ring = (handRecord c (placePending (restored bs x))).1.ring
      ∧ (restoreLive bs x).sys.powerLost
        = some ⟨(handRecord c (placePending (restored bs x))).2, c.kind, c.charge⟩ := by
  have cal : (placePending (restored bs x)).cal = x.cal :=
    (cal_of_unposted (placePending_placed (restored bs x)).kept).trans rfl
  refine ⟨_, rfl, ?_⟩
  rw [restoreLive_good hg, restoreLost_seized ((liveSeized_iff bs).mpr hs) rfl, cal]
  exact ⟨rfl, rfl⟩

/-- A seized call's record alone. -/
theorem restoreLive_lost (hg : liveGood bs = true) (hp : x.gate.profile = some p) (hs : u8 bs 57 / 8 % 2 = 1)
    (hn : u8 bs 75 < 128) :
    ((x.ring.w - x.ring.r).toNat < 64 → (restoreLive bs x).ring
        = { x.ring with w := x.ring.w + 1, slot := none, seq := (x.ring.seq + 1) % 65536 }
      ∧ ∃ l, (restoreLive bs x).sys.powerLost = some l ∧ l.place = .placed x.ring.w ∧ l.charge = u24 bs 70)
    ∧ (64 ≤ (x.ring.w - x.ring.r).toNat → (restoreLive bs x).ring
        = { x.ring with slot := some { lostRecord x.cal.time bs with seq := x.ring.seq },
                        seq := (x.ring.seq + 1) % 65536 }
      ∧ ∃ l, (restoreLive bs x).sys.powerLost = some l ∧ l.place = .pending ∧ l.charge = u24 bs 70) := by
  obtain ⟨c, hc, ring, lost⟩ := restoreLive_seized (x := x) hg hs
  obtain ⟨-, -, -, charge, -⟩ := lostRecord_fields x.cal.time bs c hc
  have empty := restored_empty (x := x) hn
  have slot : (restored bs x).ring.slot = none := by rw [empty]
  rw [placePending_none slot] at ring lost
  rw [← hc]
  refine ⟨fun room => ?_, fun full => ?_⟩
  · obtain ⟨r, place, -⟩ := handed_placed (c := c) (s := restored bs x) hp slot (by rw [empty]; exact room)
    rw [r, empty] at ring
    rw [place, empty] at lost
    exact ⟨ring, _, lost, rfl, charge⟩
  · obtain ⟨r, place, -⟩ := handed_pending (c := c) (s := restored bs x) slot (by rw [empty]; exact full)
    rw [r, empty] at ring
    rw [place] at lost
    exact ⟨ring, _, lost, rfl, charge⟩

/-- A pending record and a seized call's record behind it, by the places left. -/
theorem restoreLive_both (hg : liveGood bs = true) (hp : x.gate.profile = some p) (hs : u8 bs 57 / 8 % 2 = 1)
    (hn : 128 ≤ u8 bs 75) (unread : Nat) (pend lost : CallRecord) (hu : unread = (x.ring.w - x.ring.r).toNat)
    (hpend : pend = livePendRecord x.cal.time bs)
    (hlost : lost = { lostRecord x.cal.time bs with seq := x.ring.seq }) :
    (restoreLive bs x).ring.seq = (x.ring.seq + 1) % 65536
    ∧ ∃ l, (restoreLive bs x).sys.powerLost = some l ∧ l.charge = u24 bs 70
      ∧ (unread < 63 → (restoreLive bs x).ring.w = x.ring.w + 2 ∧ (restoreLive bs x).ring.slot = none
          ∧ l.place = .placed (x.ring.w + 1))
      ∧ (unread = 63 → (restoreLive bs x).ring.w = x.ring.w + 1 ∧ (restoreLive bs x).ring.slot = some lost
          ∧ l.place = .pending)
      ∧ (64 ≤ unread → (restoreLive bs x).ring.w = x.ring.w
          ∧ if ¬ (pend.kind = .paid ∧ pend.gatePassed = true) ∧ lost.kind = .paid ∧ lost.gatePassed = true
            then (restoreLive bs x).ring.slot = some lost ∧ l.place = .pending
            else (restoreLive bs x).ring.slot = some pend ∧ l.place = .notKept) := by
  obtain ⟨c, hc, ring, noted⟩ := restoreLive_seized (x := x) hg hs
  obtain ⟨-, -, -, charge, -⟩ := lostRecord_fields x.cal.time bs c hc
  have pending := restored_pending (x := x) hn
  rw [← hpend] at pending
  rw [← hc] at hlost
  have slot : (restored bs x).ring.slot = some pend := by rw [pending]
  by_cases room : unread < 64
  · have vring : (placePending (restored bs x)).ring = { x.ring with w := x.ring.w + 1, slot := none } := by
      rw [placePending_ring (s := restored bs x) hp slot (by rw [pending, ← hu]; exact room), pending]
    have vp : (placePending (restored bs x)).gate.profile = some p :=
      (profile_of_unposted (placePending_placed (restored bs x)).kept).trans hp
    have vslot : (placePending (restored bs x)).ring.slot = none := by rw [vring]
    have vunread : ((placePending (restored bs x)).ring.w - (placePending (restored bs x)).ring.r).toNat
        = unread + 1 := by rw [vring, hu, ← unread_succ (hu ▸ room)]
    generalize placePending (restored bs x) = v at *
    by_cases more : unread < 63
    · obtain ⟨r, place, -⟩ := handed_placed (c := c) vp vslot (by omega)
      rw [r, vring] at ring
      rw [place, vring] at noted
      rw [ring]
      exact ⟨rfl, _, noted, charge, fun _ => ⟨BitVec.add_assoc .., rfl, rfl⟩, fun h => by omega,
        fun h => by omega⟩
    · obtain ⟨r, place, -⟩ := handed_pending (c := c) vslot (by omega)
      rw [r, vring] at ring
      rw [place] at noted
      rw [ring, hlost]
      exact ⟨rfl, _, noted, charge, fun h => by omega, fun _ => ⟨rfl, rfl, rfl⟩, fun h => by omega⟩
  · have full : 64 ≤ ((restored bs x).ring.w - (restored bs x).ring.r).toNat := by
      rw [pending, ← hu]
      exact Nat.not_lt.mp room
    rw [placePending_full slot full] at ring noted
    obtain ⟨w, seq, kept, -⟩ := handed_full (c := c) slot full
    rw [← ring] at w seq kept
    rw [pending] at w seq kept
    refine ⟨seq, _, noted, charge, fun h => by omega, fun h => by omega, fun _ => ⟨w, ?_⟩⟩
    rw [hlost]
    exact kept

/-! ### The marker (R86, R184) -/

/-- What a usable image restores the marker to. -/
theorem restored_marked (bs : List Byte) (x : State) : (restored bs x).coin.uncertain
    = (decide (128 ≤ u8 bs 2) || x.sys.tallyMarker || u8 bs 2 / 16 % 8 == 1 || u8 bs 2 / 16 % 8 == 2
      || decide (u8 bs 1 < 128)) := by
  have shown : bitSet (natAt bs 2) 7 = decide (128 ≤ u8 bs 2) := topBit _ (u8_lt bs 2)
  have cut : (!bitSet (natAt bs 1) 7) = decide (u8 bs 1 < 128) := by
    rw [show bitSet (natAt bs 1) 7 = decide (128 ≤ u8 bs 1) from topBit _ (u8_lt bs 1), ← decide_not]
    exact decide_eq_decide.mpr Nat.not_le
  have is : (restored bs x).coin.uncertain = (bitSet (natAt bs 2) 7 || x.sys.tallyMarker
      || (u8 bs 2 / 16 % 8 == 1 || u8 bs 2 / 16 % 8 == 2) || !bitSet (natAt bs 1) 7) := rfl
  rw [is, shown, cut, ← Bool.or_assoc]

theorem restored_escrow_le (h : liveGood bs = true) : (restored bs x).coin.escrow.length ≤ 10 := by
  have few : (liveEscrow x.cal.time bs).length ≤ 10 := by
    rw [liveEscrow_length]
    obtain ⟨-, -, -, -, -, count, -⟩ := (liveGood_iff bs).mp h
    exact count
  have is : (restored bs x).coin.escrow
      = if bitsOf (natAt bs 2) 4 3 == 4 then [] else liveEscrow x.cal.time bs := rfl
  rw [is]
  split
  · exact Nat.zero_le _
  · exact few

/-! ### The command -/

/-- What stands behind the read of a usable image. -/
theorem exec_liveImage_usable (hr : s.sys.part = .starting) (h : handed (.live true) d s)
    (hp : s.gate.profile = some p) (hb : bs = s.sys.liveBuf ++ d) (hg : liveGood bs = true) :
    ∃ t, exec .liveImageRead s = .next t ∧ t.sys.imageTaken = true ∧ t.mem = s.mem
      ∧ t.ring = (restoreLive bs (headGone s)).ring
      ∧ t.sys.powerLost = (restoreLive bs (headGone s)).sys.powerLost
      ∧ t.meter = (restored bs s).meter ∧ t.call = (restored bs s).call
      ∧ (∃ u, t.coin = { (restored bs s).coin with reasons := t.coin.reasons, uncertain := u }
        ∧ ((restored bs s).coin.uncertain = true → u = true)
        ∧ ((∀ i : Fin 6, s.tally.classes[i].collected + s.tally.classes[i].returned
          + s.tally.classes[i].cleared + 10 ≤ 65535) → u = (restored bs s).coin.uncertain))
      ∧ (s.sys.stage = .live → s.gate.waiters = [] → s.gate.queue.length ≤ 5 → t.sys.stage = .tariff) := by
  have placed := restoreLive_placed (s := headGone s) hg hp
  obtain ⟨r, hrest⟩ : ∃ r, r = restoreLive bs (headGone s) := ⟨_, rfl⟩
  rw [← hrest] at placed ⊢
  obtain ⟨kept, classes, -, room⟩ := placed
  have rsys : r.sys = { (restored bs (headGone s)).sys with powerLost := r.sys.powerLost } :=
    (sys_of_unposted kept).trans rfl
  have rcoin : r.coin = (restored bs s).coin := (coin_of_unposted kept).trans rfl
  have rprof : r.gate.profile = some p := (profile_of_unposted kept).trans hp
  have rheld : r.gate.held = [] := (held_of_steady (steady_of_unposted kept)).trans (headGone_held h)
  have part : r.sys.part = .starting := (congrArg Sys.part rsys).trans hr
  obtain ⟨t, run, taken, tlost, tmem, tring, tmeter, tcall, tcoin, tstage⟩ :=
    exec_liveImageRead hr h hb hrest part rheld
  have again := rebuildCounts_recounted r
  have marks := again.marks
  have fits := again.fits
  generalize (rebuildCounts r).coin.uncertain = u at tcoin marks fits
  rw [rcoin] at tcoin marks fits
  refine ⟨t, run, taken, tmem.trans ((mem_of_unposted kept).trans rfl), tring, tlost,
    tmeter.trans ((meter_of_unposted kept).trans rfl), tcall.trans ((call_of_unposted kept).trans rfl),
    ⟨u, tcoin, marks, fun hf => (fits fun i => ?_).2⟩, fun hst hw hq => ?_⟩
  · have few := restored_escrow_le (x := s) hg
    have all := hf i
    have same : r.tally.classes[i] = s.tally.classes[i] := congrArg (fun v : Vector ClassCount 6 => v[i]) classes
    rw [same, rcoin]
    omega
  · have gone : (headGone s).gate.queue.length ≤ 4 := by
      show s.gate.queue.tail.length ≤ 4
      rw [List.length_tail]
      omega
    obtain ⟨rw_, rq⟩ := room hw (by show (headGone s).gate.queue.length + 4 ≤ 16; omega)
    have rq : r.gate.queue.length ≤ (headGone s).gate.queue.length + 4 := rq
    exact tstage p ((congrArg Sys.stage rsys).trans hst) rprof rw_ (by omega)

/-- What stands behind the read of an image that is not usable. -/
theorem exec_liveImage_unusable (hr : s.sys.part = .starting) (h : handed (.live true) d s)
    (hp : s.gate.profile = some p) (hb : bs = s.sys.liveBuf ++ d) (hg : liveGood bs = false) :
    ∃ t, exec .liveImageRead s = .next t ∧ t.sys.imageTaken = true
      ∧ (s.sys.stage = .live → s.gate.waiters = [] → s.gate.queue.length ≤ 9 → t.sys.stage = .tariff)
      ∧ t.coin.mustFlush = true ∧ t.coin.escrow = s.coin.escrow ∧ t.meter.purse = s.meter.purse
      ∧ t.call.ordered = s.call.ordered ∧ t.ring = s.ring ∧ t.sys.powerLost = s.sys.powerLost
      ∧ t.mem = s.mem := by
  have rest : ({ headGone s with coin := { s.coin with mustFlush := true, uncertain := s.sys.tallyMarker } } : State)
      = restoreLive bs (headGone s) := by
    rw [restoreLive, hg]
    rfl
  obtain ⟨t, run, taken, tlost, tmem, tring, tmeter, tcall, tcoin, tstage⟩ :=
    exec_liveImageRead hr h hb rest hr (headGone_held (s := s) h)
  refine ⟨t, run, taken, fun hst hw hq => ?_, by rw [tcoin], by rw [tcoin], by rw [tmeter]; rfl,
    by rw [tcall]; rfl, tring, tlost, tmem⟩
  refine tstage p hst hp hw ?_
  show s.gate.queue.tail.length ≤ 8
  rw [List.length_tail]
  omega

end

/-- Settles O23. -/
theorem liveImageIsRestored : Obligations.LiveImageIsRestored := by
  intro s p d hr h hp bs hb
  have taken : liveGood bs = true → _ := exec_liveImage_usable hr h hp hb
  refine ⟨fun hg => ?_, fun hg => exec_liveImage_unusable hr h hp hb hg, liveGood_iff bs, ?_, ?_, ?_, ?_, ?_, ?_,
    liveEscrow_length _ _, fun i e he hi hseq => liveEscrow_entry he hi hseq, fun hg marked hmarked => ?_,
    fun c hc => lostRecord_fields _ bs c hc, liveFields_laid⟩
  · obtain ⟨t, run, image, mem, -, -, meter, call, ⟨u, coin, -⟩, stage⟩ := taken hg
    refine ⟨t, run, image, ?_, by rw [coin]; rfl, by rw [coin]; rfl, by rw [coin]; rfl, by rw [meter]; rfl,
      by rw [call]; rfl, stage, mem⟩
    rw [coin]
    exact ite_bool_flag _ _ beq_iff_eq _ _
  · rw [livePurse_eq]
  · rw [livePurse_eq]
  · rw [livePurse_eq]
  · rw [livePurse_eq]
  · rw [livePurse_eq]
  · rw [livePurse_eq]
    exact purseOf_cases (Nat.mod_lt _ (by decide))
  · obtain ⟨t, run, -, -, ring, lost, -, -, ⟨u, coin, marks, fits⟩, -⟩ := taken hg
    rw [restored_marked, ← hmarked] at marks fits
    have tu : t.coin.uncertain = u := by rw [coin]
    rw [← tu] at marks fits
    refine ⟨t, run, marks, fits, ?_⟩
    rw [ring, lost]
    refine ⟨fun h1 h2 => restoreLive_none hg h1 h2, fun h1 h2 => ?_, fun h1 h2 => ?_, fun h1 h2 => ?_,
      fun h1 h2 => restoreLive_both (x := headGone s) hg hp h1 h2⟩
    · obtain ⟨full, room⟩ := restoreLive_pending (x := headGone s) hg hp h1 h2
      exact ⟨fun hu => ⟨_, full hu, livePendRecord_fields _ hg h2⟩, room⟩
    · exact (restoreLive_lost (x := headGone s) hg hp h1 h2).1
    · exact (restoreLive_lost (x := headGone s) hg hp h1 h2).2

end Sys2Proof.Proofs

/-! The rewrites of an image: when one begins and what its runs are (R14, R46, R47). -/
namespace Sys2Proof.Proofs
open Sys2Proof.Machine Sys2Proof.Safety Sys2Proof.Laws

section
variable {i : ImageId} {p : Profile} {x : Image} {s : State} {shown : List Byte} {o n : Nat}

/-! ### When a rewrite begins (R47) -/

/-- A cause that folds into the rewrite under way. -/
theorem giveRewrite_folds (hpos : (getImage i s).pos = some .lead ∨ (getImage i s).pos = some .fields) :
    giveRewrite i s = s := by
  unfold giveRewrite
  dsimp only
  split
  · obtain h | h := hpos
    · rw [h]
    · rw [h]
  · rfl

/-- A cause that leaves a rewrite owed. -/
theorem giveRewrite_owes (hx : getImage i s = x) (hon : x.on = true) (hdue : rewriteDue i x s = true)
    (hpos : (x.pos = none ∧ 2 ≤ standing i s) ∨ x.pos = some .trail ∨ x.pos = some .last) :
    giveRewrite i s = setImage i { x with owed := true } s := by
  have due : (x.on && rewriteDue i x s) = true := by rw [hon, hdue]; rfl
  unfold giveRewrite
  dsimp only
  rw [hx, if_pos due]
  obtain ⟨h, many⟩ | h | h := hpos
  · have full : ¬ standing i (setImage i { x with owed := true } s) < rewriteTop := by
      rw [standing_setImage]
      exact Nat.not_lt.mpr many
    have waits : startOwed i (setImage i { x with owed := true } s) = setImage i { x with owed := true } s :=
      if_neg fun h' => full h'.2.2
    have given : goOnImage i (startOwed i (setImage i { x with owed := true } s))
        = setImage i { x with owed := true } s := by
      rw [waits, goOnImage, pumpImage, getImage_setImage, if_pos h]
    split
    · exact given
    · next h' => cases h.symm.trans h'
    · next h' => cases h.symm.trans h'
    · rfl
    · rfl
  · rw [h]
  · rw [h]

/-- The leading count is the first run of a rewrite. -/
theorem imageRun_lead (i : ImageId) (p : Profile) (x : Image) (s : State) :
    imageRun i p x .lead s = .write (imageBase p i) [x.count + 1] .plain := rfl

/-! ### The runs (R14, R46) -/

theorem imageRun_fields (i : ImageId) (p : Profile) (x : Image) (s : State) :
    ∃ o n, imageRun i p x .fields s
        = .write (imageBase p i + 1 + o) (((imageFields i s).drop o).take n) .plain
      ∧ 0 < n ∧ n ≤ 40 ∧ o + n ≤ (imageFields i s).length := by
  obtain ⟨pos, within, ends⟩ := fieldsRun_within i x.shown (imageFields i s)
  exact ⟨_, _, rfl, pos, within, by rw [imageFields_length]; exact ends⟩

/-- The Clock Image's fields are one run. -/
theorem clockRun (shown : List Byte) (s : State) : fieldsRun .clock shown (clockFields s) = (0, 14) := by
  simp only [fieldsRun, changedRun, fieldLens, spansFrom, firstRun, runLength]
  split <;> rfl

theorem imageRun_clock (p : Profile) (x : Image) (s : State) :
    imageRun .clock p x .fields s = .write (p.clockBase + 1) (clockFields s) .plain := by
  have length : (clockFields s).length = 14 := rfl
  have run : imageRun .clock p x .fields s = .write (p.clockBase + 1 + 0)
      (spanOf (clockFields s) (0, 14)) .plain := by
    show PostEntry.write (p.clockBase + 1 + (fieldsRun .clock x.shown (clockFields s)).1)
      (spanOf (clockFields s) (fieldsRun .clock x.shown (clockFields s))) .plain = _
    rw [clockRun]
  have whole : spanOf (clockFields s) (0, 14) = clockFields s := List.take_of_length_le (Nat.le_of_eq length)
  rw [run, whole]

theorem afterRun_clock (x : Image) (s : State) : (afterRun .clock x .fields s).pos = some .trail := by
  have length : (clockFields s).length = 14 := rfl
  have given : showSpan x.shown (clockFields s) (0, 14) = clockFields s ++ x.shown.drop 14 := by
    rw [showSpan, List.take_zero, List.nil_append]
    exact congrArg (· ++ x.shown.drop 14) (List.take_of_length_le (Nat.le_of_eq length))
  have same : spanOf (clockFields s ++ x.shown.drop 14) (0, 14) = spanOf (clockFields s) (0, 14) :=
    List.take_append_of_le_length (Nat.le_of_eq length.symm)
  have none_ : changedRun .clock (clockFields s ++ x.shown.drop 14) (clockFields s) = none := by
    simp only [changedRun, fieldLens, spansFrom, firstRun, same, bne_self_eq_false, Bool.false_eq_true, if_false]
  show some (if (changedRun .clock (showSpan x.shown (clockFields s)
    (fieldsRun .clock x.shown (clockFields s))) (clockFields s)).isNone then RewriteStep.trail else .fields) = _
  rw [clockRun, given, none_]
  rfl

/-- What differs from the fields within one span only agrees with them before it and behind it. -/
theorem take_drop_of_getD {a b : List Byte} (hl : a.length = b.length)
    (h : ∀ k, k < o ∨ o + n ≤ k → a.getD k 0 = b.getD k 0) :
    a.take o = b.take o ∧ a.drop (o + n) = b.drop (o + n) := by
  have at_ : ∀ k, k < o ∨ o + n ≤ k → ∀ (ha : k < a.length) (hb : k < b.length), a[k] = b[k] := by
    intro k hk ha hb
    have := h k hk
    rwa [byte_inside ha, byte_inside hb] at this
  refine ⟨List.ext_getElem (by simp [hl]) fun k h1 h2 => ?_, List.ext_getElem (by simp [hl]) fun k h1 h2 => ?_⟩
  · rw [List.length_take] at h1
    rw [List.getElem_take, List.getElem_take]
    exact at_ k (.inl (by omega)) _ _
  · rw [List.getElem_drop, List.getElem_drop]
    exact at_ _ (.inr (Nat.le_add_right _ _)) _ _

/-- Where one field alone has changed it is the run, and the trailing count follows. -/
theorem imageRun_one (p : Profile) (x : Image) (s : State) (hin : (o, n) ∈ spansFrom 0 (fieldLens i))
    (hl : shown.length = (imageFields i s).length) (hne : shown ≠ imageFields i s)
    (hd : ∀ k, k < o ∨ o + n ≤ k → shown.getD k 0 = (imageFields i s).getD k 0) :
    imageRun i p { x with shown := shown } .fields s
        = .write (imageBase p i + 1 + o) (((imageFields i s).drop o).take n) .plain
      ∧ (afterRun i { x with shown := shown } .fields s).pos = some .trail := by
  have length := imageFields_length i s
  obtain ⟨before, behind⟩ := take_drop_of_getD hl hd
  have run : fieldsRun i shown (imageFields i s) = (o, n) := by
    rw [fieldsRun, changedRun_one hin length hl hne before behind]
    rfl
  refine ⟨?_, ?_⟩
  · show PostEntry.write (imageBase p i + 1 + (fieldsRun i shown (imageFields i s)).1)
      (spanOf (imageFields i s) (fieldsRun i shown (imageFields i s))) .plain = _
    rw [run]
    rfl
  · show some (if (changedRun i (showSpan shown (imageFields i s) (fieldsRun i shown (imageFields i s)))
      (imageFields i s)).isNone then RewriteStep.trail else .fields) = _
    rw [run, showSpan_one before behind, changedRun_same i length]
    rfl

end

end Sys2Proof.Proofs

/-! The Post Engine's completions: a write run, its owner and the write held behind it (R13, R15, R23, R33, R47). -/
namespace Sys2Proof.Proofs
open Sys2Proof.Machine Sys2Proof.Safety Sys2Proof.Laws

section
variable {s t u : State} {a : Nat} {d : List Byte} {tag : WriteTag} {q : List PostEntry}

/-! ### The bytes of the head entry (R13) -/

/-- Memory with the bytes of the head entry that are left. -/
def memWritten (a : Nat) (d : List Byte) (s : State) : List Host.Cell :=
  Memory.writeRun s.mem (a + s.gate.done) (d.drop s.gate.done)

theorem memWritten_wf (hm : memoryKept s) : Memory.wf (memWritten a d s) = true := writeRun_wf _ _ _ hm

/-- The bytes left stand in memory, every other byte as before. -/
theorem memWritten_read (hm : memoryKept s) (hd : s.gate.done ≤ d.length) (ha : a + d.length ≤ 65536) {x : Nat}
    (hx : x < 65536) : Memory.read (memWritten a d s) x
      = if a + s.gate.done ≤ x ∧ x < a + d.length then d.getD (x - a) 0 else Memory.read s.mem x := by
  have length : (d.drop s.gate.done).length = d.length - s.gate.done := List.length_drop
  by_cases inside : a + s.gate.done ≤ x ∧ x < a + d.length
  · rw [if_pos inside]
    have read := read_writeRun_inside s.mem (a + s.gate.done) (x - (a + s.gate.done)) (d.drop s.gate.done)
      (by omega) (by omega) hm
    rw [Nat.add_sub_cancel' inside.1] at read
    rw [memWritten, read, List.getD_eq_getElem?_getD, List.getElem?_drop, List.getD_eq_getElem?_getD,
      show s.gate.done + (x - (a + s.gate.done)) = x - a by omega]
  · rw [if_neg inside]
    exact read_writeRun_other s.mem _ x _ (by omega) hx (by omega) hm

/-! ### A write run's completion -/

/-- The state once the write run at the head has been carried out. -/
def written (a : Nat) (d : List Byte) (s : State) : State := { headGone s with mem := memWritten a d s }

theorem finishHead_written (hq : s.gate.queue = .write a d tag :: q) : finishHead s = (written a d s, []) := by
  unfold finishHead written headGone
  rw [hq]
  rfl

/-- What an owner hears leaves the held cycles and the memory. -/
theorem writtenEffect_leaves (tag : WriteTag) (v : State) : (writtenEffect tag v).gate.held = v.gate.held
    ∧ (writtenEffect tag v).mem = v.mem ∧ (writtenEffect tag v).sys = v.sys := by
  cases tag with
  | plain => exact ⟨rfl, rfl, rfl⟩
  | slotDone n =>
    show (slotWritten n v).gate.held = _ ∧ (slotWritten n v).mem = _ ∧ (slotWritten n v).sys = _
    unfold slotWritten
    dsimp only
    split <;> exact ⟨rfl, rfl, rfl⟩
  | eventIndex w =>
    show (indexWritten w v).gate.held = _ ∧ (indexWritten w v).mem = _ ∧ (indexWritten w v).sys = _
    unfold indexWritten
    split <;> exact ⟨rfl, rfl, rfl⟩
  | imageEnd i =>
    have un : unposted (goOnImage i (startOwed i v)) = unposted v :=
      (pumpImage_unposted i 20 _).trans (startOwed_unposted i v)
    exact ⟨held_of_steady (steady_of_unposted un), mem_of_unposted un, sys_of_unposted un⟩

/-- The head entry's completion and its owner's part of the step. -/
theorem stepWith_written (hq : s.gate.queue = .write a d tag :: q) :
    stepWith (complete fun _ v => writtenEffect tag v) s
      = finish (waiting s) (writtenEffect tag (written a d s)) := by
  rw [stepWith, complete, finishHead_written hq]

/-- With no cycle held a write's completion is its owner's part and the step's end. -/
theorem exec_written (hq : s.gate.queue = .write a d tag :: q) (hh : s.gate.held = []) :
    exec .postEntryComplete s
      = .next (endFailing (finish (waiting s) (writtenEffect tag (written a d s)))) := by
  have run : exec .postEntryComplete s = .next (endFailing (completeEntry s)) := rfl
  have body : completeEntry s = finish (waiting s) (writtenEffect tag (written a d s)) := by
    have is : completeEntry s = completeStep (fun _ v => writtenEffect tag v) s := by
      rw [completeEntry, hq]
    have held : (finish (waiting s) (writtenEffect tag (written a d s))).gate.held = [] :=
      (held_of_steady (finish_steady _ _)).trans ((writtenEffect_leaves tag _).1.trans hh)
    rw [is, completeStep, stepWith_written hq]
    generalize finish (waiting s) (writtenEffect tag (written a d s)) = t at held
    rw [serveHeld, held]
  rw [run, body]

theorem endFailing_mem (s : State) : (endFailing s).mem = s.mem := by
  unfold endFailing
  split <;> rfl

theorem endFailing_running (h : s.sys.part = .running) : endFailing s = s :=
  if_neg fun ⟨hf, _⟩ => by rw [h] at hf; exact absurd hf (by decide)

/-- What memory holds behind the completion of a write run. -/
theorem written_mem (hm : memoryKept s) (hq : s.gate.queue = .write a d tag :: q) (hh : s.gate.held = [])
    (hd : s.gate.done ≤ d.length) (ha : a + d.length ≤ 65536) :
    ∃ t, exec .postEntryComplete s = .next t ∧ ∀ x < 65536, Memory.read t.mem x =
      if a + s.gate.done ≤ x ∧ x < a + d.length then d.getD (x - a) 0 else Memory.read s.mem x := by
  refine ⟨_, exec_written hq hh, fun x hx => ?_⟩
  have mem : (finish (waiting s) (writtenEffect tag (written a d s))).mem = memWritten a d s :=
    (mem_of_steady (finish_steady _ _)).trans (writtenEffect_leaves tag _).2.1
  rw [endFailing_mem, mem]
  exact memWritten_read hm hd ha hx

/-- In RUNNING a write's completion leads to its owner's part. -/
theorem written_running (hr : s.sys.part = .running) (hq : s.gate.queue = .write a d tag :: q)
    (hh : s.gate.held = []) : exec .postEntryComplete s
      = .next (finish (waiting s) (writtenEffect tag (written a d s))) := by
  have part : (finish (waiting s) (writtenEffect tag (written a d s))).sys.part = .running := by
    rw [sys_of_steady (finish_steady _ _), (writtenEffect_leaves tag _).2.2]
    exact hr
  rw [exec_written hq hh, endFailing_running part]

theorem leads_written (hr : s.sys.part = .running) (hq : s.gate.queue = .write a d tag :: q)
    (hh : s.gate.held = []) : leads .postEntryComplete s (writtenEffect tag (written a d s)) :=
  ⟨_, written_running hr hq hh, finish_steady _ _⟩

/-! ### The owners (R23, R33, R47) -/

theorem slotWritten_eq (n : Fin 16) (s : State) : slotWritten n s = { s with
    gate := { s.gate with slotGuard := s.gate.slotGuard &&& ~~~ (BitVec.twoPow 16 n.val) },
    orders := { s.orders with
      slots := s.orders.slots.set n .done,
      busy := if s.orders.busy = some n then none else s.orders.busy,
      data := if s.orders.busy = some n then none else s.orders.data } } := by
  unfold slotWritten
  dsimp only
  by_cases h : s.orders.busy = some n
  · have h' : (setGuard n false (setSlot n .done s)).orders.busy = some n := h
    rw [if_pos h', if_pos h, if_pos h]
    rfl
  · have h' : ¬ (setGuard n false (setSlot n .done s)).orders.busy = some n := h
    rw [if_neg h', if_neg h, if_neg h]
    rfl

theorem indexWritten_running (w : RingIndex) (h : s.sys.part = .running) : indexWritten w s
    = { s with ev := { s.ev with lastW := w, announced := true, attn := decide (w ≠ s.ev.r) } } :=
  if_pos (by rw [startUpGiven, h]; rfl)

/-- Behind the oldest of two rewrites a rewrite owed begins with its leading count. -/
theorem imageEnd_begins {i : ImageId} {p : Profile} {x : Image} (hp : s.gate.profile = some p)
    (hx : getImage i s = x) (hw : s.gate.waiters = []) (hq : s.gate.queue.length < 16) (hpos : x.pos = none)
    (ho : x.owed = true) (hs : standing i s < 2) :
    s.gate.queue ++ [imageRun i p x .lead s] <+: (goOnImage i (startOwed i s)).gate.queue := by
  have begun : startOwed i s = setImage i { x with pos := some .lead, owed := false } s := by
    unfold startOwed
    dsimp only
    rw [hx, if_pos ⟨hpos, ho, hs⟩]
  rw [begun]
  have lead := pumpImage_lead (i := i) (p := p) 19
    (s := setImage i { x with pos := some .lead, owed := false } s)
    (by rw [setImage_gate, hp]) (by rw [getImage_setImage])
    (by rw [placeFree, setImage_gate, hw]; exact decide_eq_true hq)
  rwa [setImage_gate, getImage_setImage] at lead

theorem leadsWith_imageEnd {i : ImageId} (hr : s.sys.part = .running)
    (hq : s.gate.queue = .write a d (.imageEnd i) :: q) (hh : s.gate.held = []) :
    leadsWith .postEntryComplete s (written a d s) (fun t => ∀ p x, s.gate.profile = some p →
      getImage i s = x → s.gate.waiters = [] → q.length < 16 → x.pos = none → x.owed = true →
      standing i (headGone s) < 2 → q ++ [imageRun i p x .lead s] <+: t.gate.queue) := by
  refine ⟨_, written_running hr hq hh, (finish_steady _ _).trans ?_, fun p x hp hx hw hl hpos ho hs => ?_⟩
  · exact (pumpImage_steady i 20 _).trans (startOwed_steady i _)
  · have gone : (written a d s).gate.queue = q := by
      show s.gate.queue.tail = q
      rw [hq]
      rfl
    have same : getImage i (written a d s) = x := by cases i <;> exact hx
    have begins := imageEnd_begins (s := written a d s) (p := p) hp same hw (by rw [gone]; exact hl) hpos ho hs
    rw [gone, imageRun_lead] at begins
    rw [imageRun_lead]
    have effect : goOnImage i (startOwed i (written a d s)) = writtenEffect (.imageEnd i) (written a d s) := rfl
    rw [effect] at begins
    generalize writtenEffect (.imageEnd i) (written a d s) = u at begins
    exact begins.trans (finish_grows (waiting s) u)

/-! ### A write held by WAIT (R15) -/

/-- A plain write served. -/
def plainServed (h : Addr) (v : Byte) (u : State) : State :=
  { u with mem := Memory.write u.mem h.toNat v, gate := { u.gate with held := [] } }

theorem serveHeld_plain {h : Addr} {v : Byte} (held : u.gate.held = [⟨h, v, some .plain⟩]) :
    ∃ n, serveHeld u = finish n (plainServed h v u) := by
  refine ⟨waiting { u with gate := { u.gate with held := [] } }, ?_⟩
  unfold serveHeld
  rw [held]
  dsimp only [List.foldl_nil, Option.getD_some]
  unfold stepWith serveWrite actOn
  exact rfl

theorem plainServed_steady {h : Addr} {v : Byte} (hs : steady t = steady u) :
    steady (plainServed h v t) = steady (plainServed h v u) :=
  congrArg (plainServed h v) hs

/-- The held write is served behind the completion. -/
theorem exec_held {h : Addr} {v : Byte} (hr : s.sys.part = .running)
    (hq : s.gate.queue = .write a d .plain :: q) (hh : s.gate.held = [⟨h, v, some .plain⟩]) :
    leads .postEntryComplete s (plainServed h v (written a d s)) := by
  have run : exec .postEntryComplete s = .next (endFailing (completeEntry s)) := rfl
  have is : completeEntry s = serveHeld (finish (waiting s) (written a d s)) := by
    rw [completeEntry, hq]
    exact congrArg serveHeld (stepWith_written hq)
  have first : steady (finish (waiting s) (written a d s)) = steady (written a d s) := finish_steady _ _
  generalize finish (waiting s) (written a d s) = u at first is
  obtain ⟨n, served⟩ := serveHeld_plain ((held_of_steady first).trans hh)
  have whole : steady (completeEntry s) = steady (plainServed h v (written a d s)) := by
    rw [is, served, finish_steady]
    exact plainServed_steady first
  have part : (completeEntry s).sys.part = .running := (congrArg Sys.part (sys_of_steady whole)).trans hr
  rw [endFailing_running part] at run
  exact ⟨_, run, whole⟩

theorem held_served {h : Addr} {v : Byte} (hm : memoryKept s) (hr : s.sys.part = .running)
    (hq : s.gate.queue = .write a d .plain :: q) (hh : s.gate.held = [⟨h, v, some .plain⟩])
    (hd : s.gate.done ≤ d.length) (ha : a + d.length ≤ 65536) : leadsWith .postEntryComplete s
      (plainServed h v (written a d s))
      (fun t => ∀ x < 65536, Memory.read t.mem x = if x = h.toNat then v
        else if a + s.gate.done ≤ x ∧ x < a + d.length then d.getD (x - a) 0 else Memory.read s.mem x) := by
  obtain ⟨t, run, whole⟩ := exec_held hr hq hh
  have kept : Memory.wf (memWritten a d s) = true := memWritten_wf hm
  have mem : t.mem = Memory.write (memWritten a d s) h.toNat v := mem_of_steady whole
  refine ⟨t, run, whole, fun x hx => ?_⟩
  rw [mem]
  by_cases here : x = h.toNat
  · rw [if_pos here, here]
    exact read_write_same _ _ _ kept
  · have other : x % 65536 ≠ h.toNat % 65536 := by
      rw [Nat.mod_eq_of_lt hx, Nat.mod_eq_of_lt h.isLt]
      exact here
    rw [if_neg here, read_write_other _ _ _ _ other kept]
    exact memWritten_read hm hd ha hx

/-- The contents of a taken slot reach the Order Unit (R21). -/
theorem order_read {n : Fin 16} (hr : s.sys.part = .running) (h : handed (.order n) d s)
    (hb : s.orders.busy = some n) :
    leads .postEntryComplete s { headGone s with orders := { s.orders with data := some d } } := by
  have effect : handedEffect (.order n) d (headGone s)
      = { headGone s with orders := { s.orders with data := some d } } := if_pos ⟨hr, hb⟩
  have body : completeEntry s = finish (waiting s) (handedEffect (.order n) d (headGone s)) := by
    rw [← completeStep_handed h (by rw [effect]; exact headGone_held h)]
    obtain ⟨a, k, q, hq, -⟩ := h
    have own : ownCommand (.order n) s = false := rfl
    rw [completeEntry, hq]
    dsimp only
    rw [own, if_neg (by decide)]
  have run : exec .postEntryComplete s = .next (endFailing (completeEntry s)) := rfl
  have still : steady (completeEntry s)
      = steady { headGone s with orders := { s.orders with data := some d } } := by
    rw [body, effect]
    exact finish_steady _ _
  have part : (completeEntry s).sys.part = .running := (congrArg Sys.part (sys_of_steady still)).trans hr
  rw [endFailing_running part] at run
  exact ⟨_, run, still⟩

end

end Sys2Proof.Proofs

/-! The Live Image at a step's end: a change handed over for it is shown by a rewrite (R14, R47, R76). -/
namespace Sys2Proof.Proofs
open Sys2Proof.Machine Sys2Proof.Safety Sys2Proof.Laws

section
variable {s t u v : State} {p : Profile} {x : Image}

/-! ### What the judgments of a step leave of the Live Image -/

/-- From `s` to `t` the Live Image's own state stands, and no change handed over for it is forgotten. -/
structure LiveHeld (t s : State) : Prop where
  live : t.img.live = s.img.live
  touched : s.img.liveDirty = true → t.img.liveDirty = true

theorem LiveHeld.refl (s : State) : LiveHeld s s := ⟨rfl, id⟩

theorem LiveHeld.trans (h : LiveHeld t u) (h' : LiveHeld u s) : LiveHeld t s :=
  ⟨h.live.trans h'.live, fun ht => h.touched (h'.touched ht)⟩

theorem Stays.liveHeld (h : Stays t s) : LiveHeld t s := by
  have core := h.core
  simp only [entryCore, Prod.mk.injEq] at core
  obtain ⟨-, -, -, -, -, live⟩ := core
  exact ⟨live, h.touched⟩

theorem setPurse_liveHeld (q : Purse) (s : State) : LiveHeld (setPurse q s) s := ⟨rfl, fun _ => rfl⟩

theorem startLane_liveHeld (s : State) : LiveHeld (startLane s) s := by
  have starts : ∀ (l : LaneState) (g : LaneGate), LiveHeld (startAction l g s) s := fun _ _ =>
    ⟨rfl, fun _ => rfl⟩
  have serves : ∀ (l : LaneState) (g : LaneGate), LiveHeld (startAction l g (setDemand .idle s)) s := fun _ _ =>
    ⟨rfl, fun _ => rfl⟩
  unfold startLane
  split
  · split
    · exact .refl s
    · split
      · exact starts _ _
      · split
        · split
          · exact serves _ _
          · exact .refl s
        · exact serves _ _
        · exact .refl s
  · exact .refl s

theorem closePurse_liveHeld (s : State) : LiveHeld (closePurse s) s := by
  have raised := fun (v : State) (d : List Byte) => (raise_stays .metering 14 d v).liveHeld
  have marked : ∀ v : State, LiveHeld (setDemand .idle (setPurse .none (markLate v))) v := fun _ =>
    ⟨rfl, fun _ => rfl⟩
  exact (marked _).trans ((raised _ _).trans ⟨rfl, id⟩)

theorem setHold_liveHeld (c : HoldCause) (s : State) : LiveHeld (setHold c s) s := by
  unfold setHold
  dsimp only
  split
  · split
    · exact setPurse_liveHeld _ s
    · exact .refl s
  · split
    · split
      · exact .refl s
      · exact setPurse_liveHeld _ s
    · exact (raise_stays _ _ _ _).liveHeld.trans (setPurse_liveHeld _ s)

theorem judgeDemand_liveHeld (s : State) : LiveHeld (judgeDemand s) s := by
  have settles : LiveHeld (if requestInFlight s.coin = true then s
      else if (s.coin.escrow.isEmpty && !inFlight s.coin.lane) = true then closePurse s
      else setHold (holdCauseOf (settleDemand s) s) (setDemand (settleDemand s) s)) s := by
    split
    · exact .refl s
    · split
      · exact closePurse_liveHeld s
      · exact (setHold_liveHeld _ _).trans ⟨rfl, id⟩
  unfold judgeDemand
  split
  · exact ⟨rfl, id⟩
  · split
    · exact .refl s
    · exact ⟨rfl, id⟩
  · exact settles
  · exact settles

theorem settleOnHook_liveHeld (s : State) : LiveHeld (settleOnHook s) s := by
  unfold settleOnHook beginSettlement
  split
  · split
    · exact setPurse_liveHeld _ s
    · exact .refl s
  · exact .refl s

theorem judgeMoney_liveHeld (s : State) : LiveHeld (judgeMoney s) s := by
  unfold judgeMoney
  split
  · exact (startLane_liveHeld _).trans ((judgeDemand_liveHeld _).trans (settleOnHook_liveHeld s))
  · exact .refl s

theorem judgeActivation_liveHeld (s : State) : LiveHeld (judgeActivation s) s := by
  have handed_ : ∀ (y : Bank) (t : Tables) (d : List Byte) (v : State), v.img = s.img →
      LiveHeld (handBank (some y) t.edition (raise .tariff 21 d (reselectBand v))) s := by
    intro y t d v hv
    have raised := (raise_stays .tariff 21 d (reselectBand v)).liveHeld
    have shown : LiveHeld (reselectBand v) s :=
      ⟨congrArg Images.live hv, fun ht => (congrArg Images.liveDirty hv).trans ht⟩
    have handed : ∀ w : State, LiveHeld (handBank (some y) t.edition w) w := fun _ => ⟨rfl, fun _ => rfl⟩
    exact (handed _).trans (raised.trans shown)
  unfold judgeActivation
  split
  · split
    · unfold activate
      dsimp only
      refine handed_ _ _ _ _ ?_
      split
      · split
        · rfl
        · next ob _ _ _ => cases ob <;> rfl
      · rfl
    · exact .refl s
  · exact .refl s
  · exact .refl s

theorem judgeActivationClock_liveHeld (s : State) : LiveHeld (judgeActivationClock s) s := by
  unfold judgeActivationClock
  dsimp only
  split
  · exact judgeActivation_liveHeld s
  · exact (giveRewrite_stays _ (by decide)).liveHeld.trans (judgeActivation_liveHeld s)

theorem judgeMode_liveHeld (s : State) : LiveHeld (judgeMode s) s := by
  unfold judgeMode
  dsimp only
  split
  · exact .refl s
  · exact (raise_stays _ _ _ _).liveHeld.trans ⟨rfl, fun _ => rfl⟩

theorem judgeReport_liveHeld (s : State) : LiveHeld (judgeReport s) s := by
  have asked : ∀ v : State, LiveHeld (askSeize v) v := by
    intro v
    unfold askSeize closeSeize
    split
    · dsimp only
      split <;> exact ⟨rfl, fun _ => rfl⟩
    · exact ⟨rfl, id⟩
  have granted : ∀ v : State, LiveHeld (grantReport v) v := by
    intro v
    unfold grantReport
    split
    · exact .refl v
    · exact (asked _).trans ⟨rfl, fun _ => rfl⟩
  unfold judgeReport
  dsimp only
  split
  · exact ⟨rfl, id⟩
  · split
    · exact (granted _).trans ⟨rfl, id⟩
    · exact ⟨rfl, id⟩

theorem startDigit_liveHeld (b : Bool) (d : Nat) (s : State) : LiveHeld (startDigit b d s) s := by
  unfold startDigit
  split
  · exact ⟨rfl, id⟩
  · split <;> exact ⟨rfl, id⟩

theorem judgeGate_liveHeld (s : State) : LiveHeld (judgeGate s) s := by
  unfold judgeGate
  split
  · exact .refl s
  · split
    · exact ⟨rfl, fun _ => rfl⟩
    · exact .refl s

theorem offerDigit_liveHeld (s : State) : LiveHeld (offerDigit s) s := by
  unfold offerDigit
  split
  · split
    · exact (startDigit_liveHeld _ _ _).trans ⟨rfl, id⟩
    · split
      · exact (startDigit_liveHeld _ _ _).trans ⟨rfl, id⟩
      · exact .refl s
  · exact .refl s

theorem judgeRingback_liveHeld (s : State) : LiveHeld (judgeRingback s) s := by
  unfold judgeRingback
  split
  · split
    · exact ⟨rfl, fun _ => rfl⟩
    · exact .refl s
  · exact .refl s

theorem judgeInterDigit_liveHeld (s : State) : LiveHeld (judgeInterDigit s) s := by
  unfold judgeInterDigit
  split
  · split
    · exact .refl s
    · exact ⟨rfl, id⟩
  · exact ⟨rfl, id⟩

theorem offerReport_liveHeld (s : State) : LiveHeld (offerReport s) s := by
  unfold offerReport
  split
  · split
    · split
      · exact (startDigit_liveHeld _ _ _).trans ⟨rfl, id⟩
      · exact ⟨rfl, id⟩
    · split
      · exact (startDigit_liveHeld _ _ _).trans ⟨rfl, id⟩
      · exact ⟨rfl, id⟩
    all_goals exact .refl s
  · exact .refl s

theorem settle_liveHeld (s : State) : LiveHeld (settle s) s := by
  unfold settle
  split
  · exact (offerReport_liveHeld _).trans ((judgeInterDigit_liveHeld _).trans ((judgeRingback_liveHeld _).trans
      ((offerDigit_liveHeld _).trans ((judgeGate_liveHeld _).trans ((judgeReport_liveHeld _).trans
        ((judgeMode_liveHeld _).trans ((judgeActivationClock_liveHeld _).trans (judgeMoney_liveHeld s))))))))
  · exact .refl s

theorem judgeReasons_liveHeld (s : State) : LiveHeld (judgeReasons s) s := by
  unfold judgeReasons
  dsimp only
  split
  · exact .refl s
  · exact ⟨rfl, fun _ => rfl⟩

theorem writeEvents_stays (l : List Event) (s : State) : Stays (l.foldl (fun s e => writeEvent e s) s) s := by
  induction l generalizing s with
  | nil => exact .refl s
  | cons e l ih => exact (ih _).trans (writeEvent_stays e s)

theorem flushEvents_liveHeld (s : State) : LiveHeld (flushEvents s) s := by
  unfold flushEvents
  split
  · exact (writeEvents_stays _ _).liveHeld.trans ⟨rfl, id⟩
  · exact .refl s

/-! ### A change handed over is shown -/

/-- The Live Image's rewrite for a field that differs: begun, under way or owed. -/
def liveShown (p : Profile) (x : Image) (s t : State) : Prop :=
  posted (imageRun .live p x .lead s) s t ∨ t.img.live.pos ≠ none ∨ t.img.live.owed = true

theorem posted_of_grows {e : PostEntry} (hg : grows s v) (h : posted e v t) : posted e s t := by
  obtain ⟨grown, inside⟩ := h
  exact ⟨List.IsPrefix.trans hg grown, List.drop_subset_drop_left t.gate.queue hg.length_le inside⟩

theorem liveShown_of_grows (hg : grows s v) (h : liveShown p x v t) : liveShown p x s t :=
  h.imp_left (posted_of_grows hg)

theorem joinLine_img (q : Producer) (l : List Offer) (s : State) : (joinLine q l s).img = s.img := by
  unfold joinLine
  split <;> rfl

/-- A rewrite that may begin, where no place is free. -/
theorem giveRewrite_inLine {i : ImageId} (hx : getImage i s = x) (hpos : x.pos = none) (hon : x.on = true)
    (hdue : rewriteDue i x s = true) (hstand : standing i s < 2) (hf : ¬ placeFree s = true) :
    giveRewrite i s
      = joinLine (.image i) [.imageRun i] (setImage i { x with pos := some .lead, owed := false } s) := by
  have due : (x.on && rewriteDue i x s) = true := by rw [hon, hdue]; rfl
  have begun : startOwed i (setImage i { x with owed := true } s)
      = setImage i { x with pos := some .lead, owed := false } s := by
    unfold startOwed
    dsimp only
    rw [getImage_setImage, standing_setImage, if_pos ⟨hpos, rfl, hstand⟩, setImage_setImage]
  have waits : pumpImage i 20 (setImage i { x with pos := some .lead, owed := false } s)
      = joinLine (.image i) [.imageRun i] (setImage i { x with pos := some .lead, owed := false } s) := by
    have full : ¬ placeFree (setImage i { x with pos := some .lead, owed := false } s) = true := by
      rwa [placeFree, setImage_gate]
    rw [pumpImage, getImage_setImage, if_neg (Option.some_ne_none _), if_neg full]
  unfold giveRewrite
  dsimp only
  rw [hx, if_pos due]
  split
  · exact (congrArg (goOnImage i) begun).trans waits
  · next h => cases hpos.symm.trans h
  · next h => cases hpos.symm.trans h
  · next h => cases hpos.symm.trans h
  · next h => cases hpos.symm.trans h

/-- A cause that finds a field differing is shown. -/
theorem giveRewrite_shown (hp : s.gate.profile = some p) (hx : s.img.live = x) (hon : x.on = true)
    (hdue : rewriteDue .live x s = true) : liveShown p x s (giveRewrite .live s) := by
  have image : getImage .live s = x := hx
  have owes := fun h => giveRewrite_owes (i := .live) image hon hdue h
  have folds := fun h => giveRewrite_folds (i := .live) (s := s) h
  rw [image] at folds
  cases hpos : x.pos with
  | none =>
    by_cases stand : standing .live s < 2
    · by_cases free : placeFree s = true
      · have lead := giveRewrite_lead (i := .live) hp (by rw [image, hon]) (by rw [image, hpos])
          (by rw [image, hdue]) stand free
        rw [image] at lead
        exact .inl (posted_of_prefix lead)
      · have begun : giveRewrite .live s
            = joinLine (.image .live) [.imageRun .live]
              (setImage .live { x with pos := some .lead, owed := false } s) :=
          giveRewrite_inLine image hpos hon hdue stand free
        refine .inr (.inl ?_)
        rw [begun, joinLine_img]
        exact Option.some_ne_none _
    · rw [owes (.inl ⟨hpos, Nat.not_lt.mp stand⟩)]
      exact .inr (.inr rfl)
  | some k =>
    refine .inr ?_
    cases k with
    | lead =>
      rw [folds (.inl hpos), hx, hpos]
      exact .inl (Option.some_ne_none _)
    | fields =>
      rw [folds (.inr hpos), hx, hpos]
      exact .inl (Option.some_ne_none _)
    | trail =>
      rw [owes (.inr (.inl hpos))]
      exact .inr rfl
    | last =>
      rw [owes (.inr (.inr hpos))]
      exact .inr rfl

/-- The step's rewrites, where a change has been handed over for the Live Image. -/
theorem postImages_shown (hp : s.gate.profile = some p) (hx : s.img.live = x) (hon : x.on = true)
    (ht : s.img.liveDirty = true) (hdue : ∀ w : State, w.coin = s.coin → rewriteDue .live x w = true) :
    liveShown p x s (postImages s) := by
  obtain ⟨w, hw, stays, un⟩ : ∃ w, w = (if s.img.tallyDirty then
      giveRewrite .tally { s with img := { s.img with tallyDirty := false } } else s) ∧ Stays w s
        ∧ unposted w = unposted s := by
    refine ⟨_, rfl, ?_⟩
    split
    · exact ⟨(giveRewrite_stays _ (by decide)).trans (.same rfl rfl rfl), giveRewrite_unposted _ _⟩
    · exact ⟨.refl s, rfl⟩
  have is : postImages s = giveRewrite .live { w with img := { w.img with liveDirty := false } } := by
    unfold postImages
    dsimp only
    rw [← hw, if_pos (stays.touched ht)]
  have prof : w.gate.profile = some p := (profile_of_unposted un).trans hp
  have live : w.img.live = x := stays.liveHeld.live.trans hx
  have due := hdue { w with img := { w.img with liveDirty := false } } (coin_of_unposted un)
  rw [is]
  exact liveShown_of_grows stays.posts (giveRewrite_shown
    (s := { w with img := { w.img with liveDirty := false } }) prof live hon due)

/-- A step that has handed a change over for the Live Image shows it at its end. -/
theorem finish_shown (n : Nat) (hp : s.gate.profile = some p) (hx : s.img.live = x) (hon : x.on = true)
    (ht : s.img.liveDirty = true)
    (hdue : ∀ w : State, w.coin = (finish n s).coin → rewriteDue .live x w = true) :
    liveShown p x s (finish n s) := by
  have held := (flushEvents_liveHeld _).trans ((judgeReasons_liveHeld _).trans (settle_liveHeld s))
  have steadied : steady (flushEvents (judgeReasons (settle s))) = steady s := by
    rw [flushEvents_steady, judgeReasons_steady, settle_steady]
  have posts : grows s (flushEvents (judgeReasons (settle s))) :=
    grows_trans (settle_grows s) (grows_trans (grows_same (by rw [judgeReasons_queue])) (flushEvents_grows _))
  have is : finish n s = shuffleWaiters n (postImages (flushEvents (judgeReasons (settle s)))) := rfl
  rw [is] at hdue ⊢
  generalize flushEvents (judgeReasons (settle s)) = u at *
  have coin : (shuffleWaiters n (postImages u)).coin = u.coin :=
    coin_of_unposted ((shuffleWaiters_unposted n _).trans (postImages_unposted u))
  rw [coin] at hdue
  exact liveShown_of_grows posts (postImages_shown ((profile_of_steady steadied).trans hp) (held.live.trans hx) hon
    (held.touched ht) hdue)

end

end Sys2Proof.Proofs

/-! The producers in line admitted, and the stage that ends behind an admission (R12, R47, R85, R87, R177, R179);
O19. -/
namespace Sys2Proof.Proofs
open Sys2Proof.Machine Sys2Proof.Safety Sys2Proof.Laws

section
variable {s t u v : State} {p : Profile} {x : Image} {w : Producer} {e e' : PostEntry} {ws : List Waiter}
  {l : List Offer} {i : ImageId} {k : RewriteStep}

/-! ### The first producer in line (R12, R47) -/

/-- The state with the line behind its first producer. -/
def lineLeft (ws : List Waiter) (s : State) : State := { s with gate := { s.gate with waiters := ws } }

theorem exec_admitted {y : Waiter} (hw : s.gate.waiters = y :: ws) (hq : s.gate.queue.length < 16) :
    exec .producerAdmitted s = .next (finish (waiting s - 1) (nextStage (letIn s))) := by
  have run : exec .producerAdmitted s = (if s.gate.waiters = [] ∨ postPlaces ≤ s.gate.queue.length then .next s
      else .next (finish (waiting s - 1) (nextStage (letIn s)))) := rfl
  rw [run, if_neg]
  rintro (h | h)
  · rw [hw] at h
    cases h
  · exact absurd hq (Nat.not_lt.mpr h)

theorem letIn_entry (hw : s.gate.waiters = ⟨w, .entry e :: l⟩ :: ws) :
    letIn s = offerItems w l (append e (lineLeft ws s)) := by
  unfold letIn
  rw [hw]
  rfl

theorem letIn_image (hw : s.gate.waiters = ⟨w, [.imageRun i]⟩ :: ws) :
    letIn s = goOnImage i (appendRun i (lineLeft ws s)) := by
  unfold letIn
  rw [hw]
  rfl

/-- The stages keep memory, only append to the Post Queue, and stand still outside STARTING. -/
theorem nextStage_leaves (v : State) : (nextStage v).mem = v.mem ∧ grows v (nextStage v)
    ∧ (v.sys.part ≠ .starting → nextStage v = v) := by
  refine ⟨?_, ?_, nextStage_notStarting v⟩
  · obtain h | ⟨-, -, ⟨-, -, h⟩ | ⟨-, -, h⟩ | ⟨-, h⟩⟩ := nextStage_cases v
    · rw [h]
    · rw [h]
      exact (leaveRecords_staged v).fields.1
    · rw [h]
      exact (startLoad_staged v).fields.1
    · have core := (enterRunning_core v).1
      rw [h]
      generalize enterRunning v = z at core
      exact congrArg Prod.fst core
  · obtain h | ⟨-, -, ⟨-, -, h⟩ | ⟨-, -, h⟩ | ⟨-, h⟩⟩ := nextStage_cases v
    · rw [h]
      exact grows_refl v
    · rw [h]
      exact (leaveRecords_staged v).posts
    · rw [h]
      exact (startLoad_staged v).posts
    · rw [h]
      exact (enterRunning_core v).2

/-- What an admission leaves, by what has been let in. -/
theorem admitted_leaves {y : Waiter} (hw : s.gate.waiters = y :: ws) (hq : s.gate.queue.length < 16)
    (hv : letIn s = v) (hu : unposted v = unposted s) (hg : s.gate.queue ++ [e] <+: v.gate.queue) :
    ∃ t, exec .producerAdmitted s = .next t ∧ s.gate.queue ++ [e] <+: t.gate.queue ∧ t.mem = s.mem
      ∧ (s.sys.part ≠ .starting → steady t = steady s) := by
  obtain ⟨mem, grown, still⟩ := nextStage_leaves v
  have run := exec_admitted hw hq
  rw [hv] at run
  have step := finish_steady (waiting s - 1) (nextStage v)
  have posts := finish_grows (waiting s - 1) (nextStage v)
  refine ⟨_, run, hg.trans (grows_trans grown posts),
    (mem_of_steady step).trans (mem.trans (mem_of_unposted hu)), fun hn => ?_⟩
  have part : v.sys.part ≠ .starting := by rw [sys_of_unposted hu]; exact hn
  rw [step, still part]
  exact steady_of_unposted hu

theorem admitted_entry (hw : s.gate.waiters = ⟨w, [.entry e]⟩ :: ws) (hq : s.gate.queue.length < 16) :
    ∃ t, exec .producerAdmitted s = .next t ∧ s.gate.queue ++ [e] <+: t.gate.queue ∧ t.mem = s.mem
      ∧ (s.sys.part ≠ .starting → steady t = steady s) :=
  admitted_leaves hw hq (letIn_entry hw) rfl List.prefix_rfl

/-- The run appended to an image is the one its rewrite gives next. -/
theorem appendRun_first (hp : s.gate.profile = some p) (hk : (getImage i s).pos = some k) :
    (appendRun i s).gate.queue = s.gate.queue ++ [imageRun i p (getImage i s) k s] := by
  unfold appendRun
  dsimp only
  rw [hp, hk]
  dsimp only
  rw [startOwed_gate, setImage_gate]
  rfl

theorem admitted_image (hw : s.gate.waiters = ⟨.image i, [.imageRun i]⟩ :: ws) (hq : s.gate.queue.length < 16)
    (hp : s.gate.profile = some p) (hk : (getImage i s).pos = some k) :
    ∃ t, exec .producerAdmitted s = .next t
      ∧ s.gate.queue ++ [imageRun i p (getImage i s) k s] <+: t.gate.queue ∧ t.mem = s.mem
      ∧ (s.sys.part ≠ .starting → steady t = steady s) := by
  have image : getImage i (lineLeft ws s) = getImage i s := by cases i <;> rfl
  have run : imageRun i p (getImage i s) k (lineLeft ws s) = imageRun i p (getImage i s) k s := by
    cases i <;> rfl
  have first := appendRun_first (i := i) (s := lineLeft ws s) hp (by rw [image]; exact hk)
  rw [image, run] at first
  have un : unposted (goOnImage i (appendRun i (lineLeft ws s))) = unposted (lineLeft ws s) :=
    (pumpImage_unposted i 20 _).trans (appendRun_unposted i _)
  have posts : grows (appendRun i (lineLeft ws s)) (goOnImage i (appendRun i (lineLeft ws s))) :=
    pumpImage_grows i 20 _
  rw [grows, first] at posts
  exact admitted_leaves hw hq (letIn_image hw) un posts

/-- A stage whose next post waits goes on waiting. -/
theorem admitted_waits (hr : s.sys.part = .starting)
    (hw : s.gate.waiters = ⟨.record, .entry e :: .entry e' :: l⟩ :: ws) (hq : s.gate.queue.length = 15) :
    ∃ t, exec .producerAdmitted s = .next t ∧ t.sys = s.sys ∧ t.tariff = s.tariff
      ∧ s.gate.queue ++ [e] <+: t.gate.queue := by
  have full : placeFree (append e (lineLeft ws s)) = false := by
    have long : ¬ (s.gate.queue ++ [e]).length < postPlaces := by
      rw [List.length_append, List.length_singleton, hq]
      decide
    have many : decide ((append e (lineLeft ws s)).gate.queue.length < postPlaces) = false :=
      decide_eq_false long
    rw [placeFree, many, Bool.and_false]
  have is : letIn s = joinLine .record (.entry e' :: l) (append e (lineLeft ws s)) := by
    rw [letIn_entry hw, offerItems, if_neg (by rw [full]; exact Bool.false_ne_true)]
  have waits : waitsWith .record (.entry e') (joinLine .record (.entry e' :: l) (append e (lineLeft ws s))) :=
    joinLine_waitsWith .record List.mem_cons_self
  have un : unposted (joinLine .record (.entry e' :: l) (append e (lineLeft ws s))) = unposted s :=
    (joinLine_unposted _ _ _).trans rfl
  have posts : s.gate.queue ++ [e] <+: (joinLine .record (.entry e' :: l) (append e (lineLeft ws s))).gate.queue :=
    joinLine_grows .record (.entry e' :: l) (append e (lineLeft ws s))
  have run := exec_admitted hw (by omega)
  rw [is] at run
  generalize joinLine .record (.entry e' :: l) (append e (lineLeft ws s)) = v at *
  rw [nextStage_waits v (stage_waits waits)] at run
  have rested := finish_rested (waiting s - 1) (s := v) (by rw [sys_of_unposted un, hr]; decide)
  obtain ⟨-, sys, -, -, -, -, -, -, -, -, tariff, -⟩ := rested.fields
  exact ⟨_, run, sys.trans (sys_of_unposted un), tariff.trans (tariff_of_unposted un), posts.trans rested.posts⟩

/-! ### The last post of a stage (R177, R179) -/

/-- The only producer in line gives the stage's last post. -/
def lastLetIn (e : PostEntry) (s : State) : State := append e (lineLeft [] s)

theorem exec_last (hw : s.gate.waiters = [⟨.record, [.entry e]⟩]) (hq : s.gate.queue.length < 16) :
    exec .producerAdmitted s = .next (finish (waiting s - 1) (nextStage (lastLetIn e s))) := by
  rw [exec_admitted hw hq, letIn_entry hw]
  rfl

theorem lastLetIn_given {y : Stage} (hr : s.sys.part = .starting) (hst : s.sys.stage = y) :
    stageGiven y (lastLetIn e s) = true := (stageGiven_eq y _).mpr ⟨hr, hst, rfl⟩

/-- The load of the profile's bank as it begins, before its reads are given. -/
def loadBegun (p : Profile) (s : State) : State :=
  { setBankGuard p.initial true s with
    sys := { (setBankGuard p.initial true s).sys with stage := .tariff },
    tariff := { (setBankGuard p.initial true s).tariff with startLoad := some p.initial, buf := [] } }

theorem loadBegun_leaves (p : Profile) (s : State) : (loadBegun p s).gate.queue = s.gate.queue
    ∧ (loadBegun p s).gate.waiters = s.gate.waiters ∧ (loadBegun p s).sys = { s.sys with stage := .tariff }
    ∧ (loadBegun p s).tariff = { s.tariff with startLoad := some p.initial, buf := [] } := by
  unfold loadBegun
  cases p.initial <;> exact ⟨rfl, rfl, rfl, rfl⟩

/-- Behind the last post of a cold power-on's stage 3 the load begins. -/
theorem last_cold (hr : s.sys.part = .starting) (hp : s.gate.profile = some p)
    (hw : s.gate.waiters = [⟨.record, [.entry e]⟩]) (hq : s.gate.queue.length < 16)
    (hst : s.sys.stage = .records) (hk : s.sys.kind = .cold) (hdone : recordsDone s = true) :
    ∃ t, exec .producerAdmitted s = .next t ∧ t.sys.part = .starting ∧ t.sys.stage = .tariff
      ∧ t.tariff.startLoad = some p.initial
      ∧ (s.gate.queue.length < 15 → s.gate.queue
          ++ [e, .read (if p.initial = .a then p.bankABase else p.bankBBase) 64 (.bank false)]
          <+: t.gate.queue) := by
  have given : (stageGiven .records (lastLetIn e s) && recordsDone (lastLetIn e s)) = true := by
    rw [lastLetIn_given hr hst, Bool.true_and]
    exact hdone
  have stage : nextStage (lastLetIn e s) = endRecords (lastLetIn e s) := by
    have here : (lastLetIn e s).sys.stage = .records := hst
    rw [nextStage, here]
  have leave : nextStage (lastLetIn e s) = leaveRecords (lastLetIn e s) := by
    rw [stage, endRecords, if_pos given]
  have prof : (lastLetIn e s).gate.profile = some p := hp
  have kind : (lastLetIn e s).sys.kind = .cold := hk
  have load : leaveRecords (lastLetIn e s) = startLoad (lastLetIn e s) := by
    rw [leaveRecords, prof, kind]
  have bank : startBank p (lastLetIn e s) = p.initial := by rw [startBank, kind]
  have is : startLoad (lastLetIn e s) = offer .tariffUnit (bankRuns p p.initial) (loadBegun p (lastLetIn e s)) := by
    simp only [startLoad, prof, bank, loadBegun]
  obtain ⟨bq, bw, bsys, btariff⟩ := loadBegun_leaves p (lastLetIn e s)
  have bank_first := fun h => offer_first (s := loadBegun p (lastLetIn e s)) .tariffUnit
    (.read (bankBase p p.initial) 64 (.bank false))
    (readRuns .bank (bankBase p p.initial + 64) (List.replicate 31 64)) h
  rw [← bankRuns_first] at bank_first
  have un := offer_unposted .tariffUnit (bankRuns p p.initial) (loadBegun p (lastLetIn e s))
  have run := exec_last hw hq
  rw [leave, load, is] at run
  generalize loadBegun p (lastLetIn e s) = b at *
  generalize offer .tariffUnit (bankRuns p p.initial) b = v at *
  have vsys : v.sys = { s.sys with stage := .tariff } := (sys_of_unposted un).trans bsys
  have vtariff := (tariff_of_unposted un).trans btariff
  have rested := finish_rested (waiting s - 1) (s := v) (by rw [vsys]; simp [hr])
  obtain ⟨-, sys, -, -, -, -, -, -, -, -, tariff, -⟩ := rested.fields
  refine ⟨_, run, by rw [sys, vsys]; exact hr, by rw [sys, vsys], by rw [tariff, vtariff], fun few => ?_⟩
  have queue : b.gate.queue = s.gate.queue ++ [e] := bq
  have free : placeFree b = true := by
    rw [placeFree, bw, queue, List.length_append]
    exact decide_eq_true (Nat.succ_lt_succ few)
  have given := (bank_first free).trans rested.posts
  have base : bankBase p p.initial = if p.initial = .a then p.bankABase else p.bankBBase := by
    cases p.initial <;> rfl
  rwa [queue, base, List.append_assoc] at given

/-! ### RUNNING entered behind the last post of stage 6 (R76, R85, R87) -/

/-- The lane found at the entry to RUNNING, by what start-up has left to be done. -/
theorem enterRunning_lane (v : State) :
    (v.coin.mustFlush = true → (enterRunning v).coin.lane = .flushing ∧ (enterRunning v).coin.gatePos = .toBox
      ∧ (enterRunning v).coin.flushTimer = some 2000 ∧ (enterRunning v).coin.escrow = []
      ∧ (enterRunning v).img.liveDirty = true)
    ∧ (v.coin.mustFlush = false → v.coin.lane ≠ .flushing → (enterRunning v).coin.started = true) := by
  obtain ⟨c, hc, cases_⟩ := startCoin_cases (entering v)
  have before := (entering_stays v).lane
  have behind := enterRunning_stays v
  have lane := behind.lane
  have touched := behind.touched
  generalize enterRunning v = r at *
  generalize entering v = y at *
  simp only [laneKept, Prod.mk.injEq] at before lane
  obtain ⟨blane, -, -, -, bmust, -⟩ := before
  obtain ⟨rlane, rgate, rtimer, rescrow, -, rstarted⟩ := lane
  obtain ⟨must, ⟨u, coin⟩, dirty⟩ | ⟨must, flushing, -⟩ | ⟨must, other, started⟩ := cases_
  · refine ⟨fun _ => ?_, fun h => absurd (must.symm.trans (bmust.trans h)) (by decide)⟩
    rw [coin] at rlane rgate rtimer rescrow
    exact ⟨rlane, rgate, rtimer, rescrow, touched dirty⟩
  · exact ⟨fun h => absurd ((bmust.trans h).symm.trans must) (by decide),
      fun _ h => absurd (blane.symm.trans flushing) h⟩
  · refine ⟨fun h => absurd ((bmust.trans h).symm.trans must) (by decide), fun _ _ => ?_⟩
    rw [rstarted, started]
    unfold coinStarted
    dsimp only
    split <;> rfl

/-- What of the lane a step's end leaves where the lane is not clear. -/
theorem finish_lane (n : Nat) (hr : s.sys.part = .running) (h : s.coin.lane ≠ .clear) :
    (finish n s).coin.lane = s.coin.lane ∧ (finish n s).coin.gatePos = s.coin.gatePos := by
  obtain ⟨⟨r, coin⟩, -⟩ := finish_settled n hr
  have lane := judgeMoney_laneOf h
  simp only [laneOf, Prod.mk.injEq] at lane
  obtain ⟨l, g, -⟩ := lane
  rw [coin]
  exact ⟨l, g⟩

theorem finish_flush (n : Nat) (s : State) : (finish n s).coin.flushTimer = s.coin.flushTimer
    ∧ (finish n s).coin.started = s.coin.started := by
  have step := finish_steady n s
  generalize finish n s = t at *
  have timer : (steady t).coin.flushTimer = (steady s).coin.flushTimer := by rw [step]
  have started : (steady t).coin.started = (steady s).coin.started := by rw [step]
  exact ⟨timer, started⟩

/-- A lane shown other than FLUSHING differs from a lane FLUSHING. -/
theorem rewriteDue_flushing (h : s.coin.lane = .flushing) (hx : u8 x.shown 1 / 16 % 8 ≠ 4) :
    rewriteDue .live x s = true := by
  have shows : u8 (liveFields s) 1 / 16 % 8 = 4 := by
    obtain ⟨-, -, laid, -⟩ := liveFields_laid s 0
    have byte : u8 (liveFields s) 1 = u8 (0 :: liveFields s) 2 := rfl
    have purse : purseCode s.meter.purse.state ≤ 3 := by cases s.meter.purse.state <;> decide
    have hold : holdCode s.meter.purse.hold ≤ 3 := by cases s.meter.purse.hold <;> decide
    rw [byte, laid, h]
    simp only [laneCode]
    split <;> omega
  cases hrun : changedRun .live x.shown (liveFields s) with
  | some r =>
    have changed : (changedRun .live x.shown (imageFields .live s)).isSome = true := by
      rw [show imageFields .live s = liveFields s from rfl, hrun]
      rfl
    rw [rewriteDue, changed]
    rfl
  | none =>
    have same := changedRun_none hrun (liveFields_length s)
    refine absurd ?_ hx
    rw [← shows, ← same]
    have kept : u8 (x.shown.take (imageLen .live)) 1 = u8 x.shown 1 := by
      unfold u8
      rw [List.getD_eq_getElem?_getD, List.getD_eq_getElem?_getD, List.getElem?_take_of_lt (by decide)]
    rw [kept]

/-- Behind the last post of stage 6 the part is RUNNING. -/
theorem last_announce (hr : s.sys.part = .starting) (hp : s.gate.profile = some p)
    (hw : s.gate.waiters = [⟨.record, [.entry e]⟩]) (hq : s.gate.queue.length < 16)
    (hst : s.sys.stage = .announce) : ∃ t, exec .producerAdmitted s = .next t ∧ t.sys.part = .running
      ∧ s.gate.queue ++ [e] <+: t.gate.queue
      ∧ (s.coin.mustFlush = true → t.coin.lane = .flushing ∧ t.coin.gatePos = .toBox
        ∧ t.coin.flushTimer = some 2000 ∧ t.coin.escrow = []
        ∧ (s.img.live.on = true → u8 s.img.live.shown 1 / 16 % 8 ≠ 4 → liveShown p s.img.live s t))
      ∧ (s.coin.mustFlush = false → s.coin.lane ≠ .flushing → t.coin.started = true) := by
  have stage : nextStage (lastLetIn e s) = endAnnounce (lastLetIn e s) := by
    have here : (lastLetIn e s).sys.stage = .announce := hst
    rw [nextStage, here]
  have enter : nextStage (lastLetIn e s) = enterRunning (lastLetIn e s) := by
    rw [stage, endAnnounce, if_pos (lastLetIn_given hr hst)]
  have run := exec_last hw hq
  rw [enter] at run
  obtain ⟨core, posts⟩ := enterRunning_core (lastLetIn e s)
  obtain ⟨flush, started⟩ := enterRunning_lane (lastLetIn e s)
  generalize enterRunning (lastLetIn e s) = r at *
  simp only [entryCore, Prod.mk.injEq] at core
  obtain ⟨-, -, part, -, prof, live⟩ := core
  have given : s.gate.queue ++ [e] <+: r.gate.queue := posts
  have steadied := finish_steady (waiting s - 1) r
  obtain ⟨timer, up⟩ := finish_flush (waiting s - 1) r
  refine ⟨_, run, (congrArg Sys.part (sys_of_steady steadied)).trans part, given.trans (finish_grows _ _),
    fun must => ?_, fun must other => up.trans (started must other)⟩
  obtain ⟨rlane, rgate, rtimer, rescrow, dirty⟩ := flush must
  obtain ⟨lane, gate⟩ := finish_lane (waiting s - 1) part (by rw [rlane]; decide)
  refine ⟨lane.trans rlane, gate.trans rgate, timer.trans rtimer, (finish_escrow _ _).trans rescrow,
    fun on shown => ?_⟩
  have all := finish_shown (waiting s - 1) (prof.trans hp) live on dirty fun w hwc =>
    rewriteDue_flushing (by rw [hwc, lane, rlane]) shown
  exact liveShown_of_grows ((List.prefix_append _ _).trans given) all

end

/-- Settles O19. -/
theorem postEngineServesTheQueue : Obligations.PostEngineServesTheQueue := by
  refine ⟨fun s a d tag q hm hq hh hd ha => ⟨written_mem hm hq hh hd ha, fun hr m hmem => ?_⟩,
    fun s d n hr h hb => order_read hr h hb, ⟨fun s w e ws hw hq => admitted_entry hw hq,
      fun s p i k ws hw hq hp hk => admitted_image hw hq hp hk, fun s p e hr hp hw hq => ⟨?_, ?_⟩,
      fun s e e' l ws hr hw hq => admitted_waits hr hw hq⟩,
    fun s a d q h v hm hr hq hh hd ha => held_served hm hr hq hh hd ha,
    fun i p x s hx hon hdue hp => ⟨?_, giveRewrite_owes hx hon hdue, fun hpos => giveRewrite_folds (hx ▸ hpos)⟩,
    fun i p x s => ⟨rfl, ?_, rfl, imageRun_fields i p x s, imageRun_clock p x s, rfl, rfl, rfl,
      afterRun_clock x s, fun o n hin shown hl hne hd => imageRun_one p x s hin hl hne hd⟩⟩
  · subst hmem
    refine ⟨?_, fun n => ?_, fun w => ?_, fun i => ?_⟩
    · rintro rfl
      exact leads_written hr hq hh
    · rintro rfl
      have given := leads_written hr hq hh
      have effect : writtenEffect (.slotDone n) (written a d s) = slotWritten n (written a d s) := rfl
      rw [effect, slotWritten_eq] at given
      exact given
    · rintro rfl
      have given := leads_written hr hq hh
      have effect : writtenEffect (.eventIndex w) (written a d s) = indexWritten w (written a d s) := rfl
      rw [effect, indexWritten_running w (s := written a d s) hr] at given
      exact given
    · rintro rfl
      exact leadsWith_imageEnd hr hq hh
  · intro hst hk h1 h2 h3 h4
    exact last_cold hr hp hw hq hst hk (by rw [recordsDone, h1, h2, h3, h4]; rfl)
  · exact fun hst => last_announce hr hp hw hq hst
  · intro hpos hs hw hq
    have free : placeFree s = true := by
      rw [placeFree, hw]
      exact decide_eq_true hq
    have lead := giveRewrite_lead (i := i) hp (by rw [hx, hon]) (by rw [hx, hpos]) (by rw [hx, hdue]) hs free
    rwa [hx] at lead
  · rw [imageFields_length, Nat.add_right_comm]
    rfl

end Sys2Proof.Proofs
